-- ==== Sys2Proof/Word.lean ====
section
/-! DEFINITION. The plainest words of the model. -/

namespace Sys2Proof

/-- A register word of the window; a 32-bit register uses its low half (R37). -/
abbrev Word := BitVec 64

/-- A control or data block with its 2-bit header (R267). -/
abbrev Block := BitVec 258

/-- The 768 bits of a container (R324). -/
abbrev RawContainer := BitVec 768

/-- The 224 body bits of a MSG item (R326, R345). -/
abbrev Msg := BitVec 224

end Sys2Proof
end

