-- ==== Sys2Proof/Syntax.lean ====
section
/-! DEFINITION. The commands of the fabric, one constructor of Instr per row of spec/opcode_table.json, and the data they carry.
-/

namespace Sys2Proof

/-- The four networks (R16, R17), numbered 0 to 3 as in R440. -/
inductive Net where
  | req | rsp | snp | dat
deriving DecidableEq, Repr

/-- The service classes, in the encoding order of R65. -/
inductive Cls where
  | gt | ll | be | mg
deriving DecidableEq, Repr

/-- The eight register masters in index order (R401). -/
inductive Master where
  | mgt | sec | host0 | host1 | host2 | host3 | dbg | pfc
deriving DecidableEq, Repr

/-- The two sides of an attach-port crossing (R362). -/
inductive Side where
  | fabric | unit
deriving DecidableEq, Repr

/-- The two strand complexes. -/
inductive StrandComplex where
  | a | b
deriving DecidableEq, Repr

/-- The ports of a router, numbered N, E, S, W, L0, L1 as 0 to 5 (R103). -/
inductive RPort where
  | n | e | s | w | l0 | l1
deriving DecidableEq, Repr

/-- What the SEC-DED of a register or table word found at an access (R421). -/
inductive Ecc where
  | clean | single | uncorrectable
deriving DecidableEq, Repr

/-- What an FLT_ACK write or a fault command names (R426, R437): the four kinds of domain. -/
inductive Domain where
  | tile (t : Fin 48)
  | strand (n : Fin 10)
  | port (p : Fin 96)
  | global
deriving DecidableEq, Repr

/-- How a RELAY_RESOLVE write settles an entry (R259, R263). -/
inductive Resolve where
  | commit | abort
deriving DecidableEq, Repr

/-- The strand power states (R312), in the encoding of SL_CTRL.PWR_REQ. -/
inductive StrandPwr where
  | active | standby | deep
deriving DecidableEq, Repr

/-- The widths SL_CTRL.WIDTH_REQ names (R319). -/
inductive WidthReq where
  | widest | x4 | x2
deriving DecidableEq, Repr

/-- A flit, field by field (R65, R73 to R76): the covered bits without check bits. One structure serves the four networks;
a field a network's flit does not have stays at its default. A DAT flit with xf = true is in transit form when it crosses a strand. -/
structure Flit where
  net    : Net
  dst    : BitVec 7 := 0
  src    : BitVec 7 := 0
  cls    : Cls := .ll
  vc     : BitVec 3 := 0
  qos    : BitVec 4 := 0
  epoch  : Bool := false
  tag    : BitVec 12 := 0
  opc    : BitVec 6 := 0
  xf     : Bool := false
  dstdev : BitVec 5 := 0
  srcdev : BitVec 5 := 0
  e2seq  : BitVec 16 := 0
  lkv    : Bool := false
  lkt    : BitVec 6 := 0
  attr   : BitVec 8 := 0
  lmask  : BitVec 4 := 0
  addr   : BitVec 52 := 0
  rarg   : BitVec 40 := 0
  sub    : BitVec 4 := 0
  arg    : BitVec 15 := 0
  laddr  : BitVec 46 := 0
  lidx   : BitVec 2 := 0
  msk    : Bool := false
  dpsn   : Bool := false
  cnet   : Bool := false
  /-- A DAT flit in transit form (R76): SRC and TAG are not carried. -/
  transit : Bool := false
  data   : BitVec 512 := 0
deriving DecidableEq, Repr

/-- Bits a link flips in the flit that leaves a router by one output in this cycle, numbered in the full flit with its
check bits (R69), and whether the receiving buffer shows a parity error (source 2, R419). -/
structure LinkErr where
  out  : RPort
  bits : List Nat
  par  : Bool
deriving DecidableEq, Repr

/-- What the receiver of one physical lane has seen at a bit offset: the headers of consecutive blocks, on complex B consecutive codewords as
the levels give their bits (R273, R293). -/
structure LaneTry where
  lane      : Fin 8
  headers   : List (BitVec 2)
  codewords : List (BitVec 2720)
deriving DecidableEq, Repr

/-- What a strand receives: a block of its stream or of its lanes, decoded; or the UI of its physical lanes, as bits on complex A and PAM4
levels on complex B, with the blocks by which the clocks of the two ends have drifted apart over them (R267 to R288). -/
inductive RxIn where
  | block (b : Block)
  | lanes (drift : Int) (uis : List (Fin 8 × List Nat))
deriving DecidableEq, Repr

/-- A slot of a fabric half, and the bits flipped in the flit on its way to the router input (R71), numbered in the full flit with its
check bits (R69). -/
structure HalfSlot where
  slot  : Fin 128
  flips : List Nat
deriving DecidableEq, Repr

/-- A strand, and whether its SLn_PRSNT_n is low (R292). -/
structure BurstAt where
  strand : Fin 10
  low    : Bool
deriving DecidableEq, Repr

/-- A TSYNC as a strand receives it, and whether the partner reports its time SYNCED (R143). -/
structure TsyncIn where
  rx     : RxIn
  synced : Bool
deriving DecidableEq, Repr

/-- A container as a strand receives it: its 768 bits, or the UI that carry it. -/
inductive RxCtnr where
  | whole (c : RawContainer)
  | lanes (drift : Int) (uis : List (Fin 8 × List Nat))
deriving DecidableEq, Repr

/-- The commands. The docstring of each names the row's rule. m is the register master that makes the access. -/
inductive Instr where
  /-- POWER_ON (R394): core reset released after P; the straps and the PF_WARN_n level it samples. -/
  | powerOn (test confHost0 pfWarnLow : Bool)
  /-- WARM_RESET (R365). -/
  | warmReset
  /-- RESET_RELEASE (R379). -/
  | resetRelease
  /-- FAB_CMD_LOAD (R379). -/
  | fabCmdLoad (m : Master)
  /-- FAB_CMD_ABORT (R379). -/
  | fabCmdAbort (m : Master)
  /-- FAB_CMD_RESTORE (R394). -/
  | fabCmdRestore (m : Master)
  /-- DRAIN_TO_HOLD (R386). -/
  | drainToHold (m : Master)
  /-- DRAIN_TO_KEEP (R386). -/
  | drainToKeep (m : Master)
  /-- SEAL (R383): FAB_SEAL written with WORD 0x5EA1 and this CRC. -/
  | sealWrite (m : Master) (crc : BitVec 32)
  /-- CONFIGURATION_CHECKER_DONE (R384). -/
  | configurationCheckerDone
  /-- LOAD_TIMEOUT (R383). -/
  | loadTimeout
  /-- PF_WARN_FALL (R386): the filtered falling edge. -/
  | pfWarnFall
  /-- PF_WARN_RISE (R379). -/
  | pfWarnRise
  /-- RPLL_LOSS (R356). -/
  | rpllLoss
  /-- DRAIN_FINAL (R388). -/
  | drainFinal
  /-- RESTORE_RELOAD_DONE (R395): the segments whose stored bytes no longer match their CRC. -/
  | restoreReloadDone (bad : List (Fin 59))
  /-- GT_HOLD_CLEAR (R396). -/
  | gtHoldClear
  /-- KEEPSAKE_LOST (R393). -/
  | keepsakeLost
  /-- HM_SUBMIT_AT_TIME (R151). -/
  | hmSubmitAtTime (m : Master)
  /-- HM_SUBMIT_NEXT_FRAME (R152). -/
  | hmSubmitNextFrame (m : Master)
  /-- HM_CANCEL (R151): the entry ID written. -/
  | hmCancel (m : Master) (id : BitVec 9)
  /-- HM_SEND_TO_TILES (R153): the global entry whose time has come. -/
  | hmSendToTiles (e : Fin 32)
  /-- EPOCH_SWITCH (R131). -/
  | epochSwitch
  /-- BEAD_SWAP (R176). -/
  | beadSwap
  /-- CAMEO (R450). -/
  | cameo
  /-- FREEZE_ON (R451). -/
  | freezeOn
  /-- FREEZE_OFF (R451). -/
  | freezeOff
  /-- PORT_POWER_HALLMARK (R211): the first ACT 0x06 entry of the tile's queue launches. -/
  | portPowerHallmark (tile : Fin 48)
  /-- MODE_CHANGE (R380). -/
  | modeChange
  /-- FAULT_INJECTION (R435). -/
  | faultInjection (tile : Fin 48)
  /-- CLASP_APPLY (R418). -/
  | claspApply
  /-- EPOCH_DRAIN_DONE (R132). -/
  | epochDrainDone
  /-- EPOCH_DRAIN_OVERDUE (R132). -/
  | epochDrainOverdue
  /-- PLANNER_APPLY (R127). -/
  | plannerApply
  /-- PLANNER_RESUBMIT (R127). -/
  | plannerResubmit
  /-- CLASP_OPEN (R411). -/
  | claspOpen (m : Master)
  /-- CLASP_CLOSE (R411). -/
  | claspClose (m : Master)
  /-- CLASP_STAGE (R412): the CLASP_DATA word. -/
  | claspStage (m : Master) (data : BitVec 64)
  /-- CLASP_CONFIRM (R413). -/
  | claspConfirm (m : Master) (digest : BitVec 32)
  /-- CLASP_CHECK_DONE (R414). -/
  | claspCheckDone
  /-- CLASP_ARM (R416). -/
  | claspArm (m : Master) (t : BitVec 64)
  /-- CLASP_CANCEL (R417). -/
  | claspCancel (m : Master)
  /-- CLASP_TIMEOUT (R411). -/
  | claspTimeout
  /-- REGISTER_WRITE (R409): offset, size in bytes, data, and what ECC finds in the word (R421). -/
  | registerWrite (m : Master) (off : BitVec 24) (size : Nat) (data : BitVec 64) (ecc : Ecc)
  /-- VIEW_SELECT (R47): a PG_CTRL write to the page at this offset that leaves EXPERT_EN as it is. -/
  | viewSelect (m : Master) (page : BitVec 24) (sel : BitVec 8) (bank : Bool)
  /-- EXPERT_ENABLE (R58). -/
  | expertEnable (m : Master) (page : BitVec 24)
  /-- EXPERT_DISABLE (R59). -/
  | expertDisable (m : Master) (page : BitVec 24)
  /-- ACCESS_TIMEOUT (R406): the access that timed out. -/
  | accessTimeout (m : Master) (off : BitVec 24) (size : Nat) (write : Bool) (data : BitVec 64)
  /-- COUNTER_LOW_READ (R447). -/
  | counterLowRead (m : Master) (off : BitVec 24)
  /-- COUNTER_PRESET (R448). -/
  | counterPreset (m : Master) (off : BitVec 24) (size : Nat) (data : BitVec 64)
  /-- FAI_OFFER (R197). -/
  | faiOffer (port : Fin 96) (flit : Flit)
  /-- FABRIC_HALF_INJECT (R483), in this slot. -/
  | fabricHalfInject (port : Fin 96) (net : Net) (slot : HalfSlot)
  /-- GT_SLOT_INJECT (R163), in this slot. -/
  | gtSlotInject (port : Fin 96) (net : Net) (slot : HalfSlot)
  /-- ROUTER_GRANT (R116): one FCLK cycle of one router, in this slot, with what the links corrupt. -/
  | routerGrant (tile : Fin 48) (net : Net) (slot : Fin 128) (errs : List LinkErr)
  /-- TR_TO_TE_MOVE (R115): the TR flit at the head of this input (N, E, S, W, L0, L1, and 6 the answer queue's), in this slot. -/
  | trToTeMove (tile : Fin 48) (net : Net) (inp : Fin 7) (slot : Fin 128)
  /-- FLIT_EJECT (R197): the oldest flit on its way into the fabric half; the bits flipped on the way. -/
  | flitEject (port : Fin 96) (net : Net) (flips : List Nat)
  /-- PAIR_TIMEOUT (R90). -/
  | pairTimeout (port : Fin 96)
  /-- EJECT_CREDIT_RETURN (R195): n credits of one class. -/
  | ejectCreditReturn (port : Fin 96) (net : Net) (cls : Cls) (n : Nat)
  /-- RETRY_EXPIRY (R199): the open entry by its index in the table. -/
  | retryExpiry (port : Fin 96) (idx : Fin 256)
  /-- GHOST_END (R200). -/
  | ghostEnd (port : Fin 96) (idx : Fin 256)
  /-- PING_SEND (R201). -/
  | pingSend (port : Fin 96)
  /-- PEER_DOWN (R204): fai_rst_n falls. -/
  | peerDown (port : Fin 96)
  /-- QRESET (R204). -/
  | qreset (m : Master) (port : Fin 96)
  /-- PORT_ACTIVATE (R203): fai_rst_n is 1. -/
  | portActivate (port : Fin 96)
  /-- FENCE_REQUEST (R209). -/
  | fenceRequest (m : Master) (port : Fin 96)
  /-- FENCE_CANCEL (R203). -/
  | fenceCancel (m : Master) (port : Fin 96)
  /-- FENCE_DRAINED (R203). -/
  | fenceDrained (port : Fin 96)
  /-- FENCE_STUCK (R203). -/
  | fenceStuck (port : Fin 96)
  /-- PWR_ACK (R210). -/
  | pwrAck (port : Fin 96)
  /-- PWR_NOACK (R210). -/
  | pwrNoack (port : Fin 96)
  /-- TILE_WAVE (R375). -/
  | tileWave
  /-- CROSSING_INIT (R363). -/
  | crossingInit (port : Fin 96) (side : Side)
  /-- CROSSING_ALIVE_MISS (R363). -/
  | crossingAliveMiss (port : Fin 96) (side : Side)
  /-- CROSSING_PEER_RDY_LOW (R363). -/
  | crossingPeerRdyLow (port : Fin 96) (side : Side)
  /-- CROSSING_ARM (R363). -/
  | crossingArm (port : Fin 96) (side : Side)
  /-- CROSSING_RUN (R363). -/
  | crossingRun (port : Fin 96) (side : Side)
  /-- TIME_START (R145). -/
  | timeStart
  /-- TIME_REALIGN (R141): the ns by which each named tile copy comes off the ring value after it. -/
  | timeRealign (drift : List (Fin 48 × Int))
  /-- TSYNC_SEND (R335). -/
  | tsyncSend (strand : Fin 10)
  /-- TREQ_RECEIVE (R335): the TREQ block. -/
  | treqReceive (strand : Fin 10) (rx : RxIn)
  /-- TSYNC_RECEIVE (R335): the TSYNC block, and whether the partner reports its time SYNCED (R143). -/
  | tsyncReceive (strand : Fin 10) (tsync : TsyncIn)
  /-- TRESP_RECEIVE (R144): the TRESP block. -/
  | trespReceive (strand : Fin 10) (rx : RxIn)
  /-- TIME_STEP (R147). -/
  | timeStep
  /-- HOLDOVER_EXPIRE (R145). -/
  | holdoverExpire
  /-- SYNC_DISABLE (R148). -/
  | syncDisable (m : Master)
  /-- FAULT_WINDOW_END (R424): the domain and source whose window ends. -/
  | faultWindowEnd (dom : Domain) (src : Fin 15)
  /-- QUIET_EXPIRE (R427). -/
  | quietExpire (dom : Domain)
  /-- REACTION_COMPLETE (R426). -/
  | reactionComplete (dom : Domain)
  /-- SHADOW_END (R432): the shadow of this domain's reaction. -/
  | shadowEnd (dom : Domain)
  /-- FLT_ACKNOWLEDGE (R427). -/
  | fltAcknowledge (m : Master) (kind : BitVec 2) (inst : BitVec 7)
  /-- FLT_READMIT (R427). -/
  | fltReadmit (m : Master) (kind : BitVec 2) (inst : BitVec 7)
  /-- TILE_ISOLATE_CMD (R433). -/
  | tileIsolateCmd (m : Master) (tile : Fin 48)
  /-- TILE_READMIT_CMD (R433). -/
  | tileReadmitCmd (m : Master) (tile : Fin 48)
  /-- INJECTION_PERIOD_END (R436): the oldest injection of this source in this domain. -/
  | injectionPeriodEnd (dom : Domain) (src : Fin 15)
  /-- HOME_STAGING_ECC (R420): steps of home_stg_ue of this channel's HOME. -/
  | homeStagingEcc (ch : Fin 16) (steps : Nat)
  /-- LKOPEN (R240): the oldest LKOPEN on the path from this port. -/
  | lkopen (port : Fin 96)
  /-- LKSTAGE (R241): an LKSTAGE offered at the opening port. -/
  | lkstage (port : Fin 96) (flit : Flit)
  /-- LKSTAGE_ANSWER (R258): the oldest reported answer. -/
  | lkstageAnswer
  /-- LKCOMMIT (R247): the oldest LKCOMMIT on the path from this port. -/
  | lkcommit (port : Fin 96)
  /-- LKABORT (R252): the oldest LKABORT on the path from this port. -/
  | lkabort (port : Fin 96)
  /-- LOCKET_OPEN_TIMEOUT (R240). -/
  | locketOpenTimeout (lkt : Fin 64)
  /-- LOCKET_PREPARE (R248). -/
  | locketPrepare (lkt : Fin 64)
  /-- LKVOTE_RECEIVE (R250): the oldest LKVOTE at the locket port. -/
  | lkvoteReceive
  /-- VOTE_DEADLINE (R249). -/
  | voteDeadline (lkt : Fin 64)
  /-- LKDONE_RECEIVE (R252): the oldest LKDONE at the locket port. -/
  | lkdoneReceive
  /-- LOCKET_RESEND (R252). -/
  | locketResend (lkt : Fin 64)
  /-- DECISION_DELIVER (R251): the oldest held decision of this HOME port. -/
  | decisionDeliver (port : Fin 96)
  /-- RELAY_PREPARE (R239): the oldest remote LKCOMMIT or LKABORT at the locket port. -/
  | relayPrepare
  /-- RELAY_RESOLVE (R259). -/
  | relayResolve (m : Master) (entry : Fin 64) (outcome : Resolve)
  /-- DOUBT_ABORT (R260). -/
  | doubtAbort
  /-- STRAND_ENABLE (R290). -/
  | strandEnable (m : Master) (strand : Fin 10)
  /-- STRAND_DISABLE (R290). -/
  | strandDisable (m : Master) (strand : Fin 10)
  /-- SRESET (R365). -/
  | sreset (m : Master) (strand : Fin 10)
  /-- RETRAIN (R302). -/
  | retrain (m : Master) (strand : Fin 10)
  /-- DETECT_BURST (R292): whether SLn_PRSNT_n is low. -/
  | detectBurst (burst : BurstAt)
  /-- PRSNT_FALL (R292). -/
  | prsntFall (strand : Fin 10)
  /-- DETECT_SIGNAL (R290). -/
  | detectSignal (strand : Fin 10)
  /-- BITLOCK_DONE (R289, R293): what the physical lanes' receivers have seen, and the frequency offset of each in ppm. -/
  | bitlockDone (strand : Fin 10) (tries : List LaneTry) (ppm : Vector Int 8)
  /-- POLARITY_DONE (R294): P[71:8] of two consecutive markers on each physical lane. -/
  | polarityDone (strand : Fin 10) (marks : List (Fin 8 × BitVec 64 × BitVec 64))
  /-- LANEMAP_DONE (R295): LANE of two consecutive markers on each physical lane. -/
  | lanemapDone (strand : Fin 10) (marks : List (Fin 8 × BitVec 3 × BitVec 3))
  /-- DESKEW_DONE (R296): MCNT of a marker on each physical lane, and when the lane's arrived, in 0.125 ns. -/
  | deskewDone (strand : Fin 10) (marks : List (Fin 8 × BitVec 16)) (times : Vector Nat 8)
  /-- EQ_DWELL_END (R304, R305): V and E of each logical lane in the dwell. -/
  | eqDwellEnd (strand : Fin 10) (eyes : List (BitVec 6 × Nat))
  /-- PRESET_DONE (R290). -/
  | presetDone (strand : Fin 10)
  /-- CONFIG_HANDSHAKE_DONE (R299). -/
  | configHandshakeDone (strand : Fin 10)
  /-- TRAIN_STAGE_TIMEOUT (R291). -/
  | trainStageTimeout (strand : Fin 10)
  /-- ABSENT_EXPIRE (R291). -/
  | absentExpire (strand : Fin 10)
  /-- MARKER_RECEIVE (R301). -/
  | markerReceive (strand : Fin 10) (rx : RxIn)
  /-- MARKER_SEND (R284). -/
  | markerSend (strand : Fin 10)
  /-- TS_IN_ACTIVE (R302). -/
  | tsInActive (strand : Fin 10)
  /-- LOSS_OF_SIGNAL (R311). -/
  | lossOfSignal (strand : Fin 10) (lane : BitVec 3)
  /-- LOSS_OF_BLOCK_LOCK (R273). -/
  | lossOfBlockLock (strand : Fin 10) (lane : BitVec 3)
  /-- FOM_UPDATE (R304): V and E of each logical lane. -/
  | fomUpdate (strand : Fin 10) (eyes : List (BitVec 6 × Nat))
  /-- FOM_FLOOR (R310). -/
  | fomFloor (strand : Fin 10)
  /-- CAL_SEND (R308). -/
  | calSend (strand : Fin 10)
  /-- REFCLK_LOSS (R460), and whether pair 0 shows a clock when the PLL restarts (R459). -/
  | refclkLoss (cx : StrandComplex) (pair0 : Bool)
  /-- LANE_GROUP_POWERUP (R376): the next action of the schedule, with the reference pair a starting PLL finds. -/
  | laneGroupPowerup (pair0 : Bool)
  /-- STRAND_PWR_REQ (R314). -/
  | strandPwrReq (m : Master) (strand : Fin 10) (req : StrandPwr)
  /-- STRAND_WIDTH_REQ (R314). -/
  | strandWidthReq (m : Master) (strand : Fin 10) (req : WidthReq)
  /-- LCTL_REQ_RECEIVE (R315). -/
  | lctlReqReceive (strand : Fin 10) (rx : RxIn)
  /-- LCTL_ANSWER_RECEIVE (R316). -/
  | lctlAnswerReceive (strand : Fin 10) (rx : RxIn)
  /-- LCTL_TIMEOUT (R314). -/
  | lctlTimeout (strand : Fin 10)
  /-- STANDBY_EXIT (R317). -/
  | standbyExit (strand : Fin 10)
  /-- DEEP_WAKE (R318). -/
  | deepWake (strand : Fin 10)
  /-- DEEP_EXIT_TIMEOUT (R318). -/
  | deepExitTimeout (strand : Fin 10)
  /-- CONTAINER_SEND (R328). -/
  | containerSend (strand : Fin 10)
  /-- CONTAINER_RECEIVE (R329): bad says that a block of a whole container is marked bad (R272, R281), which the UI of lanes show
  themselves. -/
  | containerReceive (strand : Fin 10) (rx : RxCtnr) (bad : Bool)
  /-- REPLAY_TIMEOUT (R331). -/
  | replayTimeout (strand : Fin 10)
  /-- ACKC_SEND (R330). -/
  | ackcSend (strand : Fin 10)
  /-- CREDIT_REFRESH (R332). -/
  | creditRefresh (strand : Fin 10)
  /-- CRC_WINDOW_END (R337). -/
  | crcWindowEnd (strand : Fin 10)
  /-- FAILOVER_DONE (R339). -/
  | failoverDone (strand : Fin 10)
  /-- HELLO_SEND (R346). -/
  | helloSend (strand : Fin 10)
  /-- HELLO_RECEIVE (R346): the oldest HELLO received on this strand. -/
  | helloReceive (strand : Fin 10)
  /-- HELLO_TIMEOUT (R336). -/
  | helloTimeout (strand : Fin 10)
  /-- SEQUENCER_ARRIVAL (R340): the head of a TR, TE or GT receive buffer (0 GT, 1 TR, 2 TE, as R332 numbers them). -/
  | sequencerArrival (strand : Fin 10) (net : Net) (buf : Fin 3)
  /-- SEQ_HANDOVER_RELEASE (R341): source device and stream (0 REQ, 1 RSP, 2 SNP). -/
  | seqHandoverRelease (dev : Fin 32) (stream : Fin 3)
  /-- SEQ_GAP_SKIP (R341). -/
  | seqGapSkip (dev : Fin 32) (stream : Fin 3)
  /-- E2ACK_SEND (R342). -/
  | e2ackSend (dev : Fin 32)
  /-- E2ACK_RECEIVE (R342): the oldest received. -/
  | e2ackReceive
  /-- SSYNC_RECEIVE (R342). -/
  | ssyncReceive
  /-- SSYNC_ACK_RECEIVE (R342). -/
  | ssyncAckReceive
  /-- ROOT_SETTLE (R347). -/
  | rootSettle
  /-- TOPO_RECEIVE (R347). -/
  | topoReceive
  /-- ENUM_RECEIVE (R347). -/
  | enumReceive
  /-- ENUM_ACK_RECEIVE (R347). -/
  | enumAckReceive
  /-- ROUTE_RECEIVE (R347). -/
  | routeReceive
  /-- ACTIVATE_RECEIVE (R348). -/
  | activateReceive
  /-- PUSH_CHECK_DONE (R348). -/
  | pushCheckDone
  /-- SAMPLE_TIMEOUT (R454). -/
  | sampleTimeout (n : Fin 4)
  /-- SAMPLER_CLEAR (R456). -/
  | samplerClear (m : Master) (n : Fin 4)
  /-- REGISTER_READ (R410). -/
  | registerRead (m : Master) (off : BitVec 24) (size : Nat) (ecc : Ecc)
  /-- PORT_POWER_UP_DONE (R211). -/
  | portPowerUpDone (port : Fin 96)
  /-- COMPLEX_PLL_LOCKED (R376). -/
  | complexPllLocked (cx : StrandComplex)
  /-- TS_OR_TCB_RECEIVE (R305). -/
  | tsOrTcbReceive (strand : Fin 10) (rx : RxIn)
  /-- VDD_KEEP_LOSS (R469). -/
  | vddKeepLoss
deriving DecidableEq, Repr

end Sys2Proof
end

