-- ==== Sys2Proof/Decode.lean ====
section
/-! DEFINITION. The words of the command table. A command of the fabric is an event, a write or a read at its boundary and not
a word: no row of spec/opcode_table.json gives bits, so no word spells a command. -/

namespace Sys2Proof

/-- The command a word spells by the table's bits: none, since no row gives bits. -/
def decodeTableWord (_nbits _w : Nat) : Option Instr := none

end Sys2Proof
end

