-- ==== Sys2Proof/Config.lean ====
section
/-! DEFINITION. What the spec leaves open and the machine still computes with: free values, with no body, so that no proof
can see one. -/

namespace Sys2Proof.Config

/-- FREE VALUE (log entry 1). The n-th value the spec calls undetermined in a run: whether a timed-out write took effect (R406). -/
opaque freeBit : Nat → Bool

/-- FREE VALUE (log entry 6). The length in 32-byte units of keepsake segment i at save n (R391, R400): the spec gives the
contents of a segment and not their store order. -/
opaque segLen : Nat → Nat → BitVec 16

/-- FREE VALUE (log entry 6). The CRC-32C of keepsake segment i at save n (R391). -/
opaque segCrc : Nat → Nat → BitVec 32

/-- FREE VALUE (log entry 6). The KS_CRC an integrity check computes over damaged segments (R395). -/
opaque badCrc : Nat → BitVec 32

/-- FREE VALUE (log entry 92). The n-th CDR phase that a re-centring finds (R308, R309): the spec gives no result of the search. -/
opaque cdrPhase : Nat → BitVec 6

/-- FREE VALUE (log entry 92). The n-th DFE trim that a receiver adapts to (R307, R309). -/
opaque dfeTrim : Nat → BitVec 6

end Sys2Proof.Config
end

