-- ==== Sys2Proof/Machine/State.lean ====
section
/-! DEFINITION. The state of the fabric as plain data, and State.reset. Rule numbers are those of spec/. Times named "cycle" are
counts of FCLK cycles (clk.cyc); a deadline is the cycle at which its timer expires. -/

namespace Sys2Proof.Machine

/-- A sparse map in canonical form (Machine/Ops.lean): keys rising, no entry equal to the default its reader names. -/
abbrev Sparse (α : Type) := List (Nat × α)

/-- A sparse map of register words. -/
abbrev Store := Sparse Word

/-! ### Modes, power failure, keepsake -/

/-- FAB_STAT.MODE (R31, R379). -/
inductive Mode where
  | hold | load | run | degraded | drain | keep | restore | test
deriving DecidableEq, Repr

/-- FAB_STAT.HOLD_WHY, in code order (R385). -/
inductive HoldWhy where
  | none | noImage | crc | route | detour | bead | addrmap | value | clasp | devid | strap | keepsake | resume
  | quiesced | power | loadTimeout
deriving DecidableEq, Repr

/-- The whole-fabric resets that hold the fabric until their release (R365). -/
inductive HeldReset where
  | c | f
deriving DecidableEq, Repr

/-- What the configuration checker runs for (R384). -/
inductive ChkFor where
  | seal | test | restore
deriving DecidableEq, Repr

/-- FAB_STAT.DRAIN_SRC (R386), in code order. -/
inductive DrainSrc where
  | none | pfWarn | command | rpll
deriving DecidableEq, Repr

/-- The mode machine around MODE (R379 to R389, R396). -/
structure ModeSt where
  mode      : Mode := .hold
  why       : HoldWhy := .noImage
  heldReset : Option HeldReset := none
  /-- Running CRC register of the LOAD records (R381), before the final XOR; records folded. -/
  crcReg    : BitVec 32 := 0xFFFFFFFF
  records   : Nat := 0
  loadEnd   : Option Nat := none
  checking  : Option ChkFor := none
  chkResult : Nat := 0
  chkWhy    : HoldWhy := .none
  chkOffset : BitVec 24 := 0
  drainSrc  : DrainSrc := .none
  /-- Destination KEEP rather than HOLD (R386). -/
  drainKeep : Bool := false
  /-- A short drain (R388), and one entered from TEST. -/
  drainShort : Bool := false
  drainTest : Bool := false
  /-- RPLL loss: no carriage phase (R389). -/
  drainRpll : Bool := false
  drainAt   : Nat := 0
  gtHold    : Bool := false
  /-- Cycle of RESTORE entry, from which JOIN_MS counts (R396); cycle of the last F reset. -/
  joinAt    : Nat := 0
  resetAt   : Nat := 0
deriving DecidableEq, Repr

/-- Balls and board levels (R464, R473, R474, R469). DESIGN CHOICE (log entry 3). -/
structure PinSt where
  pfWarnLow : Bool := false
  pfDone    : Bool := false
  keepEn    : Bool := false
  prsntLow  : Vector Bool 10 := Vector.replicate 10 false
  /-- VDD_KEEP below 0.550 V: PF_DONE and KEEP_EN float high (R474). -/
  keepGone  : Bool := false
deriving DecidableEq, Repr

/-- FAB_STRAPS (R407). DESIGN CHOICE (log entry 3). -/
structure Straps where
  test      : Bool := false
  confHost0 : Bool := false
deriving DecidableEq, Repr

/-- Identity fixed at build or manufacture (R43, R44, R352). DESIGN CHOICE (log entry 3). -/
structure Ident where
  build  : BitVec 16 := 1
  rev    : BitVec 16 := 0
  serial : BitVec 64 := 1
deriving DecidableEq, Repr

/-- What a strand keeps across resets (R306, R369). -/
structure StoredRow where
  lastRow   : Nat := 0
  lastFom   : Nat := 0
  lastValid : Bool := false
  txRow     : Nat := 0
deriving DecidableEq, Repr

/-- A lost element (R128): a tile, or a mesh link of one network by its number. -/
inductive Lost where
  | tile (t : Nat)
  | link (n : Nat) (net : Net)
deriving DecidableEq, Repr

/-- The saved image (R390): the settings R369 marks "restored" under K. -/
structure Image where
  regs      : Store := []
  tbls      : Store := []
  counters  : Sparse Nat := []
  views     : Sparse Nat := []
  selHeld   : Sparse Nat := []
  changes   : Sparse Nat := []
  epoch     : Bool := false
  beadBank  : Bool := false
  planned      : Option Lost := none
  plannedOther : Option Lost := none
  beadPlanned  : Bool := false
  beadPlannedOther : Bool := false
  gens      : Vector (BitVec 2) 96 := Vector.replicate 96 0
  pwrs      : Vector (BitVec 2) 96 := Vector.replicate 96 0
  tileRc    : Vector (Nat × Bool) 48 := Vector.replicate 48 (0, false)
  strandRc  : Vector (Nat × Bool) 10 := Vector.replicate 10 (0, false)
  portRc    : Vector (Nat × Bool) 96 := Vector.replicate 96 (0, false)
  globalRc  : Nat × Bool := (0, false)
  rows      : Vector StoredRow 10 := Vector.replicate 10 {}
  devId     : BitVec 5 := 0
  idv       : Bool := false
  version   : BitVec 8 := 0
  steps     : BitVec 8 := 0
  ftime     : BitVec 64 := 0
deriving DecidableEq, Repr

/-- The keepsake and the registers held on VDD_KEEP (R390 to R400). -/
structure KeepSt where
  valid      : Bool := false
  lost       : Bool := false
  incomplete : Bool := false
  cnt        : Bool := false
  doubt      : Bool := false
  drainSrc   : DrainSrc := .none
  check      : Nat := 0
  attempts   : Nat := 0
  segBad     : BitVec 8 := 0xFF
  build      : BitVec 16 := 0
  stored     : BitVec 32 := 0
  calcCrc    : BitVec 32 := 0
  ftime      : BitVec 64 := 0
  /-- KS_CTRL.AUTO (R399). -/
  auto       : Bool := false
  straps     : Straps := {}
  /-- Segments are held; saves made, the key of their free values. -/
  written    : Bool := false
  saves      : Nat := 0
  bad        : List Nat := []
  image      : Image := {}
deriving DecidableEq, Repr

/-! ### Clocks and time -/

/-- TIME_STAT.STATE (R145). -/
inductive TimeState where
  | unsynced | loc | synced
deriving DecidableEq, Repr

/-- Clocks (R354, R356) and the count of fabric time (R138 to R142). ftime is the 64.16 value as one number. DESIGN CHOICE (log entries 3 and 13). -/
structure ClkSt where
  cyc     : Nat := 0
  /-- Slot counter = (cyc + phase) mod 128 (R142, R160). -/
  phase   : Nat := 0
  ftime   : Nat := 0
  fphase  : Nat := 0
  trim    : Int := 0
  rpll    : Bool := true
  pfclk   : Bool := false
deriving DecidableEq, Repr

/-- The time block (R143 to R148, R158, R159). -/
structure TimeSt where
  state    : TimeState := .unsynced
  holdover : Bool := false
  holdEnd  : Nat := 0
  /-- A step to be made at a frame boundary: the ns to add (R145, R147). -/
  step     : Option Int := none
  root     : Bool := false
  /-- Root, but not yet SYNCED while R159 takes time forward. -/
  forward  : Bool := false
  parent   : Option (Fin 10) := none
  delay    : Int := 0
  /-- Own time minus the parent's in 1/256 ns (R148 reports it in 1/16 ns). -/
  offset   : Int := 0
  steps    : BitVec 8 := 0
  integ    : Int := 0
  lossRun  : Nat := 0
  /-- Where LOCAL time starts in RESTORE (R158). -/
  seed     : Option Nat := none
deriving DecidableEq, Repr

/-! ### Hallmarks -/

/-- Who queued a hallmark (R149, R348). -/
inductive HmOwner where
  | software | clasp | planner | push
deriving DecidableEq, Repr

/-- A queued hallmark (R150, R156): launch time as rounded by R152, the time it was asked for (HM_TIME, or the earliest time of a next
frame), and acceptance order (R154). -/
structure HmEntry where
  act    : Nat
  target : Nat := 0
  arg    : Nat := 0
  xdev   : Bool := false
  time   : Nat := 0
  want   : Nat := 0
  sent   : Bool := false
  order  : Nat := 0
  owner  : HmOwner := .software
deriving DecidableEq, Repr

/-- The hallmark queues (R150 to R156). DESIGN CHOICE (log entry 4). -/
structure HmSt where
  gq       : Vector (Option HmEntry) 32 := Vector.replicate 32 none
  tq       : Vector (Vector (Option HmEntry) 8) 48 := Vector.replicate 48 (Vector.replicate 8 none)
  lastId   : Nat := 0
  result   : Nat := 0
  discCnt  : BitVec 16 := 0
  lastDisc : Nat := 0
  order    : Nat := 0
deriving DecidableEq, Repr

/-! ### Route epochs, bead banks, planner -/

/-- The drain of an old epoch (R131, R132); ARMED is an epoch switch in the global queue (R137). -/
inductive Switch where
  | idle | draining
deriving DecidableEq, Repr

/-- The route epoch (R130 to R134) and the bead banks (R162, R176, R188). -/
structure EpochSt where
  active     : Bool := false
  switch     : Switch := .idle
  launchAt   : Nat := 0
  overdue    : Bool := false
  beadActive : Bool := false
  /-- Last launch of an epoch switch or bead swap (R179). -/
  lastMove   : Nat := 0
  /-- Router pages whose inactive bank software has written, and whether it has written the inactive DR_ROUTE bank, since the last switch
  (R127, R347). -/
  wroteRoute : List Nat := []
  wroteDr    : Bool := false
  /-- The bead bank that holds the primary plan, not written since the switch to a planner plan (R183). -/
  primary    : Option Bool := none
  /-- The planner plan the active, the inactive route bank holds (R137). -/
  planned      : Option Lost := none
  plannedOther : Option Lost := none
  /-- The active, the inactive bead bank holds a planner plan (R188). -/
  beadPlanned      : Bool := false
  beadPlannedOther : Bool := false
  /-- What the planner has prepared is its return bank (R129). -/
  planReturn : Bool := false
deriving DecidableEq, Repr

/-- What the detour planner has to do (R127, R129, R182, R183). -/
inductive PlanJob where
  | detour (l : Lost)
  | back
deriving DecidableEq, Repr

/-- The detour planner. -/
structure PlannerSt where
  /-- A loss or a return whose banks are not yet written. -/
  job       : Option PlanJob := none
  /-- Banks written, hallmark not yet accepted by the queue (R127). -/
  unqueued  : Bool := false
  /-- The element of the plan in force or applied. -/
  plan      : Option Lost := none
  suspended : Bool := false
deriving DecidableEq, Repr

/-! ### Routers -/

/-- What a router does with a flit. -/
inductive RouteTo where
  /-- It leaves by this output, and moves to the next leg where BUMP is set. -/
  | out (p : RPort) (bump : Bool)
  /-- It has no exit (R343): handled under R114. -/
  | noExit
  /-- It would leave the grid, or names an empty slot or no slot (R13, R22). -/
  | miss
deriving DecidableEq, Repr

/-- A flit in a router buffer or on its way into a fabric half, with what travels beside it: leg count (R112), sampler
sideband (R454), and its flow (R165, R178). -/
structure BufFlit where
  flit      : Flit
  legs      : Nat := 0
  /-- The output that the previous router, or the fabric half, computed for it at this router (R102); none: not yet computed. -/
  dest      : Option RouteTo := none
  /-- First cycle in which it can bid; on its way into a fabric half, the cycle in which it arrives there. -/
  ready     : Nat := 0
  /-- Cycle since which it stands at the head. -/
  since     : Nat := 0
  flow      : Option Nat := none
  /-- It has missed a bead (R178). -/
  displaced : Bool := false
  /-- Bits flipped on its way from an L output to the fabric half. -/
  flips     : List Nat := []
  mark      : Option (Fin 4) := none
  hops      : Nat := 0
deriving DecidableEq, Repr

/-- The routers of all tiles: input VC buffers, answer queues by tile (R481), credits, pointers and starvation counters, keyed as
Machine/Ops.lean states. DESIGN CHOICE (log entry 4). -/
structure RouterSt where
  vcs     : Sparse (List BufFlit) := []
  ansq    : Sparse (List BufFlit) := []
  credits : Sparse Nat := []
  /-- Returned credits on their way: the cycle from which each can be used, and its counter (R108). -/
  late    : List (Nat × Nat) := []
  rrIn    : Sparse Nat := []
  rrVc    : Sparse Nat := []
  beCnt   : Sparse Nat := []
  llCnt   : Sparse Nat := []
  /-- The cycle after the last one each router has run, keyed 4*tile + network. -/
  ran     : Sparse Nat := []
deriving DecidableEq, Repr

/-- A tile beyond its routers. -/
structure TileSt where
  isolated : Bool := false
  admin    : Bool := false
  /-- Its FCLK tree is released by a start-up wave (R375). -/
  waved    : Bool := false
  /-- The mesh link its domain has removed (R425). -/
  linkOut  : Option (Nat × Net) := none
  /-- Its copy of FTIME minus the ring value, in whole ns (R141): both count by the same increments. -/
  timeOff  : Int := 0
deriving DecidableEq, Repr

/-! ### Attach ports -/

/-- PORT_STAT.STATE (R203). -/
inductive PState where
  | disabled | reset | active | fencing | fenced
deriving DecidableEq, Repr

/-- Crossing states (R363). -/
inductive XState where
  | down | init | armed | run
deriving DecidableEq, Repr

/-- One side of a crossing (R359, R362, R363): state, own alive toggle, whether peer RDY was seen at 0 since INIT, the changes
of the peer's toggle since, the cycle of entering its state, and by network the write and the read pointer of this side's FIFOs, as
flits counted since both were at 0. -/
structure XSide where
  st      : XState := .down
  toggle  : Bool := false
  sawLow  : Bool := false
  changes : Nat := 0
  since   : Nat := 0
  wr      : Sparse Nat := []
  rd      : Sparse Nat := []
deriving DecidableEq, Repr

/-- A packet in an injection queue (R193, R197). -/
structure QFlit where
  flit    : Flit
  /-- The label of its transaction at this port: of the open entry, or of the packet whose companion it is (log entry 9). -/
  tid     : Option Nat := none
  /-- Made by the fabric half itself: it takes no place of the unit's. -/
  fab     : Bool := false
  /-- Of the locket port's own traffic, which R204 does not govern (R237). -/
  lk      : Bool := false
  /-- The class whose place it takes: that of its offer. -/
  place   : Cls := .ll
  flow    : Option Nat := none
  /-- Cycle since which it waits; in a GT queue, since which it is the oldest of its flow (R174). -/
  since   : Nat := 0
  /-- Its hold under R342 has been counted. -/
  winHeld : Bool := false
  /-- At a strand port: the receive buffer of the present session it stands for (R332). -/
  rxBuf   : Option Nat := none
deriving DecidableEq, Repr

/-- A packet whose DAT companions are still to come: bits 3:0 of left are lines by LIDX, bit 4 the mask flit, bit 5 the one line of
an SNPRSP DIRTY_FWD. drop: they are discarded on arrival. -/
structure Await where
  flit : Flit
  left : Nat
  drop : Bool := false
  /-- The label of the packet, as in QFlit. -/
  tid  : Option Nat := none
deriving DecidableEq, Repr

/-- An entry of the open-request table (R198 to R200). -/
structure OEntry where
  /-- The REQ as it leaves the fabric half, and its label. -/
  req       : Flit
  tid       : Nat := 0
  gen       : BitVec 2 := 0
  /-- Of an LKSTAGE: the opening of its locket that it belongs to (R248). -/
  stage     : Nat := 0
  /-- REQ injected; companions of LMASK injected; mask flit injected; companions accepted so far. -/
  reqIn     : Bool := false
  linesIn   : BitVec 4 := 0
  maskIn    : Bool := false
  taken     : BitVec 4 := 0
  maskTaken : Bool := false
  /-- Retry deadline while the timer runs. -/
  retryAt   : Option Nat := none
  reissued  : Bool := false
  /-- Cycle at which it became a ghost. -/
  ghostAt   : Option Nat := none
  /-- Final RSPs still to come, the LINEs owed by those that came, and the LINEs seen (R200). -/
  answers   : Nat := 1
  owed      : Nat := 0
  seen      : Nat := 0
  /-- Final RSP received, and the LINEs received (collected for a REISSUED entry, R200). -/
  rsp       : Option Flit := none
  lines     : List Flit := []
  /-- The final RSP has been delivered; the LINEs seen with DPSN = 1 (R200). -/
  rspOut    : Bool := false
  psn       : BitVec 4 := 0
  /-- LINEs that must follow the final RSP, once it is known. -/
  need      : BitVec 4 := 0
  gotLines  : BitVec 4 := 0
deriving DecidableEq, Repr

/-- What the fabric half of a HOME holds of a locket whose LKCOMMIT or LKABORT it has delivered (R251, R262): coordinator device and LKT,
T and TAG of the packet; whether the HOME has voted ready on it, and whether the decision has been delivered. -/
structure LkSeen where
  dev   : BitVec 5
  lkt   : BitVec 6
  t     : BitVec 64 := 0
  tag   : BitVec 12 := 0
  voted : Bool := false
  final : Bool := false
deriving DecidableEq, Repr

/-- A fabric half (R193 to R213). DESIGN CHOICE (log entry 4). -/
structure PortSt where
  st       : PState := .disabled
  gen      : BitVec 2 := 0
  pwr      : BitVec 2 := 0
  fenceWhy : Nat := 0
  rstN     : Bool := false
  faiPwr   : BitVec 2 := 0
  /-- A power change waiting for fai_pwr_ack: previous state and deadline (R210). -/
  pwrWait  : Option (BitVec 2 × Nat) := none
  /-- Power-up by ACT 0x06 in progress: its end (R211, R377). -/
  powerUp  : Option Nat := none
  holdDown : Nat := 0
  fenceAt  : Nat := 0
  /-- Held in RESET by its own fault reaction (R426). -/
  faultHeld : Bool := false
  xf       : XSide := {}
  xu       : XSide := {}
  injCrd   : Sparse Nat := []
  ejCrd    : Sparse Nat := []
  injq     : Sparse (List QFlit) := []
  gtq      : Sparse (List QFlit) := []
  /-- RSPs and forwarded writes of the unit whose DAT companions are still to be offered (R89). -/
  rspOpen  : List Await := []
  ejq      : Sparse (List BufFlit) := []
  /-- Packets the fabric half delivers of its own that wait for a unit credit (R195). -/
  toUnit   : List Flit := []
  opens    : Sparse OEntry := []
  /-- Labels given so far (the model's own field, log entry 9). -/
  tids     : Nat := 0
  /-- By network, the cycle from which its channel to the unit is free (R192). -/
  outAt    : Sparse Nat := []
  snpOut   : List (BitVec 7 × BitVec 5 × BitVec 12) := []
  inCnt    : Nat := 0
  /-- RSPs dropped for generation: SRC, SRCDEV, TAG, cycle (R86). -/
  genDrops : List (BitVec 7 × BitVec 5 × BitVec 12 × Nat) := []
  /-- REQs from this device that this fabric half answered, whose companions are discarded (R205, R208). -/
  refused  : List Await := []
  /-- The cycle after the last one counted in FENCE_HOLD (R441). -/
  fenceCyc : Nat := 0
  /-- Epoch-fence masks, 96 port bits and 32 device bits (R135). -/
  curReq   : BitVec 128 := 0
  oldReq   : BitVec 128 := 0
  curRsp   : BitVec 128 := 0
  oldRsp   : BitVec 128 := 0
  pingCnt  : BitVec 10 := 0
  pingOut  : Option (BitVec 12) := none
  pingAt   : Nat := 0
  /-- Pairing store: unpaired transit DAT packets with arrival cycle, and companions whose lines are awaited (R90). -/
  pairDat  : List (Flit × Nat) := []
  pairCmp  : List Await := []
  /-- Held locket decisions of a HOME (R251). -/
  heldDec  : List Flit := []
  /-- Lockets delivered to this HOME and not yet closed (R251, R260, R262). -/
  lkSeen   : List LkSeen := []
  /-- LKSTAGEs delivered to this HOME and not answered (R262). -/
  stageIn  : List Flit := []
  /-- home_stg_ue as the HOME last presented it, uncoded (R420). -/
  stgUe    : BitVec 4 := 0
  /-- STALL injection holds REQ and SNP deliveries until this cycle (R435). -/
  stallEnd : Nat := 0
  beCnt    : Sparse Nat := []
  llCnt    : Sparse Nat := []
deriving DecidableEq, Repr

/-! ### Strands -/

/-- PHY_STAT.STAGE, in code order (R290, R321). -/
inductive Stage where
  | disabled | detect | bitlock | polarity | lanemap | deskew | preset | config | active | absent
deriving DecidableEq, Repr

/-- SL_STAT.LINK (R336). -/
inductive Link where
  | inactive | hello | up | down
deriving DecidableEq, Repr

/-- A change an LCTL exchange has agreed (R313, R316): the WHAT code. -/
inductive LctlWhat where
  | standby | deep | x8 | x4 | x2
deriving DecidableEq, Repr

/-- An LCTL REQ that waits for its answer (R313 to R315): what it asks, its RID, when it is cancelled, and the IDV and DEVID it
carried. -/
structure LctlReq where
  what  : LctlWhat
  rid   : BitVec 4
  endAt : Nat
  idv   : Bool
  devId : BitVec 5
deriving DecidableEq, Repr

/-- The count of consecutive equal bits on a lane (R271, R272): the last bit, and how many like it. -/
structure RunCnt where
  last : Bool := false
  cnt  : Nat := 0
deriving DecidableEq, Repr

/-- A lane's transmitter (R268 to R271, R277, R280, R284). -/
structure LaneTx where
  scr : BitVec 31 := 0
  run : RunCnt := {}
  /-- Complex B: the blocks of the codeword in progress as scrambled, whether it is precoded, and the last level sent. -/
  cw  : List Block := []
  pre : Bool := false
  y   : Nat := 0
  /-- Blocks sent since the marker that opened the period, with it. -/
  pos : Nat := 0
deriving DecidableEq, Repr

/-- A physical lane's receiver (R268 to R273, R277 to R281, R296, R307, R309). -/
structure LaneRx where
  scr  : BitVec 31 := 0
  run  : RunCnt := {}
  /-- Bits of the block (complex A) or codeword (complex B) in progress, the first received at bit 0; how many; and whether a stuff
  violation has marked the block bad. -/
  acc  : Nat := 0
  cnt  : Nat := 0
  bad  : Bool := false
  pre  : Bool := false
  y    : Nat := 0
  /-- Which of the last 64 blocks had an invalid header, the latest at bit 0. -/
  hist : BitVec 64 := 0
  /-- Consecutive uncorrectable codewords. -/
  unc  : Nat := 0
  /-- Which of the last 4,096 UI were transitions, the latest at bit 0, and the last UI. -/
  win  : Nat := 0
  ui   : Nat := 0
  /-- The lane carries STBY blocks. -/
  stby : Bool := false
  /-- CDR phase and DFE trim. -/
  phase : BitVec 6 := 0
  trim  : BitVec 6 := 0
  /-- Blocks that wait for those of the other lanes, and whether each is marked bad (R296). -/
  q    : List (Block × Bool) := []
deriving DecidableEq, Repr

/-- The partner's TCB as CONFIG needs it (R298). -/
structure TcbInfo where
  serial    : BitVec 64 := 0
  cr        : Bool := false
  precodeOk : Bool := false
  express   : Bool := false
  ack       : Bool := false
  rxGood    : BitVec 8 := 0
  devId     : BitVec 5 := 0
  idv       : Bool := false
  cap       : BitVec 16 := 0
deriving DecidableEq, Repr

/-- A stored SEQC (R329, R331): its packed items, the packets among them, times replayed, cycle of its last send. -/
structure Stored where
  seq     : BitVec 12
  body    : BitVec 704
  pkts    : List Flit := []
  replays : Nat := 0
  sentAt  : Nat := 0
  /-- Named for replay, and not yet sent again. -/
  resend  : Bool := false
deriving DecidableEq, Repr

/-- A packet in a strand's receive buffer (R332, R340), and the cycle from which it can be injected (R334). -/
structure RxFlit where
  flit     : Flit
  arrived  : Nat := 0
  /-- Map bit set, waiting for NEXT (HOLD). -/
  held     : Bool := false
  /-- Received in an earlier session: it has left the counts of R332. -/
  old      : Bool := false
deriving DecidableEq, Repr

/-- A packet waiting to be sent over a strand: when it left the sending router's L output (R334), and since when it heads its
queue (R117). -/
structure TxFlit where
  flit  : Flit
  left  : Nat := 0
  since : Nat := 0
deriving DecidableEq, Repr

/-- The fields of a received HELLO (R345, R346). -/
structure Hello where
  serial     : BitVec 64 := 0
  rootSerial : BitVec 64 := 0
  depth      : Nat := 15
  strand     : Nat := 0
  elig       : Bool := false
  rpin       : Bool := false
  devId      : BitVec 5 := 0
  idv        : Bool := false
  cap        : BitVec 16 := 0
  path       : List Nat := []
deriving DecidableEq, Repr

/-- Lanes and training (R265 to R323). -/
structure PhySt where
  stage     : Stage := .disabled
  fails     : Nat := 0
  failWhy   : Nat := 0
  stageAt   : Nat := 0
  /-- Lane groups powered under R376, 0 to 2. -/
  groups    : Nat := 0
  locked    : BitVec 8 := 0
  /-- Complex B: physical lanes whose codewords BITLOCK found inverted (R293). -/
  polB      : BitVec 8 := 0
  polInv    : BitVec 8 := 0
  reversed  : Bool := false
  laneGood  : BitVec 8 := 0
  skew      : Nat := 0
  slow      : Nat := 0
  /-- Lane set and power state of the transmitter; of the receiver, as the partner's markers announce them (R316). -/
  width     : Nat := 3
  group     : Bool := false
  rxWidth   : Nat := 3
  rxGroup   : Bool := false
  /-- The set trained, from which WIDTH_REQ narrows (R314, R319). -/
  trainedW  : Nat := 3
  precode   : Bool := false
  crAgreed  : Bool := false
  pwr       : StrandPwr := .active
  rxPwr     : StrandPwr := .active
  /-- FoM of each logical lane, the cycle of the last update, since when each lane's has been below FLOOR, and which lanes' stand between
  FLOOR and RECENTRE (R304, R309, R310). -/
  fom       : Vector Nat 8 := Vector.replicate 8 0
  fomAt     : Nat := 0
  fomLow    : Vector (Option Nat) 8 := Vector.replicate 8 none
  inBand    : Vector Bool 8 := Vector.replicate 8 false
  rows      : StoredRow := {}
  rxRow     : Nat := 0
  swept     : Bool := false
  /-- Equalisation: row dwelt on, whether it is the stored row's dwell, best row and FoM so far, choice made (R305). -/
  dwell     : Nat := 0
  dwellStored : Bool := false
  dwellAt   : Nat := 0
  bestRow   : Nat := 0
  bestFom   : Nat := 0
  chosen    : Bool := false
  appRow    : Nat := 0
  /-- Partner's TS (R297) and TCBs (R298, R299). -/
  pDone     : Bool := false
  tcb       : Option TcbInfo := none
  same      : Nat := 0
  ackRx     : Nat := 0
  /-- ACK = 1 is sent, and in how many TCBs so far (R299). -/
  ackOn     : Bool := false
  ackTx     : Nat := 0
  /-- TRAIN = 0 MARKER sent; the partner's received before that (R301). -/
  cfgDone   : Bool := false
  early     : Bool := false
  mcnt      : BitVec 16 := 0
  rid       : BitVec 4 := 0
  lctlOut   : Option LctlReq := none
  armed     : Option LctlWhat := none
  /-- A PWR_REQ of STANDBY or DEEP waits for an idle link (R314). -/
  wantPwr   : Option LctlWhat := none
  /-- A WIDTH_REQ waits for the strand to be ACTIVE, or for an unanswered request (R314). -/
  wantWidth : Option Nat := none
  /-- CLKMODE and PRECODE_OK as taken at the start of this training (R285, R320). -/
  cr        : Bool := false
  preOk     : Bool := false
  /-- MCNT of the last MARKER received in ACTIVE (R273). -/
  rxMcnt    : Option (BitVec 16) := none
  deepAt    : Option Nat := none
  lastCal   : Nat := 0
  burstAt   : Nat := 0
  /-- Transmitters by logical lane, the place in the lane set of the next stream block (R266); receivers by physical lane. -/
  tx        : Vector LaneTx 8 := Vector.replicate 8 {}
  strm      : Nat := 0
  rx        : Vector LaneRx 8 := Vector.replicate 8 {}
  /-- The locked lanes stand in one lane-aligned group (R287, R296). -/
  aligned   : Bool := false
  /-- Data blocks of the container in progress, and whether each is marked bad (R324). -/
  frame     : List (Nat × Bool) := []
  /-- Blocks by which the elastic buffer stands off centre (R287). -/
  buf       : Int := 0
deriving DecidableEq, Repr

/-- The link layer of a strand (R324 to R339). Buffers are numbered net*3 + (0 GT, 1 TR, 2 TE). DESIGN CHOICE (log entry 4). -/
structure LinkSt where
  link     : Link := .inactive
  downWhy  : Nat := 0
  fo       : Bool := false
  next     : BitVec 12 := 0
  acked    : BitVec 12 := 0xFFF
  exp      : BitVec 12 := 0
  replay   : List Stored := []
  nakAt    : Option Nat := none
  lastTx   : Nat := 0
  sent     : Sparse Nat := []
  freedIn  : Sparse Nat := []
  freedOut : Sparse Nat := []
  freedSent : Sparse Nat := []
  rx       : Sparse (List RxFlit) := []
  tx       : Sparse (List TxFlit) := []
  /-- Buffers whose CREDIT is due though FREED has not changed, and when that was last so (R332). -/
  credDue  : List Nat := []
  credAt   : Nat := 0
  msgs     : List Msg := []
  rrIn     : Nat := 0
  beCnt    : Nat := 0
  llCnt    : Nat := 0
  crcCnt   : Nat := 0
  winCnt   : Nat := 0
  winAt    : Nat := 0
  firstWin : Bool := true
  helloAt  : Nat := 0
  startAt  : Nat := 0
  exch     : BitVec 8 := 0
  exchOpen : Bool := false
  /-- FTIME in ns at which the last TSYNC left (R335). -/
  tsyncAt  : Option Nat := none
  /-- The partner has reported its time SYNCED in this session (R143, log entry 20). -/
  pSync    : Bool := false
  /-- Capture times of the exchange in progress, ns.8 (R335). -/
  t1       : Nat := 0
  t2       : Nat := 0
  t3       : Nat := 0
  /-- DELAY of the latest completed exchange, in 1/16 ns; none before the first of the session. -/
  delay16  : Option Nat := none
  gtLat    : Nat := 0
  hello    : Option Hello := none
  tcbSerial : BitVec 64 := 0
deriving DecidableEq, Repr

structure StrandSt where
  phy  : PhySt := {}
  lnk  : LinkSt := {}
deriving DecidableEq, Repr

/-! ### Sequencer and pool agent -/

/-- The sequencer (R338 to R342). Streams are keyed 3*device + (0 REQ, 1 RSP, 2 SNP). -/
structure SeqSt where
  /-- Next value to stamp toward a device; its last acknowledged NEXT. -/
  ctr     : Sparse Nat := []
  acked   : Sparse Nat := []
  /-- 0 CLOSED, 1 OPENING, 2 OPEN, per device. -/
  state   : Sparse Nat := []
  /-- Senders treated as OPEN, per device (R342). -/
  peer    : Sparse Nat := []
  next    : Sparse Nat := []
  /-- Values accepted beyond NEXT (the map of R340). -/
  map     : Sparse (List Nat) := []
  /-- Strand of the last release, plus one, and its cycle (R341). -/
  lastOn  : Sparse Nat := []
  lastAt  : Sparse Nat := []
  /-- Cycle since which NEXT is held by a missing value while later ones wait. -/
  gapAt   : Sparse Nat := []
  /-- NEXT as of the last E2ACK. -/
  e2acked : Sparse Nat := []
deriving DecidableEq, Repr

/-- DR_STAT.DISC, in code order (R352). -/
inductive Disc where
  | off | elect | tree | enumer | routed | collide | tooDeep
deriving DecidableEq, Repr

/-- What the root knows of a device from TOPO (R345, R347). -/
structure Topo where
  serial : BitVec 64
  idv    : Bool := false
  devId  : BitVec 5 := 0
  path   : List Nat := []
  /-- Partner device ID of each strand, where VALID. -/
  links  : List (Nat × Nat) := []
  acked  : Bool := false
deriving DecidableEq, Repr

/-- The pool agent (R343 to R348, R352). -/
structure PoolSt where
  idv        : Bool := false
  devId      : BitVec 5 := 0
  root       : Bool := false
  rootSerial : BitVec 64 := 0
  rootId     : BitVec 5 := 0
  depth      : Nat := 15
  parent     : Option (Fin 10) := none
  path       : List Nat := []
  disc       : Disc := .off
  rootConf   : Bool := false
  version    : BitVec 8 := 0
  settleAt   : Nat := 0
  topo       : List Topo := []
  /-- Messages received and addressed to this device: strand and message. -/
  inbox      : List (Nat × Msg) := []
  /-- Version of the ROUTEs written; time T of the push whose banks are prepared and not yet switched (R347, R348). -/
  pushVer    : BitVec 8 := 0
  pushTime   : Option Nat := none
  /-- Devices reachable when last looked (R343). -/
  reach      : BitVec 32 := 0
deriving DecidableEq, Repr

/-! ### Lockets -/

/-- LK_TABLE STATE, in code order (R263). -/
inductive LkState where
  | free | opened | closing | voting | committed | aborting | aborted
deriving DecidableEq, Repr

/-- A coordinator entry (R263) with its timers. -/
structure Coord where
  state     : LkState := .free
  /-- Which opening this is (LockSt.opens). -/
  id        : Nat := 0
  lines     : Nat := 0
  cause     : Nat := 0
  lostAfter : Bool := false
  asap      : Bool := false
  port      : Fin 96 := 0
  remote    : BitVec 32 := 0
  locs      : BitVec 16 := 0
  votesR    : BitVec 32 := 0
  votesL    : BitVec 16 := 0
  doneR     : BitVec 32 := 0
  doneL     : BitVec 16 := 0
  t         : BitVec 64 := 0
  timer     : Nat := 0
  deadline  : Nat := 0
  resendAt  : Nat := 0
  /-- LKSTAGEs injected and not answered (R248). -/
  staging   : Nat := 0
  /-- The requester aborted it (R252). -/
  byAbort   : Bool := false
  /-- Devices to whose relay its latest packet went at port 70 (R239, R257). -/
  try70     : BitVec 32 := 0
  /-- The LKCOMMITs and LKABORTs the requester waits on. -/
  waits     : List Flit := []
  cls       : Cls := .ll
  qos       : BitVec 4 := 0
deriving DecidableEq, Repr

/-- Relay entry STATE, in code order (R263). -/
inductive RlState where
  | free | preparing | ready | refused | decided | inDoubt
deriving DecidableEq, Repr

/-- A relay entry (R239, R259, R263). -/
structure Relay where
  state    : RlState := .free
  dev      : BitVec 5 := 0
  lkt      : BitVec 6 := 0
  ready    : BitVec 16 := 0
  voted    : BitVec 16 := 0
  done     : BitVec 16 := 0
  cause    : Nat := 0
  asap     : Bool := false
  commit   : Bool := false
  t        : BitVec 64 := 0
  /-- The coordinator's packet it answers next. -/
  req      : Flit := { net := .req }
  resendAt : Nat := 0
deriving DecidableEq, Repr

/-- A reported final answer to an LKSTAGE (R236, R248, R258): the locket and its opening, the abort cause where it was not CMP, and
whether the LKSTAGE was injected. -/
structure StageRep where
  lkt   : BitVec 6
  id    : Nat
  cause : Option Nat
  inj   : Bool
deriving DecidableEq, Repr

/-- The locket block (R236 to R263). -/
structure LockSt where
  coords  : Vector Coord 64 := Vector.replicate 64 {}
  relays  : Vector Relay 64 := Vector.replicate 64 {}
  /-- Requests on the dedicated path, oldest first: port and REQ (R236). -/
  path    : List (Fin 96 × Flit) := []
  /-- Lockets opened so far (the model's own field, log entry 69). -/
  opens   : Nat := 0
  /-- Final answers to LKSTAGEs reported by fabric halves, oldest first. -/
  reports : List StageRep := []
  /-- Packets received at the locket port (R237). -/
  inbox   : List Flit := []
  /-- Staged lines per channel and locket: channel, coordinator device, LKT, lines (R262). -/
  staged  : List (Nat × Nat × Nat × Nat) := []
  /-- Remote devices whose locket port answered NOROUTE at 22 and is 70 from then on (R239). -/
  alt70   : BitVec 32 := 0
deriving DecidableEq, Repr

/-! ### Faults -/

/-- Domain state (R427). -/
inductive DState where
  | inn | faulted | retired
deriving DecidableEq, Repr

/-- An open severity window (R424, R425). -/
structure Win where
  src      : Fin 15
  c        : Nat
  endAt    : Nat
  /-- Mesh input and network of the opening event; none for an L input or another place. -/
  inp      : Option (RPort × Net) := none
  confined : Bool := false
deriving DecidableEq, Repr

/-- A fault domain (R426 to R432). -/
structure DomSt where
  st       : DState := .inn
  rc       : Nat := 0
  quietAt  : Nat := 0
  /-- Quiet time left when DRAIN stopped the timer (R428). -/
  quietLeft : Option Nat := none
  reacting : Bool := false
  done     : Bool := false
  reactAt  : Nat := 0
  doneAt   : Nat := 0
  /-- Casting a shadow (R432), and whether the reaction removed a link. -/
  shadow   : Bool := false
  byLink   : Bool := false
  /-- A re-admission asked for that waits for the reaction to be complete (R427, R433). -/
  wantIn   : Bool := false
  wins     : List Win := []
deriving DecidableEq, Repr

/-- A launched injection (R435, R436). -/
structure Inj where
  dom      : Option Domain
  src      : Fin 15
  kind     : Nat
  tile     : Nat
  unit     : Nat
  net      : Net
  bitA     : Nat
  bitB     : Nat
  left     : Nat
  expect   : Nat
  endAt    : Option Nat
deriving DecidableEq, Repr

structure FaultSt where
  tiles   : Vector DomSt 48 := Vector.replicate 48 {}
  strands : Vector DomSt 10 := Vector.replicate 10 {}
  ports   : Vector DomSt 96 := Vector.replicate 96 {}
  global  : DomSt := {}
  injs    : List Inj := []
deriving DecidableEq, Repr

/-! ### Counters, samplers, clasp, power -/

/-- The 48-bit counters by window offset (R439 to R451), and the read and preset latches by master and page. -/
structure CntSt where
  val    : Sparse Nat := []
  ovf    : Sparse Nat := []
  shadow : Sparse Nat := []
  frozen : Bool := false
  /-- Slot counts on their way: the cycle they are due in and the counter's offset (R444). -/
  late   : List (Nat × Nat) := []
  /-- Latched high bits of a counter's low-word read: counter offset and bits, per master and page (R447). -/
  rdLatch : Sparse (Nat × Nat) := []
  /-- Preset latch: counter offset and low word (R448). -/
  wrLatch : Sparse (Nat × Nat) := []
deriving DecidableEq, Repr

/-- A sample record (R455). -/
structure Record where
  w0 : Word := 0
  w1 : Word := 0
  w2 : Word := 0
  w3 : Word := 0
deriving DecidableEq, Repr

/-- A latency sampler (R452 to R456). -/
structure SampSt where
  lfsr     : BitVec 16
  interval : Nat := 0
  count    : Nat := 0
  armed    : Bool := false
  /-- The selection of the arming under way: SMP_SEL, SMP_SRC0, SMP_SRC1, SMP_DST0, SMP_DST1; none before its first match (R456). -/
  sel      : Option (Vector Word 5) := none
  /-- Sample in flight: injection cycle, FTIME and bead wait. -/
  flight   : Option (Nat × Nat × Nat) := none
  records  : Sparse Record := []
  next     : Nat := 0
  held     : Nat := 0
  wrap     : Bool := false
  full     : Bool := false
  lost     : BitVec 16 := 0
deriving DecidableEq, Repr

/-- CLASP_STAT.STATE (R411). -/
inductive CState where
  | idle | staging | closed | checking | confirmed | armed
deriving DecidableEq, Repr

/-- A staged write (R412): offset, width 4 or 8, data, and the view of its page it was staged under (R415). -/
structure Staged where
  off   : Nat
  width : Nat
  data  : Word
  sel   : Nat
  bank  : Bool
deriving DecidableEq, Repr

/-- An access of a master to the window (R38, R55). -/
structure Access where
  m    : Master
  off  : Nat
  size : Nat
  wr   : Bool
  data : Nat
  ecc  : Ecc
deriving DecidableEq, Repr

structure ClaspSt where
  state  : CState := .idle
  recs   : List Staged := []
  /-- COUNT: stagings since the set was opened (R411). -/
  count  : Nat := 0
  cause  : Nat := 0
  chkWhy : HoldWhy := .none
  offset : Nat := 0
  late   : Bool := false
  seqRej : Bool := false
  timer  : Nat := 0
  /-- CHANGES of every page when the checker began (R418 check 3). -/
  snap   : Sparse Nat := []
deriving DecidableEq, Repr

/-- Power-up progress (R375 to R378, R459). -/
structure PowerSt where
  schedAt  : Nat := 0
  /-- Schedule actions done: 0 PLL A, 1 PLL B, 2+k lane group k (R376). -/
  done     : Nat := 0
  pllAOn   : Bool := false
  pllBOn   : Bool := false
  pllA     : Bool := false
  pllB     : Bool := false
  refA1    : Bool := false
  refB1    : Bool := false
  /-- Lane groups whose slot passed while their strand was disabled; cycle of the last one powered since
  (R376). -/
  owed     : List Nat := []
  owedAt   : Nat := 0
  waves    : Nat := 0
  waveAt   : Nat := 0
  /-- End of the fabric-half power-up in progress (R377). -/
  upBusy   : Nat := 0
deriving DecidableEq, Repr

/-- What the fabric drives at its boundary during a command. DESIGN CHOICE (log entry 2). -/
inductive Out where
  /-- A flit on fai_out of this port (R190). -/
  | deliver (port : Fin 96) (f : Flit)
  /-- An echo: TAG[9:0], DST, DSTDEV (R197). -/
  | echo (port : Fin 96) (tag : BitVec 10) (dst : BitVec 7) (dev : BitVec 5)
  /-- The value a register read returns to its master (R410). -/
  | readData (m : Master) (v : Word)
  /-- A write's acknowledgement (R403). -/
  | ack (m : Master)
  /-- A control block in a strand's stream (LCTL, time blocks). -/
  | block (strand : Fin 10) (b : Block)
  /-- A block on one lane of a strand, and the UI that go out with it: bits on complex A; on complex B the PAM4 levels of a codeword, with
  its tenth block (R267 to R280). -/
  | lane (strand : Fin 10) (lane : Fin 8) (b : Block) (ui : List Nat)
  /-- A lane sends a run of this many blocks of fill: IDLE, FILLER, STBY, TS or TCB, as its state says (log entry 91). -/
  | fill (strand : Fin 10) (lane : Fin 8) (k : Nat)
  /-- A container on a strand (R324). -/
  | container (strand : Fin 10) (c : RawContainer)
  /-- SLn_WAKE_n is pulled low for 1 us (R318). -/
  | wake (strand : Fin 10)
  /-- This end of a strand reports whether its time is SYNCED (R143, log entry 20). -/
  | timeState (strand : Fin 10) (synced : Bool)
  /-- A 20 us burst of TS blocks (R292). -/
  | burst (strand : Fin 10)
deriving DecidableEq, Repr

/-- The state of the fabric. -/
structure State where
  pending : List Instr := []
  /-- What the latest command drove at the boundary (the model's own field, log entry 2). -/
  out     : List Out := []
  /-- Free values used so far (the model's own field, log entry 1). -/
  freeCtr : Nat := 0
  ident   : Ident := {}
  straps  : Straps := {}
  pins    : PinSt := {}
  ms      : ModeSt := {}
  ks      : KeepSt := {}
  clk     : ClkSt := {}
  time    : TimeSt := {}
  hm      : HmSt := {}
  epoch   : EpochSt := {}
  planner : PlannerSt := {}
  rtr     : RouterSt := {}
  tiles   : Vector TileSt 48 := Vector.replicate 48 {}
  ports   : Vector PortSt 96 := Vector.replicate 96 {}
  strands : Vector StrandSt 10 := Vector.replicate 10 {}
  seqr    : SeqSt := {}
  pool    : PoolSt := {}
  lock    : LockSt := {}
  flt     : FaultSt := {}
  cnt     : CntSt := {}
  samps   : Vector SampSt 4 := #v[{ lfsr := 0xACE1 }, { lfsr := 0xACE2 }, { lfsr := 0xACE3 }, { lfsr := 0xACE4 }]
  clasp   : ClaspSt := {}
  power   : PowerSt := {}
  /-- Stored register words by window offset (default: the field table's reset value). -/
  regs    : Store := []
  /-- Table entries, keyed by page, bank, view and entry. -/
  tbls    : Store := []
  /-- PG_EPOCH.CHANGES by page offset (R49). -/
  changes : Sparse Nat := []
  /-- TBL_SEL and TBL_BANK by master and page (R47). -/
  views   : Sparse Nat := []
  /-- Low half of a 64-bit write-only register written by halves: offset and bits, per master (R5). -/
  halves  : Sparse (Nat × Nat) := []
  /-- On pages without expert fields, the selector word in effect while EXPERT_EN = 1, plus one, by page offset (R58). -/
  selHeld : Sparse Nat := []
  /-- Accesses withheld while a clasp set applies, oldest first (R55, R418). -/
  withheld : List Access := []
deriving DecidableEq, Repr

/-- Why the machine stops with a fault. -/
inductive Fault where
  /-- Raised by a fabric-half command that names one of the 26 empty slots, which has no fabric half (R20). Safe: the hardware
  has no such event. -/
  | emptySlot
deriving DecidableEq, Repr

/-- Why the model gives a command no meaning. -/
inductive Refusal where
  /-- Raised by a Dispatch arm whose command has no meaning yet. Safe. -/
  | notModelled (mnemonic : String)
deriving DecidableEq, Repr

/-- The fabric after core reset release with no keepsake: HOLD, NO_IMAGE (R379, R394), every field at the value its field
table gives, and the values of log entry 3 where no table gives one. -/
def State.reset : State := {}

end Sys2Proof.Machine
end

