-- ==== Sys2Proof/Machine/Ops.lean ====
section
/-! DEFINITION. The operations every meaning is built from: sparse maps in canonical form, bit fields, updates of one port, tile or
strand, CRCs, time in FCLK cycles, and what a command does before and after its effect. -/

namespace Sys2Proof.Machine

/-! ### Sparse maps -/

/-- The value at key k, d where k is not listed. -/
def spGet {α : Type} (d : α) (m : Sparse α) (k : Nat) : α :=
  match m with
  | [] => d
  | (j, v) :: r => if j = k then v else spGet d r k

/-- m without key k. -/
def spDel {α : Type} (m : Sparse α) (k : Nat) : Sparse α :=
  match m with
  | [] => []
  | (j, v) :: r => if j = k then r else (j, v) :: spDel r k

/-- m with k mapped to v, in key order. -/
def spIns {α : Type} (m : Sparse α) (k : Nat) (v : α) : Sparse α :=
  match m with
  | [] => [(k, v)]
  | (j, w) :: r => if k < j then (k, v) :: (j, w) :: r else if j = k then (k, v) :: r else (j, w) :: spIns r k v

/-- m with k mapped to v; the default is not listed. -/
def spSet {α : Type} [DecidableEq α] (d : α) (m : Sparse α) (k : Nat) (v : α) : Sparse α :=
  if v = d then spDel m k else spIns m k v

/-- Canonical form: keys strictly rising above b, no entry equal to the default. -/
def spWfFrom {α : Type} [DecidableEq α] (d : α) (b : Nat) (m : Sparse α) : Bool :=
  match m with
  | [] => true
  | (j, v) :: r => decide (b ≤ j) && decide (v ≠ d) && spWfFrom d (j + 1) r

/-- Canonical form of a sparse map whose unlisted keys read d. -/
def spWf {α : Type} [DecidableEq α] (d : α) (m : Sparse α) : Bool := spWfFrom d 0 m

/-- Keep the entries whose key satisfies p. -/
def spFilter {α : Type} (p : Nat → Bool) (m : Sparse α) : Sparse α := m.filter (fun e => p e.1)

/-! ### Bits and fields -/

/-- Bits [hi:lo] of a number. -/
def nbits (hi lo n : Nat) : Nat := (n >>> lo) % 2 ^ (hi + 1 - lo)

/-- Bits [hi:lo] of a register word. -/
def fld (hi lo : Nat) (w : Word) : Nat := nbits hi lo w.toNat

/-- Bit i of a number. -/
def bitOf (n i : Nat) : Bool := n.testBit i

/-- n with bits [hi:lo] replaced by v (taken modulo the width). -/
def putBits (hi lo n v : Nat) : Nat :=
  n - nbits hi lo n * 2 ^ lo + (v % 2 ^ (hi + 1 - lo)) * 2 ^ lo

/-- w with bits [hi:lo] replaced by v. -/
def putFld (hi lo : Nat) (w : Word) (v : Nat) : Word := BitVec.ofNat 64 (putBits hi lo w.toNat v)

/-- 1 for true. -/
def b2n (b : Bool) : Nat := if b then 1 else 0

/-- A number placed at bit lo. -/
def at' (v lo : Nat) : Nat := v * 2 ^ lo

/-- A word from a sum of placed numbers. -/
def word (n : Nat) : Word := BitVec.ofNat 64 n

/-- The number of 1 bits among the low w bits. -/
def popCount (w n : Nat) : Nat := (List.range w).foldl (fun a i => a + b2n (n.testBit i)) 0

/-- The indices of the 1 bits among the low w bits, rising. -/
def bitList (w n : Nat) : List Nat := (List.range w).filter n.testBit

/-- n with bit i set, cleared. -/
def setBit (n i : Nat) : Nat := if n.testBit i then n else n + 2 ^ i
def clrBit (n i : Nat) : Nat := if n.testBit i then n - 2 ^ i else n

/-- Two's complement reading of the low w bits of n. -/
def toSigned (w n : Nat) : Int :=
  let m := n % 2 ^ w
  if m < 2 ^ (w - 1) then (m : Int) else (m : Int) - (2 ^ w : Nat)

/-- Two's complement of i in w bits, i saturated to the range first. -/
def satSigned (w : Nat) (i : Int) : Nat :=
  let hi : Int := (2 ^ (w - 1) : Nat) - 1
  let lo : Int := -((2 ^ (w - 1) : Nat) : Int)
  let j := if i > hi then hi else if i < lo then lo else i
  (j % ((2 ^ w : Nat) : Int)).toNat

/-! ### CRCs -/

/-- One bit of the reflected CRC-32C register (R325). -/
def crc32cBit (c : Nat) (b : Bool) : Nat :=
  let x := (c.testBit 0) != b
  if x then (c >>> 1) ^^^ 0x82F63B78 else c >>> 1

/-- The CRC-32C register over n bits of v, bit 0 first. -/
def crc32cRun (c v n : Nat) : Nat := (List.range n).foldl (fun a i => crc32cBit a (v.testBit i)) c

/-- The CRC-32C (R325) of the low n bits of v, taken bytewise from the lowest, each byte least significant bit first. -/
def crc32c (v n : Nat) : Nat := crc32cRun 0xFFFFFFFF v n ^^^ 0xFFFFFFFF

/-! ### Time units in FCLK cycles (R354: 2 GHz) -/

def cycNs (n : Nat) : Nat := 2 * n
def cycUs (n : Nat) : Nat := 2000 * n
def cycMs (n : Nat) : Nat := 2000000 * n

/-! ### One port, tile, strand -/

def updPort (p : Fin 96) (f : PortSt → PortSt) (s : State) : State :=
  { s with ports := s.ports.set p (f s.ports[p]) }
def updTile (t : Fin 48) (f : TileSt → TileSt) (s : State) : State :=
  { s with tiles := s.tiles.set t (f s.tiles[t]) }
def updStrand (n : Fin 10) (f : StrandSt → StrandSt) (s : State) : State :=
  { s with strands := s.strands.set n (f s.strands[n]) }
def updPhy (n : Fin 10) (f : PhySt → PhySt) (s : State) : State :=
  updStrand n (fun x => { x with phy := f x.phy }) s
def updLnk (n : Fin 10) (f : LinkSt → LinkSt) (s : State) : State :=
  updStrand n (fun x => { x with lnk := f x.lnk }) s

/-- Apply f over a list of indices, first to last. -/
def forEach {α : Type} (l : List α) (f : α → State → State) (s : State) : State :=
  l.foldl (fun a x => f x a) s

/-- Apply f where c holds. -/
def whenB (c : Bool) (f : State → State) (s : State) : State := if c then f s else s

/-! ### What a command does around its effect -/

/-- A command starts with nothing driven at the boundary (log entry 2). DESIGN CHOICE (log entry 2). -/
def begin (s : State) : State := { s with out := [] }

/-- Drive o at the boundary. DESIGN CHOICE (log entry 2). -/
def emit (o : Out) (s : State) : State := { s with out := s.out ++ [o] }

/-- The free value at hand is used up (log entry 1). DESIGN CHOICE (log entry 1). -/
def useFree (s : State) : State := { s with freeCtr := s.freeCtr + 1 }

/-- The next free value (log entry 1). DESIGN CHOICE (log entry 1). -/
def takeFreeBit (s : State) : Bool × State := (Config.freeBit s.freeCtr, useFree s)

end Sys2Proof.Machine
end

