-- ==== Sys2Proof/Machine/Operands.lean ====
section
/-! DEFINITION. What an offset of the register window names (R34 to R45, R63): page, region and register; and the stored fields of
each register with their access code, reset value, survival and legal encodings. -/

namespace Sys2Proof.Machine

/-! ### Ports and tiles (R12 to R20) -/

/-- The unit at an attach slot (R19). -/
inductive Unit' where
  | map (x : Nat) | home (x : Nat) | sl (n : Nat) | cpe | tre | mgt | sec | hap (n : Nat) | cag (n : Nat) | pfc | dbg | empty
deriving DecidableEq, Repr

/-- The unit of a port ID (R19, R20). -/
def unitOf (p : Nat) : Unit' :=
  if p < 16 then (if p % 2 = 0 then .map (p / 2) else .home (p / 2))
  else if 80 ≤ p ∧ p < 96 then (if p % 2 = 0 then .map (8 + (p - 80) / 2) else .home (8 + (p - 80) / 2))
  else match p with
    | 16 => .sl 0 | 17 => .sl 1 | 18 => .cpe | 20 => .tre | 22 => .mgt | 24 => .sec | 26 => .tre | 28 => .cpe
    | 30 => .sl 4 | 31 => .sl 5 | 32 => .hap 0 | 33 => .hap 1 | 34 => .sl 8 | 36 => .cag 0 | 38 => .cag 1 | 40 => .cag 2
    | 42 => .cag 3 | 46 => .hap 4 | 47 => .hap 5 | 48 => .hap 2 | 49 => .hap 3 | 52 => .cag 4 | 54 => .cag 5 | 56 => .cag 6
    | 58 => .cag 7 | 60 => .sl 9 | 62 => .hap 6 | 63 => .hap 7 | 64 => .sl 2 | 65 => .sl 3 | 66 => .cpe | 68 => .tre
    | 70 => .pfc | 72 => .dbg | 74 => .tre | 76 => .cpe | 78 => .sl 6 | 79 => .sl 7
    | _ => .empty

/-- Unit-side clocks (R19, R354); at a strand port the complex's transmit clock, beside which SLRXA or SLRXB runs its receive side. -/
inductive UnitClk where
  | mclk | eclk | rclk | sclk | hpclk (n : Nat) | pfclk | sltxA | sltxB
deriving DecidableEq, Repr

/-- Crossing classes (R357). -/
inductive CrossClass where
  | s | p | m | a
deriving DecidableEq, Repr

/-- The unit-side clock of a port (R19). -/
def unitClk (p : Nat) : Option UnitClk :=
  match unitOf p with
  | .map _ | .home _ => some .mclk
  | .sl n => some (if n < 8 then .sltxA else .sltxB)
  | .cpe | .tre => some .eclk
  | .mgt | .sec | .dbg => some .rclk
  | .hap n => some (.hpclk (n / 2))
  | .cag _ => some .sclk
  | .pfc => some .pfclk
  | .empty => none

/-- The crossing class of a clock toward FCLK, and so of a port (R19, R357). -/
def clkClass (c : UnitClk) : CrossClass :=
  match c with
  | .eclk => .p
  | .rclk => .s
  | _ => .a
def crossClass (p : Nat) : CrossClass := match unitClk p with | some c => clkClass c | none => .a

/-- The latency of a class in cycles of the receiving clock, the least where it is 2 or 3 (R357). -/
def crossLatency (c : CrossClass) : Nat := match c with | .s => 1 | _ => 2

/-- FCLK cycles that n cycles of a unit-side clock last, where R354 and R355 fix their ratio. -/
def clkCycles (c : UnitClk) (n : Nat) : Option Nat :=
  match c with
  | .eclk => some ((5 * n + 3) / 4)
  | .rclk => some (4 * n)
  | .sltxA => some (2 * n)
  | .sltxB => some ((8 * n + 6) / 7)
  | _ => none

/-- The unit-side cycle of a port in FCLK cycles, rounded up, at the nominal frequency of its clock (R354, R355). DEDUCED (log entry 19). -/
def unitCycle (p : Nat) : Nat :=
  match unitClk p with
  | some .rclk => 4
  | some .pfclk => 10
  | some .sclk | none => 1
  | some _ => 2

/-- A port ID names a slot with a unit (R20). -/
def usedPort (p : Nat) : Bool := decide (unitOf p ≠ .empty)

/-- The strand of a strand port. -/
def strandOf (p : Nat) : Option (Fin 10) :=
  match unitOf p with
  | .sl n => if h : n < 10 then some ⟨n, h⟩ else none
  | _ => none

/-- The port ID of strand n (R19). -/
def strandPort (n : Nat) : Nat :=
  match n with
  | 0 => 16 | 1 => 17 | 2 => 64 | 3 => 65 | 4 => 30 | 5 => 31 | 6 => 78 | 7 => 79 | 8 => 34 | _ => 60

/-- The ports that have retry and PING timers (R201). -/
def pingCapable (p : Nat) : Bool :=
  match unitOf p with
  | .sl _ | .pfc | .dbg | .empty => false
  | _ => true

/-- HOME x, MAP x as ports (R19). -/
def homePort (x : Nat) : Nat := if x < 8 then 2 * x + 1 else 81 + 2 * (x - 8)
def mapPort (x : Nat) : Nat := if x < 8 then 2 * x else 80 + 2 * (x - 8)

def isStrandPort (p : Nat) : Bool := (strandOf p).isSome
def isMap (p : Nat) : Bool := match unitOf p with | .map _ => true | _ => false
def isHome (p : Nat) : Bool := match unitOf p with | .home _ => true | _ => false
def isHap (p : Nat) : Bool := match unitOf p with | .hap _ => true | _ => false
def isCag (p : Nat) : Bool := match unitOf p with | .cag _ => true | _ => false
/-- The memory channel of a MAP or HOME port. -/
def channelOf (p : Nat) : Nat := match unitOf p with | .map x => x | .home x => x | _ => 0

/-- The 70 attach ports. -/
def allPorts : List Nat := (List.range 96).filter usedPort

def portF (p : Nat) : Fin 96 := Fin.ofNat 96 p
def tileF (t : Nat) : Fin 48 := Fin.ofNat 48 t
def strandF (n : Nat) : Fin 10 := Fin.ofNat 10 n

/-- The tile of a port (R14). -/
def portTile (p : Nat) : Nat := p / 2

def tileX (t : Nat) : Nat := t % 8
def tileY (t : Nat) : Nat := t / 8

/-- Router port numbers (R103). -/
def rpNum (r : RPort) : Nat := match r with | .n => 0 | .e => 1 | .s => 2 | .w => 3 | .l0 => 4 | .l1 => 5
def rpOf (i : Nat) : RPort := match i with | 0 => .n | 1 => .e | 2 => .s | 3 => .w | 4 => .l0 | _ => .l1

/-- The neighbour a mesh port faces (R12, R13). -/
def neighbour (t : Nat) (r : RPort) : Option Nat :=
  match r with
  | .n => if tileY t < 5 then some (t + 8) else none
  | .e => if tileX t < 7 then some (t + 1) else none
  | .s => if 0 < tileY t then some (t - 8) else none
  | .w => if 0 < tileX t then some (t - 1) else none
  | _ => none

/-- The port of the neighbour that faces back. -/
def opposite (r : RPort) : RPort :=
  match r with | .n => .s | .s => .n | .e => .w | .w => .e | .l0 => .l0 | .l1 => .l1

def netNum (n : Net) : Nat := match n with | .req => 0 | .rsp => 1 | .snp => 2 | .dat => 3
def netOf (i : Nat) : Net := match i with | 0 => .req | 1 => .rsp | 2 => .snp | _ => .dat
def allNets : List Net := [.req, .rsp, .snp, .dat]

/-- Class codes (R65). -/
def clsNum (c : Cls) : Nat := match c with | .gt => 0 | .ll => 1 | .be => 2 | .mg => 3
def clsOf (i : Nat) : Cls := match i with | 0 => .gt | 1 => .ll | 2 => .be | _ => .mg

def masterNum (m : Master) : Nat :=
  match m with | .mgt => 0 | .sec => 1 | .host0 => 2 | .host1 => 3 | .host2 => 4 | .host3 => 5 | .dbg => 6 | .pfc => 7

/-! ### Pages (R35, R43 to R45) -/

/-- Page kinds (R43). -/
inductive Kind where
  | global | time | clasp | fault | locket | addrmap | devroute | keepsake | sampler
  | tile | rtr (n : Net) | bead | tileCnt | port | portCnt | slLink | slPhy | slEq | slCnt | mirror
deriving DecidableEq, Repr

/-- PG_ID.KIND codes (R43). -/
def kindCode (k : Kind) : Nat :=
  match k with
  | .global => 0x01 | .time => 0x02 | .clasp => 0x03 | .fault => 0x04 | .locket => 0x05 | .addrmap => 0x06 | .devroute => 0x07
  | .keepsake => 0x08 | .sampler => 0x09 | .tile => 0x10 | .rtr n => 0x11 + netNum n | .bead => 0x15 | .tileCnt => 0x16
  | .port => 0x20 | .portCnt => 0x21 | .slLink => 0x30 | .slPhy => 0x31 | .slEq => 0x32 | .slCnt => 0x33 | .mirror => 0x40

/-- Access classes, in the CLASS encoding (R44). -/
inductive PClass where
  | opn | proposer | clasp | factory
deriving DecidableEq, Repr

def classNum (c : PClass) : Nat := match c with | .opn => 0 | .proposer => 1 | .clasp => 2 | .factory => 3

/-- The class of a page kind (R35, R45). -/
def kindClass (k : Kind) : PClass :=
  match k with
  | .addrmap | .devroute | .keepsake | .rtr _ | .bead | .slEq => .clasp
  | .mirror => .opn
  | _ => .proposer

/-- The class of its tables region (R35, R44). -/
def tblClass (k : Kind) : PClass := if k = .fault then .factory else kindClass k

/-- 64-bit pages (R35, R37). -/
def kindWide (k : Kind) : Bool :=
  match k with
  | .tile | .rtr _ | .bead | .tileCnt | .port | .portCnt | .slLink | .slPhy | .slEq | .slCnt => false
  | _ => true

/-- PG_CAP flags: EXPERT (R479), TABLES (R63, R446), BANKED, COUNTERS (R439, R446), MIRROR (R457). -/
def hasExpert (k : Kind) : Bool :=
  match k with
  | .time | .fault | .locket | .rtr _ | .port | .slLink | .slPhy => true
  | _ => false
def hasCounters (k : Kind) : Bool :=
  match k with
  | .tileCnt | .portCnt | .slCnt | .locket | .clasp | .fault | .global => true
  | _ => false
def hasTables (k : Kind) : Bool :=
  match k with
  | .time | .clasp | .fault | .locket | .addrmap | .devroute | .keepsake | .sampler | .tile | .rtr _ | .bead | .tileCnt
  | .port | .slEq | .portCnt | .slCnt | .global => true
  | .slLink | .slPhy | .mirror => false
def isBanked (k : Kind) : Bool :=
  match k with
  | .rtr _ | .bead | .devroute => true
  | _ => false
def hasMirror (k : Kind) : Bool :=
  match k with
  | .tileCnt | .portCnt | .slCnt | .locket | .fault | .global => true
  | _ => false

/-- A page: its kind, instance and offset. -/
structure Page where
  kind : Kind
  inst : Nat
  base : Nat
deriving DecidableEq, Repr

/-- The kind of the j-th global page. -/
def globalKind (j : Nat) : Option (Kind × Nat) :=
  match j with
  | 0 => some (.global, 0) | 1 => some (.time, 0) | 2 => some (.clasp, 0) | 3 => some (.fault, 0) | 4 => some (.locket, 0)
  | 5 => some (.addrmap, 0) | 6 => some (.devroute, 0) | 7 => some (.keepsake, 0)
  | 8 => some (.sampler, 0) | 9 => some (.sampler, 1) | 10 => some (.sampler, 2) | 11 => some (.sampler, 3)
  | _ => none

/-- The kind of the j-th page of a tile's block. -/
def tileKind (j : Nat) : Option Kind :=
  match j with
  | 0 => some .tile | 1 => some (.rtr .req) | 2 => some (.rtr .rsp) | 3 => some (.rtr .snp) | 4 => some (.rtr .dat)
  | 5 => some .bead | 6 => some .tileCnt | _ => none

/-- The page an offset lies on; none is a hole (R35, R36). In a MIRROR window only the first page is a page; the rest are mirror
words (R457), answered on it. -/
def pageOf (off : Nat) : Option Page :=
  if off < 0x100000 then
    (globalKind (off / 0x1000)).map fun (k, i) => ⟨k, i, off / 0x1000 * 0x1000⟩
  else if off < 0x280000 then
    let r := off - 0x100000
    (tileKind (r % 0x8000 / 0x1000)).map fun k => ⟨k, r / 0x8000, off / 0x1000 * 0x1000⟩
  else if off < 0x300000 then none
  else if off < 0x3C0000 then
    let r := off - 0x300000
    let p := r / 0x2000
    if usedPort p then some ⟨if r % 0x2000 < 0x1000 then .port else .portCnt, p, off / 0x1000 * 0x1000⟩ else none
  else if off < 0x400000 then none
  else if off < 0x428000 then
    let r := off - 0x400000
    let k := match r % 0x4000 / 0x1000 with | 0 => Kind.slLink | 1 => Kind.slPhy | 2 => Kind.slEq | _ => Kind.slCnt
    some ⟨k, r / 0x4000, off / 0x1000 * 0x1000⟩
  else if off < 0x800000 then none
  else if off < 0xC00000 then
    some ⟨.mirror, (off - 0x800000) / 0x100000, off / 0x100000 * 0x100000⟩
  else none

/-- Page offsets by index (R35). -/
def tilePage (t : Nat) : Nat := 0x100000 + t * 0x8000
def rtrPage (t : Nat) (n : Net) : Nat := tilePage t + 0x1000 + 0x1000 * netNum n
def beadPage (t : Nat) : Nat := tilePage t + 0x5000
def tileCntPage (t : Nat) : Nat := tilePage t + 0x6000
def portPage (p : Nat) : Nat := 0x300000 + p * 0x2000
def portCntPage (p : Nat) : Nat := portPage p + 0x1000
def slPage (n j : Nat) : Nat := 0x400000 + n * 0x4000 + j * 0x1000
def samplerPage (n : Nat) : Nat := 0x8000 + n * 0x1000
def mirrorPage (h : Nat) : Nat := 0x800000 + h * 0x100000

/-- The offset within its page; a mirror window is one page here. -/
def inPage (pg : Page) (off : Nat) : Nat := off - pg.base

/-- The regions of a page (R50). -/
inductive Region where
  | header | reserved | basic | expert | status | tables | mirror
deriving DecidableEq, Repr

def regionOf (o : Nat) : Region :=
  if o < 0x20 then .header else if o < 0x40 then .reserved else if o < 0x400 then .basic
  else if o < 0x800 then .expert else if o < 0xC00 then .status else if o < 0x1000 then .tables else .mirror

/-! ### Stored fields -/

/-- Access codes (R8). -/
inductive Acc where
  | rw | w1c | cl | fx
deriving DecidableEq, Repr

/-- The encodings a field table lists as legal (R7). -/
inductive Legal where
  | any
  | le (n : Nat)
  | range (lo hi : Nat)
deriving DecidableEq, Repr

def legalOk (l : Legal) (v : Nat) : Bool :=
  match l with
  | .any => true
  | .le n => decide (v ≤ n)
  | .range lo hi => decide (lo ≤ v ∧ v ≤ hi)

/-- A stored field: bits, access, reset value, survival as a mask over P C F T S Q K (bits 0 to 6), legal encodings. -/
structure Field where
  hi : Nat
  lo : Nat
  acc : Acc
  rst : Nat
  surv : Nat
  legal : Legal
deriving DecidableEq, Repr

/-- Stored fields of the global page (R398). -/
def globalFields (o : Nat) : List Field :=
  match o with
  | 0x40 => [⟨7, 4, .rw, 0x0, 120, (.le 1)⟩, ⟨3, 0, .rw, 0x0, 120, (.le 2)⟩] -- FAB_PROFILE
  | 0x58 => -- FAB_RESUME
    [⟨23, 16, .rw, 0x28, 120, (.range 1 255)⟩,
     ⟨11, 8, .rw, 0x4, 120, .any⟩,
     ⟨1, 1, .rw, 0x0, 120, .any⟩,
     ⟨0, 0, .rw, 0x0, 120, .any⟩]
  | 0x800 => [⟨17, 17, .w1c, 0x0, 56, .any⟩, ⟨16, 16, .w1c, 0x0, 56, .any⟩] -- FAB_STAT
  | 0x828 => [⟨63, 61, .fx, 0x0, 120, .any⟩] -- MTX_TOCNT.LAST_MASTER
  | _ => []

/-- Stored fields of the time page (R148, R155). -/
def timeFields (o : Nat) : List Field :=
  match o with
  | 0x40 => [⟨4, 4, .rw, 0x1, 120, .any⟩, ⟨3, 0, .rw, 0x0, 120, (.le 2)⟩] -- TIME_CTRL
  | 0x48 => -- HM_ACTION
    [⟨24, 24, .rw, 0x0, 56, .any⟩,
     ⟨23, 16, .rw, 0x0, 56, .any⟩,
     ⟨15, 8, .rw, 0x0, 56, .any⟩,
     ⟨7, 0, .rw, 0x0, 56, .any⟩]
  | 0x50 => [⟨63, 0, .rw, 0x0, 56, .any⟩] -- HM_TIME
  | 0x400 => -- SERVO_COEF
    [⟨31, 28, .rw, 0x4, 120, (.range 2 15)⟩,
     ⟨27, 8, .rw, 0x2710, 120, (.range 1000 1000000)⟩,
     ⟨7, 4, .rw, 0x6, 120, (.range 1 12)⟩,
     ⟨3, 0, .rw, 0x2, 120, (.le 8)⟩]
  | _ => []

/-- Stored fields of the clasp page (R418). -/
def claspFields (o : Nat) : List Field :=
  match o with
  | 0x48 => [⟨27, 24, .rw, 0x4, 56, .any⟩, ⟨23, 0, .rw, 0x0, 56, .any⟩] -- CLASP_ADDR
  | _ => []

/-- Stored fields of the fault page (R437, R438). -/
def faultFields (o : Nat) : List Field :=
  match o with
  | 0x40 => [⟨11, 8, .rw, 0x0, 120, (.le 2)⟩, ⟨7, 4, .rw, 0x0, 120, (.le 2)⟩, ⟨3, 0, .rw, 0x0, 120, (.le 2)⟩] -- FLT_PROFILE
  | 0x478 => [⟨19, 0, .rw, 0x3e8, 120, (.range 100 1000000)⟩] -- FLT_QUIET
  | 0x480 => [⟨7, 0, .rw, 0x4, 120, (.range 1 255)⟩] -- FLT_RCMAX
  | 0x800 => [⟨14, 0, .w1c, 0x0, 56, .any⟩] -- FLT_GLOBAL
  | 0x818 => [⟨58, 58, .w1c, 0x0, 56, .any⟩, ⟨57, 48, .w1c, 0x0, 56, .any⟩, ⟨47, 0, .w1c, 0x0, 56, .any⟩] -- FLT_TAINT
  | _ => []

/-- Stored fields of the locket page (R261, R262). -/
def locketFields (o : Nat) : List Field :=
  match o with
  | 0x40 => [⟨7, 4, .rw, 0x0, 120, (.le 2)⟩, ⟨3, 0, .rw, 0x0, 120, (.le 2)⟩] -- LK_PROFILE
  | 0x400 => [⟨19, 0, .rw, 0x2710, 120, (.range 100 1000000)⟩] -- LK_TIMEOUT
  | 0x408 => [⟨12, 0, .rw, 0x1388, 120, (.range 1000 8000)⟩] -- LK_GUARD
  | 0x808 => [⟨33, 33, .w1c, 0x0, 120, .any⟩] -- LK_STAT
  | _ => []

/-- Stored fields of the addrmap page (R351). -/
def addrmapFields (o : Nat) : List Field :=
  match o with
  | 0x40 => [⟨3, 0, .cl, 0x0, 120, (.le 1)⟩] -- AM_PROFILE
  | 0x800 => [⟨15, 10, .fx, 0x0, 120, .any⟩, ⟨9, 7, .fx, 0x0, 120, .any⟩] -- AM_STAT
  | _ => []

/-- Stored fields of the devroute page (R352). -/
def devrouteFields (o : Nat) : List Field :=
  match o with
  | 0x40 => [⟨3, 3, .cl, 0x1, 120, .any⟩, ⟨2, 2, .cl, 0x1, 120, .any⟩, ⟨1, 1, .cl, 0x0, 120, .any⟩, ⟨0, 0, .cl, 0x1, 120, .any⟩] -- DR_CTRL
  | 0x48 => [⟨8, 8, .cl, 0x0, 126, .any⟩, ⟨4, 0, .cl, 0x0, 126, .any⟩] -- DR_PIN
  | 0x800 => [⟨41, 41, .w1c, 0x0, 56, .any⟩, ⟨40, 40, .w1c, 0x0, 56, .any⟩] -- DR_STAT
  | _ => []

/-- Stored fields of the keepsake page (R399). -/
def keepsakeFields (o : Nat) : List Field :=
  match o with
  | 0x48 => [⟨0, 0, .cl, 0x0, 120, .any⟩] -- SAVE_CNT
  | _ => []

/-- Stored fields of the sampler page (R456). -/
def samplerFields (o : Nat) : List Field :=
  match o with
  | 0x40 => [⟨4, 4, .rw, 0x1, 120, .any⟩, ⟨3, 2, .rw, 0x0, 120, .any⟩, ⟨1, 0, .rw, 0x0, 120, .any⟩] -- SMP_SEL
  | 0x68 => -- SMP_CTRL
    [⟨11, 8, .rw, 0xa, 120, .any⟩,
     ⟨2, 2, .rw, 0x1, 120, .any⟩,
     ⟨1, 1, .rw, 0x0, 120, .any⟩,
     ⟨0, 0, .rw, 0x0, 120, .any⟩]
  | _ => []

/-- Stored fields of the tile page (R422, R438). -/
def tileFields (o : Nat) : List Field :=
  match o with
  | 0x800 => [⟨24, 24, .w1c, 0x0, 56, .any⟩] -- TILE_STAT
  | 0x804 => [⟨14, 0, .w1c, 0x0, 56, .any⟩] -- TILE_FLT
  | _ => []

/-- Stored fields of the rtr page (R121, R122, R137, R422). -/
def rtrFields (o : Nat) : List Field :=
  match o with
  | 0x40 => [⟨3, 0, .cl, 0x0, 120, (.le 4)⟩] -- RTR_PROFILE
  | 0x400 => [⟨10, 0, .cl, 0x40, 120, (.range 16 1024)⟩] -- RTR_AGE
  | 0x404 => [⟨12, 8, .cl, 0x4, 120, (.range 2 16)⟩, ⟨4, 0, .cl, 0x8, 120, (.range 2 16)⟩] -- RTR_STARVE
  | 0x800 => [⟨5, 5, .w1c, 0x0, 56, .any⟩] -- RTR_STAT
  | 0x808 => [⟨14, 0, .w1c, 0x0, 56, .any⟩] -- RTR_FLT
  | _ => []

/-- Stored fields of the bead page (R173, R188). -/
def beadFields (o : Nat) : List Field :=
  match o with
  | 0x40 => [⟨29, 24, .cl, 0x3f, 120, .any⟩, ⟨13, 8, .cl, 0x3f, 120, .any⟩, ⟨5, 0, .cl, 0x3f, 120, .any⟩] -- BEAD_RECLAIM
  | 0x800 => [⟨7, 7, .w1c, 0x0, 56, .any⟩, ⟨6, 6, .w1c, 0x0, 56, .any⟩] -- BEAD_STAT
  | _ => []

/-- Stored fields of the port page (R212, R422). -/
def portFields (o : Nat) : List Field :=
  match o with
  | 0x40 => [⟨5, 4, .rw, 0x0, 120, (.le 2)⟩, ⟨0, 0, .rw, 0x1, 120, .any⟩] -- PORT_CTRL
  | 0x44 => [⟨0, 0, .rw, 0x0, 120, .any⟩] -- PORT_FENCE
  | 0x48 => [⟨7, 4, .rw, 0x0, 120, (.le 2)⟩, ⟨3, 0, .rw, 0x0, 120, (.le 3)⟩] -- PORT_TIMERS
  | 0x400 => [⟨13, 0, .rw, 0x32, 120, (.range 10 10000)⟩] -- PORT_RETRY
  | 0x404 => [⟨9, 0, .rw, 0x10, 120, (.range 4 1000)⟩] -- PORT_PING
  | 0x800 => -- PORT_STAT
    [⟨15, 15, .w1c, 0x0, 24, .any⟩, ⟨14, 14, .w1c, 0x0, 24, .any⟩, ⟨13, 13, .w1c, 0x0, 24, .any⟩, ⟨12, 12, .w1c, 0x0, 24, .any⟩]
  | 0x808 => [⟨14, 0, .w1c, 0x0, 56, .any⟩] -- PORT_FLT
  | _ => []

/-- Stored fields of the slLink page (R319, R350, R422). -/
def slLinkFields (o : Nat) : List Field :=
  match o with
  | 0x40 => -- SL_CTRL
    [⟨9, 8, .rw, 0x0, 120, (.le 2)⟩,
     ⟨6, 6, .rw, 0x1, 120, .any⟩,
     ⟨5, 4, .rw, 0x0, 120, (.le 2)⟩,
     ⟨0, 0, .rw, 0x1, 120, .any⟩]
  | 0x400 => -- SL_DOWNCRIT
    [⟨29, 20, .rw, 0xc8, 120, (.range 10 1000)⟩,
     ⟨19, 16, .rw, 0x8, 120, (.range 1 15)⟩,
     ⟨12, 8, .rw, 0x14, 120, (.range 10 24)⟩,
     ⟨7, 0, .rw, 0x20, 120, (.range 8 255)⟩]
  | 0x404 => [⟨19, 16, .rw, 0x4, 120, (.range 1 15)⟩, ⟨9, 0, .rw, 0x1f4, 120, (.range 100 1000)⟩] -- SL_ACKINT
  | 0x810 => [⟨14, 0, .w1c, 0x0, 56, .any⟩] -- SL_FLT
  | _ => []

/-- Stored fields of the slPhy page (R320, R321). -/
def slPhyFields (o : Nat) : List Field :=
  match o with
  | 0x40 => -- PHY_CTRL
    [⟨11, 8, .rw, 0x0, 120, (.le 2)⟩, ⟨5, 5, .rw, 0x1, 120, .any⟩, ⟨4, 4, .rw, 0x1, 120, .any⟩, ⟨0, 0, .rw, 0x0, 120, .any⟩]
  | 0x400 => [⟨29, 20, .rw, 0xa0, 120, .any⟩, ⟨19, 10, .rw, 0x140, 120, .any⟩, ⟨9, 0, .rw, 0x190, 120, .any⟩] -- PHY_TRIM
  | 0x800 => [⟨4, 4, .w1c, 0x0, 24, .any⟩] -- PHY_STAT
  | _ => []

/-- Stored fields of the slEq page (R322). -/
def slEqFields (o : Nat) : List Field :=
  match o with
  | 0x40 => [⟨0, 0, .cl, 0x0, 120, .any⟩] -- EQ_CTRL
  | _ => []

/-- Stored fields of the mirror page (R457). -/
def mirrorFields (o : Nat) : List Field :=
  match o with
  | 0x40 => [⟨3, 0, .rw, 0x0, 120, .any⟩] -- MIR_GROUPS
  | _ => []

/-- N, W exponent and SEV of each fault source (R419). -/
def faultNW (src : Nat) : Nat × Nat × Nat :=
  match src with
  | 0 => (64, 10, 1) | 1 => (4, 6, 1) | 2 => (1, 0, 1) | 3 => (2, 10, 1) | 4 => (255, 20, 0) | 5 => (1, 0, 1)
  | 6 => (16, 10, 1) | 7 => (8, 10, 1) | 8 => (32, 8, 1) | 9 => (1, 0, 1) | 10 => (1, 0, 1) | 11 => (1, 0, 1)
  | 12 => (4, 20, 1) | 13 => (1, 0, 1) | _ => (8, 20, 1)

/-- FLT_NWn (R437). -/
def fltNwFields (n : Nat) : List Field :=
  let (c, w, sv) := faultNW n
  [⟨16, 16, .rw, sv, 120, .any⟩, ⟨15, 8, .rw, c, 120, .range 1 255⟩, ⟨4, 0, .rw, w, 120, .le 20⟩]

/-- The stored fields of the register at offset o of a page (basic, expert and status regions). -/
def regFields (k : Kind) (inst o : Nat) : List Field :=
  match k with
  | .global => globalFields o
  | .time => timeFields o
  -- VIOL_CNTn.LAST_KIND (R410)
  | .clasp => if 0x810 ≤ o ∧ o < 0x850 ∧ o % 8 = 0 then [⟨55, 48, .fx, 0, 120, .any⟩] else claspFields o
  | .fault => if 0x400 ≤ o ∧ o < 0x478 ∧ o % 8 = 0 then fltNwFields ((o - 0x400) / 8) else faultFields o
  | .locket => locketFields o
  | .addrmap => addrmapFields o
  | .devroute => devrouteFields o
  | .keepsake => keepsakeFields o
  | .sampler =>
    if o = 0x48 ∨ o = 0x58 then [⟨63, 0, .rw, 0xFFFFFFFFFFFFFFFF, 120, .any⟩]
    else if o = 0x50 ∨ o = 0x60 then [⟨31, 0, .rw, 0xFFFFFFFF, 120, .any⟩] else samplerFields o
  | .tile => tileFields o
  | .rtr _ => rtrFields o
  | .bead => beadFields o
  | .tileCnt | .portCnt | .slCnt => []
  | .port =>
    -- CRITICAL resets to 1 on HAP and CAG (R212), and with the timers exists on PING-capable ports only (R201);
    -- PORT_FLT of a strand port reads 0 (R422)
    if o = 0x40 then
      ⟨5, 4, .rw, 0, 120, .le 2⟩ ::
        (if pingCapable inst then [⟨0, 0, .rw, b2n (isHap inst || isCag inst), 120, .any⟩] else [])
    else if (decide (o = 0x48 ∨ o = 0x400 ∨ o = 0x404) && !pingCapable inst) || (decide (o = 0x808) && isStrandPort inst) then []
    else portFields o
  | .slLink => slLinkFields o
  | .slPhy =>
    -- PRECODE_OK exists on complex B only (R320)
    if o = 0x40 then
      [⟨11, 8, .rw, 0, 120, .le 2⟩, ⟨5, 5, .rw, 1, 120, .any⟩, ⟨0, 0, .rw, 0, 120, .any⟩] ++
        (if 8 ≤ inst then [⟨4, 4, .rw, 1, 120, .any⟩] else [])
    else slPhyFields o
  | .slEq => slEqFields o
  | .mirror => mirrorFields o

/-- The header fields a page stores: PG_CTRL.EXPERT_EN (R46), and of PG_STAT the rejections (R48) and PROFILE_STALE, which only the
fabric writes (R58). -/
def headerFields (k : Kind) (o : Nat) : List Field :=
  match o with
  | 0x10 => [⟨0, 0, if kindClass k = .clasp then .cl else .rw, 0, 120, .any⟩]
  | 0x14 => [⟨6, 6, .w1c, 0, 56, .any⟩, ⟨5, 5, .w1c, 0, 56, .any⟩]
  | _ => []

/-- The stored fields at a page offset below the tables region. -/
def fieldsAt (pg : Page) (o : Nat) : List Field :=
  if o < 0x20 then headerFields pg.kind o else regFields pg.kind pg.inst o

/-- The Reset word of a list of fields. -/
def resetOf (fs : List Field) : Nat := fs.foldl (fun a f => putBits f.hi f.lo a f.rst) 0

/-- The Reset word of the register at a window offset. -/
def regReset (off : Nat) : Word :=
  match pageOf off with
  | some pg => if inPage pg off < 0xC00 then word (resetOf (fieldsAt pg (inPage pg off))) else 0
  | none => 0

/-- What a write leaves in a register, field by field (R6 to R8): `mask` has the written bits, so that half of a 64-bit register can
be written (R38). RW takes legal values, W1C clears, CL and FX change only where `clOk`. DESIGN CHOICE (log entry 75). -/
def mergeFields (fs : List Field) (clOk : Bool) (mask old new : Nat) : Nat :=
  let eff := (old &&& (2 ^ 64 - 1 - mask)) ||| (new &&& mask)
  fs.foldl (fun a f =>
    let v := nbits f.hi f.lo eff
    match f.acc with
    | .rw => if legalOk f.legal v then putBits f.hi f.lo a v else a
    | .w1c =>
      let o := nbits f.hi f.lo old
      putBits f.hi f.lo a (o - (o &&& nbits f.hi f.lo (new &&& mask)))
    | .cl | .fx => if clOk && legalOk f.legal v then putBits f.hi f.lo a v else a) old

/-- What a reset of the kinds in `kinds` (bits as in Field.surv) leaves of a word. DEDUCED (log entry 43). -/
def surviveFields (fs : List Field) (kind : Nat) (old : Nat) : Nat :=
  fs.foldl (fun a f => if f.surv.testBit kind then putBits f.hi f.lo a (nbits f.hi f.lo old) else a) (resetOf fs)

/-! ### Register store -/

/-- The stored word of a register, and of one field of it. DESIGN CHOICE (log entry 75). -/
def regGet (s : State) (off : Nat) : Word := spGet (regReset off) s.regs off
def regFld (s : State) (off hi lo : Nat) : Nat := fld hi lo (regGet s off)
def regSet (off : Nat) (w : Word) (s : State) : State := { s with regs := spSet (regReset off) s.regs off w }
/-- Set bit i of a stored register (a sticky bit). -/
def regSetBit (off i : Nat) (s : State) : State := regSet off (word (setBit (regGet s off).toNat i)) s
def regClrBit (off i : Nat) (s : State) : State := regSet off (word (clrBit (regGet s off).toNat i)) s
/-- Write v to bits [hi:lo] of a stored register. -/
def regPut (off hi lo v : Nat) (s : State) : State := regSet off (putFld hi lo (regGet s off) v) s

/-- A T, S or Q reset of the block leaves PROFILE_STALE of its page at 0 (R48, R369). -/
def staleClear (base : Nat) (s : State) : State := regClrBit (base + 0x14) 2 s

/-! ### Table entries -/

/-- Board rows of SL_EQ (R323), the reset values of EQ_ROWS: TX word in bits [31:0] and RX word in [63:32]. -/
def eqRowReset (r : Nat) : Nat := 
  match r with
  | 0 => 0x200003f00
  | 1 => 0x404003a371e
  | 2 => 0x8060036311c
  | 3 => 0xc0800322d1c
  | 4 => 0xe0a0030291a
  | 5 => 0x100c002e271a
  | 6 => 0x120e002c2318
  | _ => 0x140f002a2118

/-- The key of a stored table entry: its window offset, bank and selection. -/
def tblKey (base o bank sel : Nat) : Nat := base + o + bank * 2 ^ 24 + sel * 2 ^ 25

/-- The reset value of a table entry by key. -/
def tblReset (key : Nat) : Word :=
  let off := key % 2 ^ 24
  match pageOf off with
  | some pg =>
    match pg.kind with
    | .devroute => 0xFFF
    | .slEq => let o := inPage pg off - 0xC40; word (eqRowReset (o / 8) >>> (32 * (o / 4 % 2)) % 2 ^ 32)
    | _ => 0
  | none => 0

def tblGet (s : State) (key : Nat) : Word := spGet (tblReset key) s.tbls key
def tblSet (key : Nat) (w : Word) (s : State) : State := { s with tbls := spSet (tblReset key) s.tbls key w }

end Sys2Proof.Machine
end

