-- ==== Sys2Proof/Machine/Counters.lean ====
section
/-! DEFINITION. The 48-bit counters (R439 to R451) and the latency samplers (R452 to R456). -/

namespace Sys2Proof.Machine

/-! ### Where the counters are -/

/-- Window offsets of counters (R439). -/
def tcOff (t i : Nat) : Nat := tileCntPage t + (if i < 128 then 0x800 + 8 * i else 0xC40 + 8 * (i - 128))
def pcOff (p i : Nat) : Nat := portCntPage p + 0x800 + 8 * i
def scOff (n i : Nat) : Nat := slPage n 3 + 0x800 + 8 * i
def lkDoneOff : Nat := 0x4810
def lkAbortOff : Nat := 0x4818
def violOff (m : Nat) : Nat := 0x2810 + 8 * m
def conseqOff : Nat := 0x3810
def toOff : Nat := 0x828

/-- The tile counter index at a page offset. -/
def tileCntIdx (o : Nat) : Option Nat :=
  if 0x800 ≤ o ∧ o < 0xC00 then some ((o - 0x800) / 8)
  else if 0xC40 ≤ o ∧ o < 0xE40 then some (128 + (o - 0xC40) / 8) else none

/-- A tile counter exists: not a slot counter of an output that faces outside the grid (R440). -/
def tileCntExists (t i : Nat) : Bool :=
  if i < 96 then
    let p := rpOf (i % 24 / 4)
    match p with
    | .l0 | .l1 => true
    | r => (neighbour t r).isSome
  else decide (i < 192)

/-- The counter an offset falls on (R439 to R442); on a strand port's page only indices 0 to 32 count (R441, R64). DEDUCED (log entry 61). -/
def counterAt (pg : Page) (o : Nat) : Option Nat :=
  let c := pg.base + o / 8 * 8
  match pg.kind with
  | .tileCnt => (tileCntIdx o).bind fun i => if tileCntExists pg.inst i then some c else none
  | .portCnt => if 0x800 ≤ o ∧ o < 0x800 + 8 * (if isStrandPort pg.inst then 33 else 47) then some c else none
  | .slCnt => if 0x800 ≤ o ∧ o < 0x800 + 8 * 33 then some c else none
  | .locket => if 0x810 ≤ o ∧ o < 0x820 then some c else none
  | .clasp => if 0x810 ≤ o ∧ o < 0x850 then some c else none
  | .fault => if 0x810 ≤ o ∧ o < 0x818 then some c else none
  | .global => if 0x828 ≤ o ∧ o < 0x830 then some c else none
  | _ => none

/-- VIOL_CNT0 to VIOL_CNT7, which FREEZE does not stop (R451). -/
def isViol (c : Nat) : Bool := decide (0x2810 ≤ c ∧ c < 0x2850)

/-! ### Counting -/

def cntVal (s : State) (c : Nat) : Nat := spGet 0 s.cnt.val c
def cntSet (c v : Nat) (s : State) : State := { s with cnt := { s.cnt with val := spSet 0 s.cnt.val c (v % 2 ^ 48) } }

/-- Add n events to counter c (R449); nothing is counted under FREEZE but violations (R451). -/
def countN (c n : Nat) (s : State) : State :=
  if s.cnt.frozen && !isViol c then s
  else
    let v := cntVal s c + n
    let s := cntSet c v s
    if v < 2 ^ 48 then s else { s with cnt := { s.cnt with ovf := spSet 0 s.cnt.ovf c 1 } }
def count (c : Nat) (s : State) : State := countN c 1 s

/-- One event counted 3 FCLK cycles from now (R444). -/
def countLate (c : Nat) (s : State) : State :=
  { s with cnt := { s.cnt with late := s.cnt.late ++ [(s.clk.cyc + 3, c)] } }

/-- The events due before the present cycle are counted; one due in it comes after a read, a cameo or a FREEZE of that cycle (R449). -/
def countDue (s : State) : State :=
  let c := s.clk.cyc
  let due := s.cnt.late.filter fun e => decide (e.1 < c)
  due.foldl (fun s e => count e.2 s) { s with cnt := { s.cnt with late := s.cnt.late.filter fun e => decide (c ≤ e.1) } }

/-- Per-network tile events by their index in R440 at network 0. -/
def countTile (t : Fin 48) (base stride : Nat) (n : Net) (s : State) : State := count (tcOff t (base + stride * netNum n)) s
/-- The port counters of R441. -/
def countPort (p : Fin 96) (i : Nat) (s : State) : State :=
  if isStrandPort p && decide (32 < i) then s else count (pcOff p i) s
/-- The strand counters of R442. -/
def countStrand (n : Fin 10) (i : Nat) (s : State) : State := count (scOff n i) s

/-! ### Cameos, FREEZE, presets and reads -/

/-- A cameo copies every counter into its shadow (R450). -/
def takeCameo (s : State) : State := { s with cnt := { s.cnt with shadow := s.cnt.val } }

/-- Key of a master's latch on a counter page (R447, R448). -/
def latchKey (m : Master) (pgBase : Nat) : Nat := masterNum m * 2 ^ 24 + pgBase

/-- A preset of counter c (R448): OVF stays as it was, and an increment of this cycle is lost (R449). -/
def preset (c v : Nat) (s : State) : State :=
  let s := cntSet c v s
  { s with cnt := { s.cnt with late := s.cnt.late.filter fun e => !decide (e = (s.clk.cyc, c)) } }

/-- A 32-bit preset write of master m (R448): the low word is latched, the high word sets the counter. -/
def presetHalf (m : Master) (pg : Page) (c : Nat) (high : Bool) (v : Nat) (s : State) : State :=
  let k := latchKey m pg.base
  if high then
    let (lc, lv) := spGet (0, 0) s.cnt.wrLatch k
    let low := if lc = c then lv else 0
    let s := preset c ((v % 2 ^ 16) * 2 ^ 32 + low) s
    { s with cnt := { s.cnt with wrLatch := spDel s.cnt.wrLatch k } }
  else { s with cnt := { s.cnt with wrLatch := spSet (0, 0) s.cnt.wrLatch k (c, v % 2 ^ 32) } }

/-- Clear OVF of counter c (R446, overflow view). -/
def clearOvf (c : Nat) (s : State) : State := { s with cnt := { s.cnt with ovf := spDel s.cnt.ovf c } }

/-- What a 32-bit read of a counter value v returns, with the latching of R447. DEDUCED (log entry 81). -/
def readHalf (m : Master) (pg : Page) (c : Nat) (high : Bool) (v : Nat) (s : State) : Nat × State :=
  let k := latchKey m pg.base
  if high then
    let (lc, lv) := spGet (0, 0) s.cnt.rdLatch k
    (if lc = c then lv else v >>> 32, s)
  else (v % 2 ^ 32, { s with cnt := { s.cnt with rdLatch := spSet (0, 0) s.cnt.rdLatch k (c, v >>> 32) } })

/-! ### Samplers -/

/-- FTIME in whole ns. -/
def ftimeNs (s : State) : Nat := s.clk.ftime / 65536 % 2 ^ 64

def updSamp (n : Fin 4) (f : SampSt → SampSt) (s : State) : State := { s with samps := s.samps.set n (f s.samps[n]) }

/-- One step of the LFSR x^16 + x^14 + x^13 + x^11 + 1 (R453), shifting toward bit 0 (log entry 8). DEDUCED (log entry 8). -/
def lfsrStep (l : BitVec 16) : BitVec 16 :=
  let v := l.toNat
  let b := b2n ((v.testBit 0 != v.testBit 2) != (v.testBit 3 != v.testBit 5))
  BitVec.ofNat 16 (v >>> 1 + b * 2 ^ 15)

/-- Step until bits [K:0] are not zero (R453); a maximal LFSR has no 17 steps in a row that leave them zero. DEDUCED (log entry 8). -/
def lfsrDraw (fuel k : Nat) (l : BitVec 16) : BitVec 16 :=
  match fuel with
  | 0 => l
  | f + 1 =>
    let l' := lfsrStep l
    if l'.toNat % 2 ^ (k + 1) = 0 then lfsrDraw f k l' else l'

/-- Draw the next interval. -/
def drawInterval (k : Nat) (x : SampSt) : SampSt :=
  let l := lfsrDraw 20 k x.lfsr
  { x with lfsr := l, interval := l.toNat % 2 ^ (k + 1), count := 0, armed := false, sel := none }

/-- SMP_CTRL fields. -/
def smpEn (s : State) (n : Nat) : Bool := regFld s (samplerPage n + 0x68) 0 0 = 1
def smpStop (s : State) (n : Nat) : Bool := regFld s (samplerPage n + 0x68) 1 1 = 1
def smpAge (s : State) (n : Nat) : Bool := regFld s (samplerPage n + 0x68) 2 2 = 1
def smpK (s : State) (n : Nat) : Nat := regFld s (samplerPage n + 0x68) 11 8

/-- Bit i of a 96-bit port mask held in two registers. -/
def smpMask (lo hi : Word) (i : Nat) : Bool :=
  if i < 64 then lo.toNat.testBit i else hi.toNat.testBit (i - 64)

/-- The selection that counts now: the registers', until an arming is under way (R456). DEDUCED (log entry 8). -/
def smpSel (s : State) (n : Fin 4) : Vector Word 5 :=
  let b := samplerPage n.val
  s.samps[n].sel.getD #v[regGet s (b + 0x40), regGet s (b + 0x48), regGet s (b + 0x50), regGet s (b + 0x58), regGet s (b + 0x60)]

/-- The flit is a match of selection v (R452): injected at port p, toward port d of this device (the exit strand's port when XF = 1). -/
def smpMatch (v : Vector Word 5) (p d : Nat) (f : Flit) : Bool :=
  decide (fld 1 0 v[0] = netNum f.net) && (decide (fld 4 4 v[0] = 1) || decide (fld 3 2 v[0] = clsNum f.cls)) &&
    smpMask v[1] v[2] p && decide (d < 96) && smpMask v[3] v[4] d

/-- One injection seen by sampler n (R453): counts toward the interval, or is marked. DEDUCED (log entry 8). -/
def smpInject1 (n : Fin 4) (p d : Nat) (f : Flit) (bwait : Nat) (s : State) : Bool × State :=
  let x := s.samps[n]
  let v := smpSel s n
  if !smpEn s n || x.flight.isSome || x.full || !smpMatch v p d f then (false, s)
  else if x.armed then
    (true, updSamp n (fun x => { x with flight := some (s.clk.cyc, ftimeNs s, bwait), armed := false }) s)
  else
    let x := if x.interval = 0 then drawInterval (smpK s n) x else x
    let x := { x with count := x.count + 1, sel := some v }
    let x := { x with armed := decide (x.interval ≤ x.count) }
    (false, updSamp n (fun _ => x) s)

/-- One injection, offered to the four samplers; a flit carries one mark, the lowest sampler's. -/
def smpInject (p d : Nat) (f : Flit) (bwait : Nat) (s : State) : Option (Fin 4) × State :=
  (List.finRange 4).foldl (fun (acc : Option (Fin 4) × State) n =>
    match acc.1 with
    | some _ => acc
    | none =>
      let (m, s) := smpInject1 n p d f bwait acc.2
      (if m then some n else none, s)) (none, s)

/-- The record of a sample that ends now (R455). -/
def smpRecord (s : State) (fl : Nat × Nat × Nat) (f : Flit) (hops : Nat) (disp inBead : Bool) : Record :=
  let (c0, t0, bw) := fl
  let lat := s.clk.cyc - c0
  let base := if inBead then hops + 4 else 2 * hops + 4
  let bwait := if f.cls = .gt then bw else 0
  let addr := match f.net with
    | .req => f.addr.toNat
    | .snp => f.laddr.toNat * 64
    | _ => 0
  { w0 := word t0
    w1 := word (at' (clsNum f.cls) 62 + at' f.qos.toNat 58 + at' f.opc.toNat 52 + addr)
    w2 := word (at' (hops % 32) 48 + at' f.tag.toNat 32 + at' (b2n disp) 21 + at' (b2n f.epoch) 20 + at' (b2n f.xf) 19 +
      at' f.dstdev.toNat 14 + at' f.dst.toNat 7 + f.src.toNat)
    w3 := word (at' (bwait % 128) 32 + at' ((lat - bwait - base) % 2 ^ 16) 16 + lat % 2 ^ 16) }

/-- Write a record at NEXT (R456). -/
def smpStore (stop : Bool) (r : Record) (x : SampSt) : SampSt :=
  let i := x.next
  let full := decide (x.held = 1024)
  { x with
    records := spSet {} x.records i r
    next := (i + 1) % 1024
    held := if full then x.held else x.held + 1
    wrap := x.wrap || full
    full := x.full || (stop && decide (1024 ≤ x.held + 1)) }

/-- A marked flit leaves the fabric (R454): write the record and draw the next interval. -/
def smpEnd (mark : Option (Fin 4)) (f : Flit) (hops : Nat) (disp inBead : Bool) (s : State) : State :=
  match mark with
  | none => s
  | some n =>
    match s.samps[n].flight with
    | none => s
    | some fl =>
      let r := smpRecord s fl f hops disp inBead
      let k := smpK s n
      let stop := smpStop s n
      updSamp n (fun x => { drawInterval k (smpStore stop r x) with flight := none }) s

/-- SMP_CTRL.CLEAR (R456): the store is empty. -/
def smpClear (n : Fin 4) (s : State) : State :=
  updSamp n (fun x => { x with records := [], held := 0, next := 0, wrap := false, full := false }) s

/-- A sample not ended within 65,536 FCLK cycles is dropped (R454). -/
def smpTimeout (n : Fin 4) (s : State) : State :=
  match s.samps[n].flight with
  | none => s
  | some _ =>
    let k := smpK s n
    updSamp n (fun x => { drawInterval k x with flight := none, lost := x.lost + 1 }) s

/-- Record i of the store's view (R456): from the oldest with AGE = 1, by slot with AGE = 0. -/
def smpView (s : State) (n : Fin 4) (i : Nat) : Record :=
  let x := s.samps[n]
  if smpAge s n then
    if i < x.held then spGet {} x.records ((x.next + 1024 - x.held + i) % 1024) else {}
  else spGet {} x.records i

end Sys2Proof.Machine
end

