-- ==== Sys2Proof/Machine/Hallmarks.lean ====
section
/-! DEFINITION. Time passing (R138 to R142) and the hallmark queues (R149 to R156). -/

namespace Sys2Proof.Machine

/-! ### Time passing -/

/-- FTIME counts (R145): the state is not UNSYNCED and the RPLL runs. -/
def timeRuns (s : State) : Bool := decide (s.time.state ≠ .unsynced) && s.clk.rpll

/-- What n TBCLK cycles add to the 64.16 count (R138). -/
def ftimeAdd (s : State) (n : Nat) : Nat :=
  if timeRuns s then (((s.clk.ftime : Int) + (n : Int) * (65536 + s.clk.trim)).toNat) % 2 ^ 80 else s.clk.ftime

/-- n FCLK cycles pass (R138, R142). Frames keep 128 FCLK cycles; FPHASE is FTIME mod 64 at the last boundary passed. -/
def advance (n : Nat) (s : State) : State :=
  let c := s.clk.cyc + n
  let b := c - (c + s.clk.phase) % 128
  let fp := if s.clk.cyc < b && timeRuns s then ftimeAdd s (b / 2 - s.clk.cyc / 2) / 65536 % 64 else s.clk.fphase
  countDue { s with clk := { s.clk with cyc := c, ftime := ftimeAdd s (c / 2 - s.clk.cyc / 2), fphase := fp } }

/-- Time passes until cycle c, if it lies ahead. DESIGN CHOICE (log entry 12). -/
def advanceTo (c : Nat) (s : State) : State := advance (c - s.clk.cyc) s

/-- The slot counter (R142, R160). -/
def slotNow (s : State) : Nat := (s.clk.cyc + s.clk.phase) % 128

/-- Time passes until the slot counters stand at k; none passes where they already do. DESIGN CHOICE (log entry 12). -/
def advanceToSlot (k : Fin 128) (s : State) : State := advance ((k.val + 128 - slotNow s) % 128) s

/-- Time passes until the next frame boundary at or after the present cycle. -/
def advanceToFrame (s : State) : State := advance ((128 - slotNow s) % 128) s

/-- TBCLK cycles until FTIME reaches t ns, at the present increment (TRIM is at least -32). -/
def tbToTime (s : State) (t : Nat) : Nat :=
  let inc := (65536 + s.clk.trim).toNat
  if t * 65536 ≤ s.clk.ftime then 0 else (t * 65536 - s.clk.ftime + inc - 1) / inc

/-- Time passes until FTIME first reaches or passes t ns (R152). DESIGN CHOICE (log entry 12). -/
def advanceToTime (t : Nat) (s : State) : State :=
  if timeRuns s then advance (2 * tbToTime s t - (if tbToTime s t = 0 then 0 else s.clk.cyc % 2)) s else s

/-- Set the slot counters so that a boundary falls where FTIME mod 64 = 0 (R142). -/
def setSlots (s : State) : State :=
  { s with clk := { s.clk with
      phase := (2 * (ftimeNs s % 64) + 128 - s.clk.cyc % 128) % 128
      fphase := 0 } }

/-! ### Modes -/

/-- FAB_STAT.MODE codes (R398). -/
def modeNum (m : Mode) : Nat :=
  match m with
  | .hold => 0 | .load => 1 | .run => 2 | .degraded => 3 | .drain => 4 | .keep => 5 | .restore => 6 | .test => 7

def isRunning (m : Mode) : Bool := decide (m = .run ∨ m = .degraded)
def carries (m : Mode) : Bool := decide (m = .run ∨ m = .degraded ∨ m = .test ∨ m = .drain)
/-- The fabric carries traffic: not in a short drain, which carries nothing (R31, R388). -/
def trafficOn (s : State) : Bool := carries s.ms.mode && !(decide (s.ms.mode = .drain) && s.ms.drainShort)

/-! ### Actions -/

/-- Modes in which an action may be queued, and may launch (R150, R155). -/
def actModeOk (act : Nat) (m : Mode) : Bool :=
  match act with
  | 0x01 | 0x02 | 0x06 => decide (m = .run ∨ m = .degraded ∨ m = .test)
  | 0x03 | 0x04 | 0x05 | 0x09 => decide (m = .hold ∨ m = .run ∨ m = .degraded ∨ m = .test)
  | 0x07 => decide (m = .run ∨ m = .degraded)
  | 0x08 => decide (m = .test)
  | _ => false

def frameAligned (act : Nat) : Bool := decide (act = 1 ∨ act = 2)
def tileAction (act : Nat) : Bool := decide (act = 6 ∨ act = 8)
def xdevOk (act : Nat) : Bool := decide ((1 ≤ act ∧ act ≤ 5) ∨ act = 7)

/-- TARGET and ARG ranges (R485). -/
def actArgsOk (act target arg : Nat) : Bool :=
  match act with
  | 0x06 => usedPort target && decide (arg ≤ 2)
  | 0x08 => decide (target ≤ 47)
  | 0x07 => decide (target = 0 ∧ arg ≤ 1)
  | 0x01 | 0x02 | 0x03 | 0x04 | 0x05 | 0x09 => decide (target = 0 ∧ arg = 0)
  | _ => false

/-- The place of an action among those of one TBCLK cycle (R154). -/
def actRank (act : Nat) : Nat :=
  match act with
  | 0x09 => 1 | 0x01 => 2 | 0x02 => 3 | 0x03 => 5 | 0x04 => 6 | 0x05 => 7 | 0x06 => 8 | 0x07 => 9 | _ => 10

/-- The tile whose queue takes a tile action (R150). -/
def actTile (act target : Nat) : Nat := if act = 6 then portTile target else target

/-! ### Queues -/

/-- Queued entries of the global queue with their index, and of every tile queue with their ID (R155 LAST_ID). -/
def gqEntries (s : State) : List (Nat × HmEntry) :=
  (List.finRange 32).filterMap fun i => s.hm.gq[i].map fun e => (i.val, e)
def tqEntries (s : State) (t : Fin 48) : List (Nat × HmEntry) :=
  (List.finRange 8).filterMap fun i => (s.hm.tq[t])[i].map fun e => (32 + 8 * t.val + i.val, e)
def allEntries (s : State) : List (Nat × HmEntry) :=
  gqEntries s ++ (List.finRange 48).flatMap (tqEntries s)

def gqHas (s : State) (act : Nat) : Bool := (gqEntries s).any fun e => decide (e.2.act = act)

/-- Lowest free entry of a queue (log entry 9). DESIGN CHOICE (log entry 9). -/
def freeGq (s : State) : Option (Fin 32) := (List.finRange 32).find? fun i => s.hm.gq[i].isNone
/-- DESIGN CHOICE (log entry 9). -/
def freeTq (s : State) (t : Fin 48) : Option (Fin 8) := (List.finRange 8).find? fun i => (s.hm.tq[t])[i].isNone

/-- The first frame boundary whose FTIME is at or after t, at the present FPHASE (R152). -/
def frameAt (s : State) (t : Nat) : Nat := t + (s.clk.fphase + 64 - t % 64) % 64

/-- The least lead of a submission in ns (R151). -/
def leadNs (xdev : Bool) : Nat := if xdev then 20000 else 2000

/-- More than 8 global entries would launch within one window of 2,000 ns with one more at time t (R151 CROWD). -/
def crowd (s : State) (t : Nat) : Bool :=
  let ts := t :: (gqEntries s).map (fun e => e.2.time)
  ts.any fun a => decide (8 < (ts.filter fun b => decide (a ≤ b ∧ b < a + 2000)).length)

/-- The switch of this entry swaps the bead banks too (R176). -/
def swapsBeads (e : HmEntry) : Bool := decide (e.act = 1) && decide (e.owner = .planner ∨ e.owner = .push)

/-- A bead swap is queued, or an epoch switch that swaps the bead banks too (R151, R176). -/
def beadSwapPending (s : State) : Bool := (gqEntries s).any fun x => decide (x.2.act = 2) || swapsBeads x.2

/-- HM_STAT.RESULT for a submission (R151); t is the launch time. -/
def hmJudge (s : State) (owner : HmOwner) (act target arg : Nat) (xdev : Bool) (t : Nat) : Nat :=
  if !actArgsOk act target arg || (decide (act = 9) && decide (owner ≠ .clasp)) || (xdev && !xdevOk act) then 0x6
  else if !actModeOk act s.ms.mode then 0x7
  else if xdev && decide (s.time.state ≠ .synced) then 0x5
  else if (decide (act = 1) && (gqHas s 1 || decide (s.epoch.switch ≠ .idle))) || (decide (act = 2) && beadSwapPending s) then 0x4
  else if t < ftimeNs s + leadNs xdev then 0x2
  else if tileAction act then
    if (freeTq s (tileF (actTile act target))).isNone then 0x3 else 0x1
  else if (freeGq s).isNone then 0x3
  else if crowd s t then 0x8 else 0x1

/-- The time a submission asks for (R152); none submits at next frame. -/
def hmWant (s : State) (xdev : Bool) (at? : Option Nat) : Nat := at?.getD (ftimeNs s + leadNs xdev)

/-- The launch time of a submission at the present FPHASE (R152). -/
def hmLaunchTime (s : State) (act : Nat) (xdev : Bool) (at? : Option Nat) : Nat :=
  if frameAligned act || at?.isNone then frameAt s (hmWant s xdev at?) else hmWant s xdev at?

/-- Put an entry into a global, a tile queue slot. -/
def putGq (i : Fin 32) (e : Option HmEntry) (s : State) : State := { s with hm := { s.hm with gq := s.hm.gq.set i e } }
def putTq (t : Fin 48) (i : Fin 8) (e : Option HmEntry) (s : State) : State :=
  { s with hm := { s.hm with tq := s.hm.tq.set t ((s.hm.tq[t]).set i e) } }

/-- Submit a hallmark (R149 to R153): judged, queued when accepted; RESULT and LAST_ID tell. DEDUCED (log entry 33). -/
def hmSubmit (owner : HmOwner) (act target arg : Nat) (xdev : Bool) (at? : Option Nat) (s : State) : State :=
  let t := hmLaunchTime s act xdev at?
  let r := hmJudge s owner act target arg xdev t
  let s := { s with hm := { s.hm with result := r } }
  if r ≠ 1 then s
  else
    let e : HmEntry := { act := act, target := target, arg := arg, xdev := xdev, time := t
                         want := if frameAligned act then hmWant s xdev at? else t, order := s.hm.order, owner := owner }
    let s := { s with hm := { s.hm with order := s.hm.order + 1 } }
    if tileAction act then
      let tl := tileF (actTile act target)
      match freeTq s tl with
      | none => s
      | some i => putTq tl i (some e) { s with hm := { s.hm with lastId := 32 + 8 * tl.val + i.val } }
    else
      match freeGq s with
      | none => s
      | some i => putGq i (some e) { s with hm := { s.hm with lastId := i.val } }

/-- The entry of an ID (R155 LAST_ID). -/
def hmEntryOf (s : State) (id : Nat) : Option HmEntry :=
  if h : id < 32 then s.hm.gq[id]
  else if id < 416 then (s.hm.tq[tileF ((id - 32) / 8)])[Fin.ofNat 8 ((id - 32) % 8)]
  else none

/-- Take the entry of an ID out of its queue. -/
def hmRemove (id : Nat) (s : State) : State :=
  if id < 32 then putGq (Fin.ofNat 32 id) none s
  else if id < 416 then putTq (tileF ((id - 32) / 8)) (Fin.ofNat 8 ((id - 32) % 8)) none s
  else s

/-- An entry can still be cancelled: not sent to the tiles, and not within 1,000 ns of its launch (R151, R153). -/
def cancellable (s : State) (e : HmEntry) : Bool := !e.sent && decide (ftimeNs s + 1000 < e.time)

/-- HM_SUBMIT with OP = 0b11 (R151, R153). -/
def hmCancel (id : Nat) (s : State) : State :=
  match hmEntryOf s id with
  | none => { s with hm := { s.hm with result := 0xA } }
  | some e =>
    if e.owner = .clasp ∨ !cancellable s e then { s with hm := { s.hm with result := 0xA } }
    else
      let s := hmRemove id s
      { s with hm := { s.hm with result := 0x9 } }

/-- Discard the staged set with a cause (R411). -/
def claspDiscard (cause : Nat) (s : State) : State :=
  if s.clasp.state = .idle then s
  else { s with clasp := { s.clasp with state := .idle, recs := [], cause := cause } }

/-- One entry discarded (R155): a clasp-apply entry takes its set with it. DEDUCED (log entry 34). -/
def hmDiscardOne (cause : Nat) (id : Nat) (e : HmEntry) (s : State) : State :=
  let s := hmRemove id s
  let s := { s with hm := { s.hm with discCnt := s.hm.discCnt + 1, lastDisc := cause } }
  if e.act = 9 then claspDiscard (if cause = 3 then 0xB else 0xA) s else s

/-- Discard the entries that satisfy p (R155). -/
def hmDiscard (cause : Nat) (p : Nat → HmEntry → Bool) (s : State) : State :=
  forEach ((allEntries s).filter fun x => p x.1 x.2) (fun x => hmDiscardOne cause x.1 x.2) s

/-- DEDUCED (log entry 34). -/
def hmDiscardAll (cause : Nat) (s : State) : State := hmDiscard cause (fun _ _ => true) s
/-- DEDUCED (log entry 34). -/
def hmDiscardXdev (s : State) : State := hmDiscard 0x2 (fun _ e => e.xdev) s
/-- The own queue of tile t. DEDUCED (log entry 34). -/
def hmDiscardTile (cause : Nat) (t : Fin 48) (s : State) : State :=
  forEach (tqEntries s t) (fun x => hmDiscardOne cause x.1 x.2) s

/-- A submission; an entry put into the queue of an isolated tile is discarded there (R155 ISOL, log entry 10). DEDUCED (log entry 10). -/
def hmSubmitTile (owner : HmOwner) (act target arg : Nat) (xdev : Bool) (at? : Option Nat) (s : State) : State :=
  let s := hmSubmit owner act target arg xdev at? s
  let tl := tileF (actTile act target)
  if tileAction act && s.tiles[tl].isolated then hmDiscardTile 0x5 tl s else s

/-- HM_SEND_TO_TILES (R153): 1,000 ns before its launch time, the entry goes to the launch buffers. -/
def hmSend (i : Fin 32) (s : State) : State :=
  match s.hm.gq[i] with
  | none => s
  | some e =>
    if e.sent then s
    else
      let s := advanceToTime (e.time - 1000) s
      if ftimeNs s + 1000 < e.time then s else putGq i (some { e with sent := true }) s

/-! ### The cycle of a launch (R152, R154) -/

/-- The TBCLK cycle, counted as clk.cyc / 2, in which a copy of FTIME that is off ns ahead of the ring first reaches or passes t ns, at
the present increment; for a time already reached, the cycle in which it did so. -/
def tbReach (s : State) (off : Int) (t : Nat) : Nat :=
  let d : Int := ((t : Int) - off) * 65536 - (s.clk.ftime : Int)
  let inc : Int := 65536 + s.clk.trim
  (((s.clk.cyc / 2 : Nat) : Int) + (if 0 < d then (d + inc - 1) / inc else -((-d) / inc))).toNat

/-- The FCLK cycle of the first frame boundary at or after cycle c. -/
def boundaryFrom (s : State) (c : Nat) : Nat := c + (128 - (c + s.clk.phase) % 128) % 128

/-- How far the copy of FTIME against which an entry launches is off the ring: a tile action launches against its tile's (R141). -/
def entryOff (s : State) (e : HmEntry) : Int := if tileAction e.act then s.tiles[tileF (actTile e.act e.target)].timeOff else 0

/-- The FCLK cycle in which an entry launches: its copy of FTIME has reached the time asked for, and a frame-aligned action waits for the
next frame boundary (R152). -/
def launchCyc (s : State) (e : HmEntry) : Nat :=
  let c := 2 * tbReach s (entryOff s e) e.want
  if frameAligned e.act then boundaryFrom s c else c

/-- The TBCLK cycle of an entry's launch and its place in that cycle (R154), as one number. -/
def launchKey (s : State) (e : HmEntry) : Nat := 16 * (launchCyc s e / 2) + actRank e.act

/-- Order of launch (R154): TBCLK cycle, place of the action, time, acceptance. -/
def launchesBefore (s : State) (a b : HmEntry) : Bool :=
  decide (launchKey s a < launchKey s b) ||
    (decide (launchKey s a = launchKey s b) && (decide (a.time < b.time) || (decide (a.time = b.time) && decide (a.order < b.order))))

end Sys2Proof.Machine
end

