-- ==== Sys2Proof/Machine/Packets.lean ====
section
/-! DEFINITION. Flits: their bits and check bits (R65 to R77), opcodes (R78 to R83) and what ties packets into transactions
(R84 to R97). -/

namespace Sys2Proof.Machine

/-! ### Bits -/

/-- A list of (width, value), most significant first, as one number. -/
def packBits (l : List (Nat × Nat)) : Nat := l.foldl (fun a p => a * 2 ^ p.1 + p.2 % 2 ^ p.1) 0

/-- The common header (R65). -/
def hdrBits (f : Flit) : List (Nat × Nat) :=
  [(7, f.dst.toNat), (7, f.src.toNat), (2, clsNum f.cls), (3, f.vc.toNat), (4, f.qos.toNat), (1, b2n f.epoch), (12, f.tag.toNat),
   (6, f.opc.toNat)]

/-- The covered bits of a flit (R73 to R76): 183 of REQ, 88 of RSP, 120 of SNP; of DAT the header above the 512 data bits. -/
def packFlit (f : Flit) : Nat :=
  match f.net with
  | .req => packBits (hdrBits f ++ [(1, b2n f.xf), (5, f.dstdev.toNat), (5, f.srcdev.toNat), (16, f.e2seq.toNat), (1, b2n f.lkv),
      (6, f.lkt.toNat), (8, f.attr.toNat), (4, f.lmask.toNat), (52, f.addr.toNat), (40, f.rarg.toNat), (3, 0)])
  | .rsp => packBits (hdrBits f ++ [(1, b2n f.xf), (5, f.dstdev.toNat), (5, f.srcdev.toNat), (16, f.e2seq.toNat), (4, f.sub.toNat),
      (15, f.arg.toNat)])
  | .snp => packBits (hdrBits f ++ [(1, b2n f.xf), (5, f.dstdev.toNat), (5, f.srcdev.toNat), (16, f.e2seq.toNat),
      (46, f.laddr.toNat), (5, 0)])
  | .dat =>
    let e := f.e2seq.toNat
    let id := if f.transit then [(5, f.srcdev.toNat), (1, b2n f.cnet), (1, 0)] else [(7, f.src.toNat)]
    let tg := if f.transit then e / 16 else f.tag.toNat
    let tl := if f.transit then [(4, e % 16), (5, f.dstdev.toNat)] else [(5, f.srcdev.toNat), (4, 0)]
    packBits ([(7, f.dst.toNat)] ++ id ++ [(2, clsNum f.cls), (3, f.vc.toNat), (4, f.qos.toNat), (1, b2n f.epoch), (12, tg),
      (6, f.opc.toNat), (2, f.lidx.toNat), (1, b2n f.xf), (1, b2n f.msk), (1, b2n f.dpsn)] ++ tl ++ [(512, f.data.toNat)])

/-- Fields of the common header whose top bit is bit t. -/
def unpackHdr (net : Net) (t n : Nat) : Flit :=
  let g := fun hi w => nbits (t - hi) (t - hi + 1 - w) n
  { net := net, dst := BitVec.ofNat 7 (g 0 7), src := BitVec.ofNat 7 (g 7 7), cls := clsOf (g 14 2), vc := BitVec.ofNat 3 (g 16 3),
    qos := BitVec.ofNat 4 (g 19 4), epoch := g 23 1 = 1, tag := BitVec.ofNat 12 (g 24 12), opc := BitVec.ofNat 6 (g 36 6) }

/-- The flit of a network whose covered bits are n (for DAT, header above data). Reserved bits are dropped (R6). -/
def unpackFlit (net : Net) (n : Nat) : Flit :=
  match net with
  | .req =>
    { unpackHdr .req 182 n with
      xf := n.testBit 140, dstdev := BitVec.ofNat 5 (nbits 139 135 n), srcdev := BitVec.ofNat 5 (nbits 134 130 n)
      e2seq := BitVec.ofNat 16 (nbits 129 114 n), lkv := n.testBit 113, lkt := BitVec.ofNat 6 (nbits 112 107 n)
      attr := BitVec.ofNat 8 (nbits 106 99 n), lmask := BitVec.ofNat 4 (nbits 98 95 n), addr := BitVec.ofNat 52 (nbits 94 43 n)
      rarg := BitVec.ofNat 40 (nbits 42 3 n) }
  | .rsp =>
    { unpackHdr .rsp 87 n with
      xf := n.testBit 45, dstdev := BitVec.ofNat 5 (nbits 44 40 n), srcdev := BitVec.ofNat 5 (nbits 39 35 n)
      e2seq := BitVec.ofNat 16 (nbits 34 19 n), sub := BitVec.ofNat 4 (nbits 18 15 n), arg := BitVec.ofNat 15 (nbits 14 0 n) }
  | .snp =>
    { unpackHdr .snp 119 n with
      xf := n.testBit 77, dstdev := BitVec.ofNat 5 (nbits 76 72 n), srcdev := BitVec.ofNat 5 (nbits 71 67 n)
      e2seq := BitVec.ofNat 16 (nbits 66 51 n), laddr := BitVec.ofNat 46 (nbits 50 5 n) }
  | .dat =>
    let h := n >>> 512
    let base : Flit :=
      { net := .dat, dst := BitVec.ofNat 7 (nbits 55 49 h), cls := clsOf (nbits 41 40 h), vc := BitVec.ofNat 3 (nbits 39 37 h)
        qos := BitVec.ofNat 4 (nbits 36 33 h), epoch := h.testBit 32, opc := BitVec.ofNat 6 (nbits 19 14 h)
        lidx := BitVec.ofNat 2 (nbits 13 12 h), xf := h.testBit 11, msk := h.testBit 10, dpsn := h.testBit 9
        data := BitVec.ofNat 512 (n % 2 ^ 512) }
    if h.testBit 11 then
      { base with transit := true, srcdev := BitVec.ofNat 5 (nbits 48 44 h), cnet := h.testBit 43
                  e2seq := BitVec.ofNat 16 (nbits 31 20 h * 16 + nbits 8 5 h), dstdev := BitVec.ofNat 5 (nbits 4 0 h) }
    else
      { base with src := BitVec.ofNat 7 (nbits 48 42 h), tag := BitVec.ofNat 12 (nbits 31 20 h), srcdev := BitVec.ofNat 5 (nbits 8 4 h) }

/-! ### Check bits (R69 to R72) -/

/-- The r-bit vectors of weight w, rising. -/
def weightVecs (r w : Nat) : List Nat := (List.range (2 ^ r)).filter fun v => popCount r v = w

/-- The columns of covered bits 0, 1, … of a code with r check bits (R69). -/
def eccColumns (r : Nat) : List Nat := weightVecs r 3 ++ weightVecs r 5 ++ weightVecs r 7 ++ weightVecs r 9

/-- One protected unit of a flit: covered bits [lo, lo+k), check bits [chk, chk+r). -/
structure EccUnit where
  lo : Nat
  k : Nat
  chk : Nat
  r : Nat
deriving DecidableEq, Repr

/-- The units of a network's flit (R69); for DAT the header, then data words 0 to 7. -/
def eccUnits (net : Net) : List EccUnit :=
  match net with
  | .req => [⟨0, 183, 183, 9⟩]
  | .rsp => [⟨0, 88, 88, 8⟩]
  | .snp => [⟨0, 120, 120, 8⟩]
  | .dat => ⟨576, 56, 632, 8⟩ :: (List.range 8).map fun w => ⟨64 * w, 64, 512 + 8 * w, 8⟩

/-- The check bits of a unit of covered bits v (R69). -/
def eccCheck (r v : Nat) : Nat :=
  ((eccColumns r).zipIdx).foldl (fun a c => if v.testBit c.2 then a ^^^ c.1 else a) 0

/-- The column of bit b of the flit in unit u, 0 where it is not of that unit. -/
def eccColumn (u : EccUnit) (b : Nat) : Nat :=
  if u.lo ≤ b ∧ b < u.lo + u.k then ((eccColumns u.r)[b - u.lo]?).getD 0
  else if u.chk ≤ b ∧ b < u.chk + u.r then 2 ^ (b - u.chk) else 0

/-- Toggle membership of x. -/
def toggleMem (l : List Nat) (x : Nat) : List Nat := if x ∈ l then l.filter (· ≠ x) else x :: l

/-- What a check finds in one unit: bits left wrong, a corrected error, an uncorrectable one. -/
structure EccFound where
  left : List Nat
  cor  : Bool
  unc  : Bool
deriving DecidableEq, Repr

/-- Check one unit whose flipped bits are fl (R70): the syndrome is the XOR of their columns. -/
def eccUnitCheck (u : EccUnit) (fl : List Nat) : EccFound :=
  let mine := fl.filter fun b => eccColumn u b ≠ 0
  let syn := mine.foldl (fun a b => a ^^^ eccColumn u b) 0
  if syn = 0 then ⟨mine, false, false⟩
  else
    match ((List.range u.k).map (· + u.lo) ++ (List.range u.r).map (· + u.chk)).find? fun b => eccColumn u b = syn with
    | some b => ⟨toggleMem mine b, true, false⟩
    | none => ⟨mine, false, true⟩

/-- The flipped bits as a set. -/
def flipSet (fl : List Nat) : List Nat := fl.foldl toggleMem []

/-- Position of a flit's covered bit in packFlit: DAT's header stands above its data there. -/
def packPos (net : Net) (b : Nat) : Option Nat :=
  match net with
  | .req => if b < 183 then some b else none
  | .rsp => if b < 88 then some b else none
  | .snp => if b < 120 then some b else none
  | .dat => if b < 512 then some b else if 576 ≤ b ∧ b < 632 then some (b - 64) else none

/-- A flit with covered bits flipped. -/
def flipBits (f : Flit) (l : List Nat) : Flit :=
  let ps := l.filterMap (packPos f.net)
  if ps.isEmpty then f else unpackFlit f.net (ps.foldl (fun a b => a ^^^ 2 ^ b) (packFlit f))

/-- The check of a flit at one place (R71, R72): the flit that goes on, or none where it is discarded; a corrected and an
uncorrected event. -/
def eccArrive (f : Flit) (flips : List Nat) : Option Flit × Bool × Bool :=
  let fl := flipSet flips
  if fl.isEmpty then (some f, false, false)
  else
    let found := (eccUnits f.net).map fun u => eccUnitCheck u fl
    let cor := found.any (·.cor)
    match found with
    | [] => (some f, false, false)
    | h :: words =>
      if h.unc then (none, cor, true)
      else
        let dataUnc := words.any (·.unc)
        let g := flipBits f (found.flatMap (·.left))
        (some (if dataUnc then { g with dpsn := true } else g), cor, dataUnc && !f.dpsn)

/-! ### Opcodes (R78) -/

def opRD : Nat := 0x01
def opRDSHR : Nat := 0x02
def opRDOWN : Nat := 0x03
def opWRFULL : Nat := 0x08
def opWRPART : Nat := 0x09
def opWRINV : Nat := 0x0A
def opWBD : Nat := 0x0B
def opLKOPEN : Nat := 0x10
def opLKSTAGE : Nat := 0x11
def opLKCOMMIT : Nat := 0x12
def opLKABORT : Nat := 0x13
def opBABANDON : Nat := 0x18
def opFENCE : Nat := 0x19
def opCFGRD : Nat := 0x20
def opCFGWR : Nat := 0x21
def opPING : Nat := 0x22
def rspCMP : Nat := 0x01
def rspCMPDATA : Nat := 0x02
def rspRETRY : Nat := 0x03
def rspERR : Nat := 0x04
def rspLKVOTE : Nat := 0x08
def rspLKDONE : Nat := 0x09
def rspSNPRSP : Nat := 0x10
def snpAGENTLOST : Nat := 0x08
/-- ERR subcodes (R81). -/
def errFENCED : Nat := 0x0
def errNOROUTE : Nat := 0x1
def errPOISON : Nat := 0x2
def errTIMEOUT : Nat := 0x3
def errLOCKET : Nat := 0x4
def errMALFORMED : Nat := 0x5

def isRead (o : Nat) : Bool := decide (1 ≤ o ∧ o ≤ 3)
def isWrite (o : Nat) : Bool := decide (8 ≤ o ∧ o ≤ 0xB)
/-- Memory opcodes (R91), and those that carry a memory address (R88). -/
def isMem (o : Nat) : Bool := isRead o || isWrite o
def memAddressed (o : Nat) : Bool := isMem o || decide (o = opLKSTAGE)
/-- Opcodes whose REQ has LINE companions. -/
def hasLines (o : Nat) : Bool := isWrite o || decide (o = opLKSTAGE)

def opcKnown (net : Net) (o : Nat) : Bool :=
  match net with
  | .req => decide (o ∈ [0x01, 0x02, 0x03, 0x08, 0x09, 0x0A, 0x0B, 0x10, 0x11, 0x12, 0x13, 0x18, 0x19, 0x20, 0x21, 0x22])
  | .rsp => decide (o ∈ [0x01, 0x02, 0x03, 0x04, 0x08, 0x09, 0x10])
  | .snp => decide (o ∈ [0x01, 0x02, 0x03, 0x04, 0x08])
  | .dat => decide (o = 0x01)

/-- A class is legal for an opcode (R78). RSP and DAT take the class of what caused them (R79). -/
def clsLegal (net : Net) (o : Nat) (c : Cls) : Bool :=
  match net with
  | .req =>
    if o = opBABANDON ∨ o = opCFGRD ∨ o = opCFGWR ∨ o = opPING then decide (c = .mg)
    else if o = opLKABORT then true else decide (c ≠ .mg)
  | .snp => if o = snpAGENTLOST then decide (c = .mg) else decide (c = .ll ∨ c = .be)
  | _ => true

/-- The kinds of unit that may offer an opcode on the FAI (R78); a HOME's REQs carry FWD but FENCE (R87, R94, R484). -/
def mayOffer (u : Unit') (net : Net) (o : Nat) (fwd : Bool) : Bool :=
  let hap := match u with | .hap _ => true | _ => false
  let cag := match u with | .cag _ => true | _ => false
  let home := match u with | .home _ => true | _ => false
  let eng := decide (u = .cpe ∨ u = .tre)
  let mgt := decide (u = .mgt)
  let sec := decide (u = .sec)
  match net with
  | .req =>
    if o = opRD then hap || cag || eng || mgt || (home && fwd)
    else if o = opRDSHR ∨ o = opRDOWN ∨ o = opWBD then hap || cag
    else if o = opWRFULL then hap || cag || (home && fwd)
    else if o = opWRPART then hap || cag || eng || mgt || (home && fwd)
    else if o = opWRINV then eng || mgt
    else if o = opLKOPEN ∨ o = opLKSTAGE ∨ o = opLKCOMMIT ∨ o = opLKABORT then hap || cag || mgt
    else if o = opFENCE then hap || cag || eng || mgt || sec || home
    else if o = opCFGRD ∨ o = opCFGWR then mgt || sec
    else if o = opBABANDON then home && fwd
    else false
  | .snp => home && decide (o ≠ snpAGENTLOST)
  | .rsp | .dat => true

/-- The index of the lowest set bit of a 4-bit mask. -/
def lowestBit (m : Nat) : Nat := if m.testBit 0 then 0 else if m.testBit 1 then 1 else if m.testBit 2 then 2 else 3

/-- LMASK and ADDR of a REQ are as R91 and R21 ask at port p, and a WRPART names one line, as R93 has it cover. DEDUCED (log entry 21). -/
def lmaskOk (p : Nat) (f : Flit) : Bool :=
  let o := f.opc.toNat
  let m := f.lmask.toNat
  let a := f.addr.toNat
  if memAddressed o then
    let hapOk := match unitOf p with
      | .hap _ => if p % 2 = 0 then decide (m &&& 0b1010 = 0) else decide (m &&& 0b0101 = 0)
      | _ => true
    decide (m ≠ 0) && decide (a % 64 = 0) && decide (nbits 7 6 a = lowestBit m) && hapOk &&
      (decide (o ≠ opWRPART) || decide (popCount 4 m = 1))
  else if o = opCFGRD then decide (m = 1) else decide (m = 0)

/-- DST and DSTDEV as R78 and R84 allow for a REQ that gives its own, on device own; above 95 R23 decides. DEDUCED (log entry 21). -/
def dstAllowed (own : BitVec 5) (p : Nat) (f : Flit) : Bool :=
  let o := f.opc.toNat
  let d := f.dst.toNat
  if 95 < d then true
  else if o = opLKOPEN ∨ o = opLKCOMMIT ∨ o = opLKABORT then decide (d = p ∧ f.dstdev = own)
  else if o = opFENCE then isHome d || isMap d
  else true

/-- ATTR with the bits that are not legal on this opcode at this port cleared (R96, R97). -/
def legalAttr (p : Nat) (f : Flit) : BitVec 8 :=
  let o := f.opc.toNat
  let keep := b2n (hasLines o) + at' (b2n (o = opRD)) 1 + at' (b2n (o = opRD ∨ o = opWRINV)) 2 +
    at' (b2n (o = opRD ∨ o = opWRFULL ∨ o = opWRPART ∨ o = opWRINV)) 3 + at' (b2n (isHome p)) 4
  f.attr &&& BitVec.ofNat 8 keep

/-- ATTR.FWD. -/
def isFwd (f : Flit) : Bool := decide (f.net = .req) && f.attr.getLsbD 4

/-- R84: the packet is malformed as the unit of port p of device own offers it. DEDUCED (log entry 21). -/
def malformed (own : BitVec 5) (p : Nat) (f : Flit) : Bool :=
  let o := f.opc.toNat
  !opcKnown f.net o || !clsLegal f.net o f.cls || !mayOffer (unitOf p) f.net o (isFwd f) ||
    (decide (f.net = .req) && (!lmaskOk p f || !dstAllowed own p f))

/-! ### Companions (R89 to R93) -/

/-- The LMASK of the LINE companions of a REQ or RSP. -/
def compMask (f : Flit) : Nat :=
  let o := f.opc.toNat
  match f.net with
  | .req => if hasLines o then f.lmask.toNat else 0
  | .rsp =>
    if o = rspCMPDATA then f.arg.toNat % 16
    else if o = rspERR ∧ f.sub.toNat = errPOISON then f.arg.toNat / 16 % 16
    else 0
  | _ => 0

/-- A single LINE whose LIDX the packet does not name (SNPRSP DIRTY_FWD). -/
def dirtyFwd (f : Flit) : Bool := decide (f.net = .rsp ∧ f.opc.toNat = rspSNPRSP ∧ f.sub.toNat = 2)

/-- It has a mask flit (R93). -/
def hasMask (f : Flit) : Bool := decide (f.net = .req ∧ f.opc.toNat = opWRPART)

/-- The number of DAT companions. -/
def compCount (f : Flit) : Nat := popCount 4 (compMask f) + b2n (hasMask f) + b2n (dirtyFwd f)

/-- The rank of a companion (R90). -/
def compRank (c d : Flit) : Nat :=
  if dirtyFwd c then 0
  else if d.msk then popCount 4 (compMask c) else popCount d.lidx.toNat (compMask c)

/-- d, in transit form, is a companion of c (R90). -/
def pairs (c d : Flit) : Bool :=
  decide (c.srcdev = d.srcdev) && (d.cnet == decide (c.net = .rsp)) &&
    decide (d.e2seq.toNat = (c.e2seq.toNat + 1 + compRank c d) % 2 ^ 16) &&
    (if dirtyFwd c then !d.msk else if d.msk then hasMask c else (compMask c).testBit d.lidx.toNat)

/-- The final RSP of a transaction (R85). -/
def isFinalRsp (f : Flit) : Bool :=
  decide (f.net = .rsp) && decide (f.opc.toNat ∈ [rspCMP, rspCMPDATA, rspRETRY, rspERR, rspLKDONE])

/-! ### VCs (R67) -/

/-- VC of a class (R65). DEDUCED (log entry 22). -/
def clsVc (c : Cls) : BitVec 3 := BitVec.ofNat 3 (clsNum c)
def vcGT : BitVec 3 := 0
def vcTR : BitVec 3 := 4
def vcTE : BitVec 3 := 5
def vcD1 : BitVec 3 := 6
def vcD2 : BitVec 3 := 7

/-- VC at injection (R67). -/
def injectVc (p : Nat) (f : Flit) : BitVec 3 :=
  if f.cls = .gt then vcGT else if f.xf || isStrandPort p then vcTR else clsVc f.cls

/-! ### Answers the fabric makes -/

/-- The RSP that answers a REQ from port `src` of device `dev` (R79, R81). DEDUCED (log entry 22). -/
def answerTo (req : Flit) (src : Nat) (dev : BitVec 5) (opc sub arg : Nat) : Flit :=
  { net := .rsp, dst := req.src, src := BitVec.ofNat 7 src, cls := req.cls, qos := req.qos, tag := req.tag
    opc := BitVec.ofNat 6 opc, sub := BitVec.ofNat 4 sub, arg := BitVec.ofNat 15 arg, dstdev := req.srcdev, srcdev := dev
    xf := req.srcdev ≠ dev }

/-- An ERR delivered by a port's own fabric half to its unit (R190, R197): DST and SRC are the port. DEDUCED (log entry 22). -/
def localErr (req : Flit) (p : Nat) (dev : BitVec 5) (sub arg : Nat) : Flit :=
  { answerTo req p dev rspERR sub arg with dst := BitVec.ofNat 7 p, dstdev := dev, xf := false }

/-- AGENTLOST to HOME x (R80); LADDR is bits [50:5] of the flit. -/
def agentLostFlit (src : Nat) (dev : BitVec 5) (lostPort lostDev reason x : Nat) : Flit :=
  { net := .snp, dst := BitVec.ofNat 7 (homePort x), src := BitVec.ofNat 7 src, cls := .mg, opc := BitVec.ofNat 6 snpAGENTLOST
    dstdev := dev, srcdev := dev, laddr := BitVec.ofNat 46 (at' lostPort 39 + at' lostDev 34 + at' reason 32) }

end Sys2Proof.Machine
end

