-- ==== Sys2Proof/Machine/Profiles.lean ====
section
/-! DEFINITION. Basic profiles and expert fields (R56 to R59): the value each selector implies and the value in effect. -/

namespace Sys2Proof.Machine

/-- PG_CTRL.EXPERT_EN of a page (R46). -/
def expertEn (s : State) (base : Nat) : Bool := regFld s (base + 0x10) 0 0 = 1

/-- The word of the profile selectors at offset o of a page without expert fields, as they take effect: what it was when EXPERT_EN
rose, while EXPERT_EN = 1 (R57, R58). -/
def selWord (s : State) (base o : Nat) : Word :=
  let held := spGet 0 s.selHeld base
  if expertEn s base && decide (held ≠ 0) then BitVec.ofNat 64 (held - 1) else regGet s (base + o)

/-- Pick by a selector value; values beyond the list act as 0 (they cannot be stored, R7). -/
def pick3 (v a b c : Nat) : Nat := if v = 1 then b else if v = 2 then c else a

/-- N of a fault source under FLT_PROFILE.NW (R437). -/
def profileN (v n : Nat) : Nat := if v = 1 then (n + 1) / 2 else if v = 2 then min 255 (2 * n) else n

/-- The word a page's profile selectors imply for its expert register at offset o. -/
def impliedWord (s : State) (pg : Page) (o : Nat) : Nat :=
  let b := pg.base
  match pg.kind with
  | .time =>
    if o = 0x400 then
      let v := regFld s (b + 0x40) 3 0
      at' 4 28 + at' (pick3 v 10000 10000 50000) 8 + at' (pick3 v 6 4 8) 4 + pick3 v 2 1 3
    else 0
  | .fault =>
    if 0x400 ≤ o ∧ o < 0x478 ∧ o % 8 = 0 then
      let (n, w, sv) := faultNW ((o - 0x400) / 8)
      at' sv 16 + at' (profileN (regFld s (b + 0x40) 3 0) n) 8 + w
    else if o = 0x478 then pick3 (regFld s (b + 0x40) 7 4) 1000 10000 100
    else if o = 0x480 then pick3 (regFld s (b + 0x40) 11 8) 4 1 16
    else 0
  | .locket =>
    if o = 0x400 then pick3 (regFld s (b + 0x40) 3 0) 10000 1000 100000
    else if o = 0x408 then pick3 (regFld s (b + 0x40) 7 4) 5000 2000 8000
    else 0
  | .rtr _ =>
    let v := regFld s (b + 0x40) 3 0
    if o = 0x400 then (if v = 1 then 32 else if v = 4 then 128 else 64)
    else if o = 0x404 then at' (if v = 4 then 2 else 4) 8 + (if v = 2 then 16 else if v = 3 then 4 else 8)
    else 0
  | .port =>
    if !pingCapable pg.inst then 0
    else if o = 0x400 then (let v := regFld s (b + 0x48) 3 0; if v = 3 then 1000 else pick3 v 50 20 200)
    else if o = 0x404 then pick3 (regFld s (b + 0x48) 7 4) 16 8 64
    else 0
  | .slPhy =>
    if o = 0x400 then
      let v := regFld s (b + 0x40) 11 8
      at' (pick3 v 160 200 120) 20 + at' (pick3 v 320 400 240) 10 + pick3 v 400 480 320
    else 0
  -- no selector stands beside SL_DOWNCRIT and SL_ACKINT: their reset values are the default (R350)
  | .slLink => resetOf (regFields .slLink pg.inst o)
  | _ => 0

/-- The word of an expert register in effect: the raw value in expert mode, the implied one otherwise (R57, R58). -/
def expertWord (s : State) (pg : Page) (o : Nat) : Nat :=
  if expertEn s pg.base then (regGet s (pg.base + o)).toNat else impliedWord s pg o

/-- A field of the expert register at a window offset. -/
def expertFld (s : State) (off hi lo : Nat) : Nat :=
  match pageOf off with
  | some pg => nbits hi lo (expertWord s pg (inPage pg off))
  | none => 0

/-! ### Settings in effect -/

def servoLossThr (s : State) : Nat := expertFld s 0x1400 31 28
def servoHoldoverUs (s : State) : Nat := expertFld s 0x1400 27 8
def servoKi (s : State) : Nat := expertFld s 0x1400 7 4
def servoKp (s : State) : Nat := expertFld s 0x1400 3 0
def fltN (s : State) (src : Nat) : Nat := expertFld s (0x3400 + 8 * src) 15 8
def fltW (s : State) (src : Nat) : Nat := 2 ^ expertFld s (0x3400 + 8 * src) 4 0
def fltSev (s : State) (src : Nat) : Bool := expertFld s (0x3400 + 8 * src) 16 16 = 1
def fltQuietUs (s : State) : Nat := expertFld s 0x3478 19 0
def fltRcMax (s : State) : Nat := expertFld s 0x3480 7 0
def lkTimeoutUs (s : State) : Nat := expertFld s 0x4400 19 0
def lkGuardNs (s : State) : Nat := expertFld s 0x4408 12 0
def rtrAge (s : State) (t : Nat) (n : Net) : Nat := expertFld s (rtrPage t n + 0x400) 10 0
def rtrLlN (s : State) (t : Nat) (n : Net) : Nat := expertFld s (rtrPage t n + 0x404) 12 8
def rtrBeN (s : State) (t : Nat) (n : Net) : Nat := expertFld s (rtrPage t n + 0x404) 4 0
def portRetryUs (s : State) (p : Nat) : Nat := expertFld s (portPage p + 0x400) 13 0
def portPingUs (s : State) (p : Nat) : Nat := expertFld s (portPage p + 0x404) 9 0
def phyAccept (s : State) (n : Nat) : Nat := expertFld s (slPage n 1 + 0x400) 9 0
def phyRecentre (s : State) (n : Nat) : Nat := expertFld s (slPage n 1 + 0x400) 19 10
def phyFloor (s : State) (n : Nat) : Nat := expertFld s (slPage n 1 + 0x400) 29 20
def slWinUs (s : State) (n : Nat) : Nat := expertFld s (slPage n 0 + 0x400) 29 20
def slFirstThr (s : State) (n : Nat) : Nat := expertFld s (slPage n 0 + 0x400) 19 16
def slWinExp (s : State) (n : Nat) : Nat := expertFld s (slPage n 0 + 0x400) 12 8
def slCrcThr (s : State) (n : Nat) : Nat := expertFld s (slPage n 0 + 0x400) 7 0
def slReplayTo (s : State) (n : Nat) : Nat := expertFld s (slPage n 0 + 0x404) 19 16
def slAckInt (s : State) (n : Nat) : Nat := expertFld s (slPage n 0 + 0x404) 9 0

end Sys2Proof.Machine
end

