-- ==== Sys2Proof/Machine/Routes.lean ====
section
/-! DEFINITION. Which output a flit takes (R110 to R113), the exits of a device (R343), the address map (R349) and the bead tables
in force (R161 to R167, R184). -/

namespace Sys2Proof.Machine

/-- The device's own ID (R352). -/
def ownDev (s : State) : BitVec 5 := s.pool.devId

/-! ### Tables -/

/-- RTR_OVR entry of router (t, n) for target tile `to` in a bank (R113). -/
def ovrKey (t : Nat) (n : Net) (bank : Bool) (dest : Nat) : Nat := tblKey (rtrPage t n) (0xC40 + 4 * dest) (b2n bank) 0
def ovrGet (s : State) (t : Nat) (n : Net) (bank : Bool) (dest : Nat) : Nat := (tblGet s (ovrKey t n bank dest)).toNat
def ovrValid (e : Nat) : Bool := e.testBit 0
def ovrOut (e : Nat) : Nat := nbits 3 1 e
def ovrBump (e : Nat) : Bool := e.testBit 4
/-- The entry applies on leg l: 0 base, 1 D1, 2 D2 (R112). -/
def ovrLeg (e l : Nat) : Bool := e.testBit (5 + l)

/-- DR_ROUTE entry of device d (R352). -/
def drKey (bank : Bool) (d : Nat) : Nat := tblKey 0x6000 (0xC40 + 8 * d) (b2n bank) 0
def drGet (s : State) (bank : Bool) (d : Nat) : Nat := (tblGet s (drKey bank d)).toNat
def drValid (e : Nat) : Bool := e.testBit 24
def drPri (e : Nat) : Nat := nbits 3 0 e
def drAlt (e : Nat) : Nat := nbits 7 4 e
def drEsc (e : Nat) : Nat := nbits 11 8 e

/-- AM_RANGE entry r (R351). -/
def amGet (s : State) (r : Nat) : Nat := (tblGet s (tblKey 0x5000 (0xC40 + 8 * r) 0 0)).toNat

/-- Bead tables (R166): output table of port p, injection table of an attach slot. -/
def beadOutKey (t : Nat) (n : Net) (p : Nat) (bank : Bool) (k : Nat) : Nat :=
  tblKey (beadPage t) (0xC40 + 4 * k) (b2n bank) (8 * netNum n + p)
def beadInjKey (port : Nat) (n : Net) (bank : Bool) (k : Nat) : Nat :=
  tblKey (beadPage (portTile port)) (0xC40 + 4 * k) (b2n bank) (0x20 + 8 * (port % 2) + netNum n)
def beadOut (s : State) (t : Nat) (n : Net) (p : Nat) (bank : Bool) (k : Nat) : Nat :=
  (tblGet s (beadOutKey t n p bank k)).toNat
def beadInj (s : State) (port : Nat) (n : Net) (bank : Bool) (k : Nat) : Nat := (tblGet s (beadInjKey port n bank k)).toNat
def beadValid (e : Nat) : Bool := e.testBit 8
def beadFlow (e : Nat) : Nat := nbits 7 0 e
def beadIn (e : Nat) : Nat := nbits 11 9 e
def beadDst (e : Nat) : Nat := nbits 26 20 e
def beadDev (e : Nat) : Nat := nbits 31 27 e

/-- A stored table key lies on a BEAD page, in this bank. -/
def isBeadKey (key : Nat) (bank : Bool) : Bool :=
  decide (nbits 24 24 key = b2n bank) &&
    (match pageOf (key % 2 ^ 24) with | some pg => decide (pg.kind = .bead) | none => false)

/-- Valid entries of a bead bank: key and entry. -/
def beadEntries (s : State) (bank : Bool) : List (Nat × Nat) :=
  (s.tbls.map fun e => (e.1, e.2.toNat)).filter fun e => isBeadKey e.1 bank && beadValid e.2

/-! ### Exits (R343) -/

/-- Bit n of the UP mask. -/
def strandUp (s : State) (n : Nat) : Bool :=
  if h : n < 10 then decide (s.strands[n].lnk.link = .up) else false

/-- TR and TE exits of device d in a bank: none while no strand of its entry is UP. -/
def trExit (s : State) (bank : Bool) (d : Nat) : Option Nat :=
  let e := drGet s bank d
  if !drValid e then none
  else [drPri e, drAlt e, drEsc e].find? (strandUp s)
def teExit (s : State) (bank : Bool) (d : Nat) : Option Nat :=
  let e := drGet s bank d
  if drValid e && strandUp s (drEsc e) then some (drEsc e) else trExit s bank d

/-- Device d is reachable by the active bank (R343). -/
def reachable (s : State) (d : Nat) : Bool := (trExit s s.epoch.active d).isSome

/-! ### Routing (R110 to R113) -/

/-- XY routing from tile t toward tile `to` (R111); none at the target. -/
def xyOut (t dest : Nat) : Option RPort :=
  if tileX dest > tileX t then some .e
  else if tileX dest < tileX t then some .w
  else if tileY dest > tileY t then some .n
  else if tileY dest < tileY t then some .s
  else none

/-- The leg of a flit (R112). -/
def legOf (vc : BitVec 3) (legs : Nat) : Nat := if vc = 0 then legs else if vc = 6 then 1 else if vc = 7 then 2 else 0

/-- From tile t toward an attach port (R110, R111, R112). -/
def routeToPort (s : State) (t : Nat) (n : Net) (bank : Bool) (leg port : Nat) : RouteTo :=
  if 96 ≤ port then .miss
  else
    let dest := portTile port
    let e := ovrGet s t n bank dest
    if ovrValid e && ovrLeg e leg && decide (dest ≠ t) then
      match rpOf (ovrOut e) with
      | .l0 | .l1 => .miss
      | r => if (neighbour t r).isSome then .out r (ovrBump e) else .miss
    else
      match xyOut t dest with
      | some r => .out r false
      | none => if usedPort port then .out (if port % 2 = 0 then .l0 else .l1) false else .miss

/-- The route of a flit at tile t with a leg count (R110). -/
def routeFlit (s : State) (t : Nat) (f : Flit) (legs : Nat) : RouteTo :=
  let leg := legOf f.vc legs
  if f.dstdev = ownDev s || (f.net = .dat && !f.xf) then routeToPort s t f.net f.epoch leg f.dst.toNat
  else
    let ex := if f.vc.toNat ≤ 4 then trExit s f.epoch f.dstdev.toNat else teExit s f.epoch f.dstdev.toNat
    match ex with
    | some n => routeToPort s t f.net f.epoch leg (strandPort n)
    | none => .noExit

/-- The VC a flit takes at the next router (R112). -/
def nextVc (vc : BitVec 3) (bump : Bool) : BitVec 3 :=
  if bump then (if vc = 0 then 0 else if vc = 6 then 7 else 6) else vc

/-- Key of a buffer or a credit counter: tile, network, port (6 is the answer queue's of R481) and VC. -/
def rKey (t : Nat) (n : Net) (port vc : Nat) : Nat := ((4 * t + netNum n) * 7 + port) * 8 + vc

/-! ### Links (R128, R425) -/

/-- The number of the mesh link a router port lies on (R128). -/
def linkNum (t : Nat) (r : RPort) : Option Nat :=
  match r, neighbour t r with
  | .e, some _ => some (7 * tileY t + tileX t)
  | .w, some u => some (7 * tileY u + tileX u)
  | .n, some _ => some (42 + 8 * tileY t + tileX t)
  | .s, some u => some (42 + 8 * tileY u + tileX u)
  | _, _ => none

/-- The near (west or south) end of a link and the port it leaves by. -/
def linkEnd (l : Nat) : Nat × RPort :=
  if l < 42 then (8 * (l / 7) + l % 7, .e) else (l - 42, .n)

/-- A removed link: some tile's domain holds it out (R425). -/
def linkRemoved (s : State) (l : Nat) (n : Net) : Bool :=
  (List.finRange 48).any fun t => decide (s.tiles[t].linkOut = some (l, n))

/-- The output faces an isolated tile or a removed link (R114). -/
def facesLost (s : State) (t : Nat) (n : Net) (r : RPort) : Bool :=
  match neighbour t r with
  | none => false
  | some u => s.tiles[tileF u].isolated || (match linkNum t r with | some l => linkRemoved s l n | none => false)

/-! ### Address map (R349) -/

def amValid (e : Nat) : Bool := e.testBit 63
def amRemote (e : Nat) : Bool := e.testBit 62
def amDev (e : Nat) : Nat := nbits 61 57 e
def amChBase (e : Nat) : Nat := nbits 56 53 e
def amWays (e : Nat) : Nat := 2 ^ (nbits 52 51 e + 1)
def amLimit (e : Nat) : Nat := nbits 43 22 e
def amBase (e : Nat) : Nat := nbits 21 0 e

/-- The channel index i of R349 under AM_PROFILE.HASH. -/
def amIndex (s : State) (a : Nat) : Nat :=
  if fld 3 0 (selWord s 0x5000 0x40) = 1 then nbits 15 12 a ^^^ nbits 19 16 a ^^^ nbits 23 20 a else nbits 51 12 a

/-- DST and DSTDEV of an address; none where no range matches. -/
def amLookup (s : State) (a : Nat) : Option (Nat × Nat) :=
  ((List.range 64).find? fun r =>
      let e := amGet s r
      amValid e && decide (amBase e ≤ nbits 51 30 a ∧ nbits 51 30 a ≤ amLimit e)).map fun r =>
    let e := amGet s r
    let c := (amChBase e + amIndex s a % amWays e) % 16
    (homePort c, if amRemote e then amDev e else (ownDev s).toNat)

/-! ### Beads in force (R163, R184) -/

/-- The complex of a strand runs in CR clocking, as its own end agreed at CONFIG (R285, R299). -/
def strandCr (s : State) (n : Nat) : Bool := if h : n < 10 then s.strands[n].phy.crAgreed else false

/-- An injection entry of a port is in force (R184), GT_HOLD apart (R396). -/
def injInForce (s : State) (port e : Nat) : Bool :=
  beadValid e && !s.ms.gtHold &&
    (match strandOf port with
     | some n => decide (s.time.state = .synced) && strandCr s n.val
     | none => true) &&
    (decide (beadDev e = (ownDev s).toNat) ||
      (decide (s.time.state = .synced) &&
        (let d := drGet s s.epoch.active (beadDev e)
         let n := drPri d
         decide (trExit s s.epoch.active (beadDev e) = some n) && strandCr s n &&
           (if h : n < 10 then decide (s.strands[n].phy.pwr = .active) else false))))

/-- The flow of a source port toward (DST, DSTDEV) on a network, in the active injection table and in force (R161, R67). DEDUCED (log entry 80). -/
def flowOf (s : State) (port : Nat) (n : Net) (dst dev : Nat) : Option Nat :=
  if n = .snp || s.tbls.isEmpty then none
  else
    ((List.range 128).find? fun k =>
        let e := beadInj s port n s.epoch.beadActive k
        injInForce s port e && decide (beadDst e = dst ∧ beadDev e = dev)).map fun k =>
      beadFlow (beadInj s port n s.epoch.beadActive k)

/-- The flow injected at a port in a slot, where its entry is in force (R163). -/
def slotFlow (s : State) (port : Nat) (n : Net) (k : Nat) : Option Nat :=
  let e := beadInj s port n s.epoch.beadActive k
  if injInForce s port e then some (beadFlow e) else none

end Sys2Proof.Machine
end

