-- ==== Sys2Proof/Machine/Plans.lean ====
section
/-! DEFINITION. The generator's detour plans (R128), the routes of GT flows (R164) and bead plans as lists of flows (R161, R181). -/

namespace Sys2Proof.Machine

/-! ### Detour plans (R128) -/

/-- An override word (R113). -/
def ovrWord (out : RPort) (bump : Bool) (legs : Nat) : Nat := 1 + at' (rpNum out) 1 + at' (b2n bump) 4 + at' legs 5

/-- The row y' of R128. -/
def detourRow (yi yt : Nat) : Nat :=
  if yi < yt then yi + 1 else if yt < yi then yi - 1 else if yi = 5 then 4 else yi + 1

/-- The plan entry of router t for target tile `to`, where tile i is lost. -/
def planTile (i t dest : Nat) : Nat :=
  let xi := tileX i
  let yi := tileY i
  let x := tileX t
  let y := tileY t
  let xt := tileX dest
  let yt := tileY dest
  let yp := detourRow yi yt
  let ydir : RPort := if yi < yp then .n else .s
  if dest = i then 0
  else if xt = xi then
    let xp := if xi = 7 then 6 else xi + 1
    let up := decide (yi < yt)
    -- a tile before I in the column exists
    let before := if up then decide (0 < yi) else decide (yi < 5)
    let yb := if up then yi - 1 else yi + 1
    let d1 := if before then 2 else 0
    if before && decide (x = xi ∧ y = yb) then ovrWord (if xi < xp then .e else .w) true 1
    else if before && decide (x = xp ∧ y = yb) then ovrWord ydir false 2
    else if x = xp ∧ y = yi then ovrWord ydir false (1 + d1)
    else if x = xp ∧ y = yp then ovrWord (if xi < xp then .w else .e) true (1 + d1)
    else if x + 1 = xi ∧ xp ≠ x ∧ y = yi then ovrWord ydir false 1
    else if x + 1 = xi ∧ xp ≠ x ∧ y = yp then ovrWord .e true 1
    else 0
  else if xi < xt then
    if x + 1 = xi ∧ y = yi then ovrWord ydir false 1
    else if x + 1 = xi ∧ y = yp then ovrWord .e true 1
    else 0
  else
    if x = xi + 1 ∧ y = yi then ovrWord ydir false 1
    else if x = xi + 1 ∧ y = yp then ovrWord .w true 1
    else 0

/-- The plan entry of router t for target tile `to`, where mesh link l is lost. -/
def planLink (l t dest : Nat) : Nat :=
  let (a, r) := linkEnd l
  let xa := tileX a
  let ya := tileY a
  let x := tileX t
  let y := tileY t
  let xt := tileX dest
  let yt := tileY dest
  match r with
  | .e =>
    let yp := detourRow ya yt
    let ydir : RPort := if ya < yp then .n else .s
    let east := decide (xa < xt)
    if x = (if east then xa else xa + 1) then
      (if y = ya then ovrWord ydir false 1 else if y = yp then ovrWord (if east then .e else .w) true 1 else 0)
    else 0
  | _ =>
    let up := decide (ya < yt)
    let yb := if up then ya else ya + 1
    let xp := if xa = 7 then 6 else xa + 1
    if xt ≠ xa then 0
    else if x = xa ∧ y = yb then ovrWord (if xa < xp then .e else .w) true 1
    else if x = xp then
      (if y = yt then ovrWord (if xa < xp then .w else .e) true 2
       else if (up && decide (yb ≤ y ∧ y < yt)) || (!up && decide (yt < y ∧ y ≤ yb)) then ovrWord (if up then .n else .s) false 2
       else 0)
    else 0

/-- The plan's entry for a lost element; none where the element's plan leaves the network as it is. -/
def planEntry (l : Lost) (n : Net) (t dest : Nat) : Option Nat :=
  match l with
  | .tile i => some (planTile i t dest)
  | .link k m => if m = n then some (planLink k t dest) else none

/-! ### GT routes (R164) -/

/-- One output a route crosses: its tile, the output and the input it comes by. -/
structure GtHop where
  tile : Nat
  out  : RPort
  inp  : RPort
deriving DecidableEq, Repr

/-- The hops of a route from tile t toward a port, under overrides `ov tile target` (R111, R112). -/
def gtHops (ov : Nat → Nat → Nat) (port fuel t leg : Nat) (inp : RPort) : Option (List GtHop) :=
  match fuel with
  | 0 => none
  | k + 1 =>
    let dest := portTile port
    if t = dest then some [⟨t, if port % 2 = 0 then .l0 else .l1, inp⟩]
    else
      let e := ov t dest
      let hit := ovrValid e && ovrLeg e leg
      let out := if hit then rpOf (ovrOut e) else (xyOut t dest).getD .n
      match neighbour t out with
      | none => none
      | some u => (gtHops ov port k u (if hit && ovrBump e then leg + 1 else leg) (opposite out)).map (⟨t, out, inp⟩ :: ·)

/-- The route from a source port to a target port. -/
def gtRoute (ov : Nat → Nat → Nat) (src target : Nat) : Option (List GtHop) :=
  gtHops ov target 150 (portTile src) 0 (if src % 2 = 0 then .l0 else .l1)

/-- One injection entry of a bead bank. -/
structure GtInj where
  key  : Nat
  port : Nat
  net  : Net
  slot : Nat
  flow : Nat
  dst  : Nat
  dev  : Nat
deriving DecidableEq, Repr

/-- The valid injection entries of a bank. -/
def gtInjs (s : State) (bank : Bool) : List GtInj :=
  (beadEntries s bank).filterMap fun (key, e) =>
    let off := key % 2 ^ 24
    let sel := key / 2 ^ 25
    if sel < 0x20 then none
    else
      match pageOf off with
      | some pg => some ⟨key, 2 * pg.inst + (sel - 0x20) / 8, netOf (sel % 8), (off - pg.base - 0xC40) / 4, beadFlow e, beadDst e, beadDev e⟩
      | none => none

/-- The port of this device a flow leaves by: its DST, or the PRI strand's port (R164). -/
def gtTarget (s : State) (bank : Bool) (g : GtInj) : Option Nat :=
  if g.dev = (ownDev s).toNat then (if usedPort g.dst then some g.dst else none)
  else
    let e := drGet s bank g.dev
    if drValid e && decide (drPri e < 10) then some (strandPort (drPri e)) else none

/-- A bead: output, slot, flow, and the input the flow arrives by. -/
structure GtBead where
  tile : Nat
  net  : Net
  out  : RPort
  slot : Nat
  flow : Nat
  inp  : RPort
deriving DecidableEq, Repr

/-- The beads of an injection entry along a route (R164). -/
def gtChain (g : GtInj) (hops : List GtHop) : List GtBead :=
  hops.zipIdx.map fun (h, i) => ⟨h.tile, g.net, h.out, (g.slot + 2 + i) % 128, g.flow, h.inp⟩

/-- Overrides of a bank as a function of router and target. -/
def bankOvr (s : State) (bank : Bool) (n : Net) : Nat → Nat → Nat := fun t dest => ovrGet s t n bank dest

/-- Overrides of a bank under the plan for a lost element (R127). -/
def lostOvr (s : State) (bank : Bool) (l : Lost) (n : Net) : Nat → Nat → Nat :=
  fun t dest => match planEntry l n t dest with | some e => e | none => ovrGet s t n bank dest

/-- The flows of a bank with their routes under overrides; entries with no route are left out. -/
def gtPlan (s : State) (bank : Bool) (ov : Net → Nat → Nat → Nat) (gs : List GtInj) : List (GtInj × List GtHop) :=
  gs.filterMap fun g =>
    match gtTarget s bank g with
    | some p => (gtRoute (ov g.net) g.port p).map fun r => (g, r)
    | none => none

/-- The bank's own plan. -/
def ownPlan (s : State) (bank : Bool) : List (GtInj × List GtHop) := gtPlan s bank (bankOvr s bank) (gtInjs s bank)

/-- The backup plan for a lost element (R181): flows at a lost tile are removed. -/
def backupPlan (s : State) (bank : Bool) (l : Lost) : List (GtInj × List GtHop) :=
  let at' := fun (p : Nat) => match l with | .tile t => decide (portTile p = t) | .link _ _ => false
  let gs := (gtInjs s bank).filter fun g =>
    !at' g.port && (match gtTarget s bank g with | some p => !at' p | none => true)
  gtPlan s bank (lostOvr s bank l) gs

/-- Every element whose loss has a backup plan (R181). -/
def allLosses : List Lost :=
  (List.range 48).map Lost.tile ++
    [Net.req, .rsp, .dat].flatMap fun n => (List.range 82).map fun l => Lost.link l n

end Sys2Proof.Machine
end

