-- ==== Sys2Proof/Machine/Banks.lean ====
section
/-! DEFINITION. What the planner and the pool agent prepare in inactive banks (R127, R129, R182, R348), and the hallmarks the fabric
submits of its own. -/

namespace Sys2Proof.Machine

/-- The page kind a stored table key lies on. -/
def keyKind (key : Nat) : Option Kind := (pageOf (key % 2 ^ 24)).map (·.kind)

def isRtrKind (k : Kind) : Bool := match k with | .rtr _ => true | _ => false

/-- The stored entries of one bank on the pages of the given kinds. -/
def bankEntries (want : Kind → Bool) (bank : Bool) (s : State) : List (Nat × Word) :=
  s.tbls.filter fun e => (e.1.testBit 24 == bank) && (match keyKind e.1 with | some k => want k | none => false)

/-- Every entry of a bank takes its reset value. -/
def clearBank (want : Kind → Bool) (bank : Bool) (s : State) : State :=
  (bankEntries want bank s).foldl (fun s e => tblSet e.1 (tblReset e.1) s) s

/-- The other bank's key. -/
def flipKey (key : Nat) : Nat := if key.testBit 24 then key - 2 ^ 24 else key + 2 ^ 24

/-- Copy a bank into the other one. -/
def copyBank (want : Kind → Bool) (act : Bool) (s : State) : State :=
  (bankEntries want act s).foldl (fun s e => tblSet (flipKey e.1) e.2 s) (clearBank want (!act) s)

def copyOvr (s : State) : State := copyBank isRtrKind s.epoch.active s
def copyDr (s : State) : State := copyBank (fun k => decide (k = .devroute)) s.epoch.active s
def copyBead (s : State) : State := copyBank (fun k => decide (k = .bead)) s.epoch.beadActive s

/-- Remove flows from a bead bank: their injection entries and their beads. -/
def dropFlows (bank : Bool) (flows : List Nat) (s : State) : State :=
  (beadEntries s bank).foldl (fun s e => if beadFlow e.2 ∈ flows then tblSet e.1 0 s else s) s

/-- Flows of the active bead bank whose exit strand differs between the active and the inactive DR_ROUTE bank (R348). -/
def movedFlows (s : State) : List Nat :=
  ((gtInjs s s.epoch.beadActive).filter fun g =>
      decide (g.dev ≠ (ownDev s).toNat) && decide (gtTarget s s.epoch.active g ≠ gtTarget s (!s.epoch.active) g)).map (·.flow)

/-- The inactive bead bank has been written: it is no primary plan any more (R183). -/
def beadWritten (s : State) : State :=
  if s.epoch.primary = some (!s.epoch.beadActive) then { s with epoch := { s.epoch with primary := none } } else s

/-- The banks beside a push (R348): overrides copied, the bead plan copied without the flows that move. -/
def preparePush (s : State) : State :=
  let flows := movedFlows s
  let s := copyBead (copyOvr s)
  let s := beadWritten (dropFlows (!s.epoch.beadActive) flows s)
  { s with epoch := { s.epoch with plannedOther := s.epoch.planned, beadPlannedOther := s.epoch.beadPlanned } }

/-- Route banks are read-only: an epoch switch is armed, or the old epoch drains (R134, R352). DEDUCED (log entry 68). -/
def routeLocked (s : State) : Bool := gqHas s 1 || decide (s.epoch.switch ≠ .idle)
/-- Bead banks are read-only: a swap of them is armed (R176). DEDUCED (log entry 68). -/
def beadLocked (s : State) : Bool := beadSwapPending s

/-- Submit an epoch switch of the fabric's own; HM_STAT tells only of submissions made through registers. The result code. DEDUCED (log entry 33). -/
def submitSwitch (owner : HmOwner) (at? : Option Nat) (s : State) : Nat × State :=
  let t := hmSubmit owner 1 0 0 false at? s
  (t.hm.result, { t with hm := { t.hm with result := s.hm.result, lastId := s.hm.lastId } })

end Sys2Proof.Machine
end

