-- ==== Sys2Proof/Machine/Checker.lean ====
section
/-! DEFINITION. The configuration checker (R24, R61, R112, R124 to R126, R169, R170, R202, R264, R320, R323, R349, R353, R384, R486):
a finding is a HOLD reason and a window offset. -/

namespace Sys2Proof.Machine

/-- The bank and view of a table key; its window offset. -/
def keyOff (key : Nat) : Nat := key % 2 ^ 24
def keyBank (key : Nat) : Bool := key.testBit 24

/-! ### ROUTE -/

/-- The stored override entries of a bank: key, tile, network, target and entry. -/
def ovrEntries (s : State) (bank : Bool) : List (Nat × Nat × Net × Nat × Nat) :=
  s.tbls.filterMap fun (key, w) =>
    match pageOf (keyOff key) with
    | some pg =>
      match pg.kind with
      | .rtr n =>
        if keyBank key = bank ∧ ovrValid w.toNat then
          some (key, pg.inst, n, (keyOff key - pg.base - 0xC40) / 4, w.toNat)
        else none
      | _ => none
    | none => none

/-- R112: OUT faces outside the grid or is reserved, or the entry is valid for the own tile. -/
def ovrBad (t dest e : Nat) : Bool :=
  decide (t = dest) || decide (3 < ovrOut e) || (neighbour t (rpOf (ovrOut e))).isNone

/-- The strands a DR_ROUTE bank uses to go up, to go down (R353). -/
def drRel (e : Nat) : Nat := nbits 13 12 e
def drUses (s : State) (bank : Bool) (rel n : Nat) : Bool :=
  (List.range 32).any fun d => let e := drGet s bank d; drValid e && decide (drRel e = rel ∧ drEsc e = n)

/-- R353 for entry d. -/
def drBad (s : State) (bank : Bool) (d : Nat) : Bool :=
  let e := drGet s bank d
  let strandBad := fun n => decide (9 < n ∧ n ≠ 0xF)
  let esc := drEsc e
  drValid e &&
    (strandBad (drPri e) || strandBad (drAlt e) || strandBad esc || decide (d = (ownDev s).toNat) ||
      decide (esc = 0xF ∧ drPri e ≠ 0xF) ||
      (decide (esc ≠ 0xF) &&
        ((decide (drRel e = 1 ∨ drRel e = 3) && drUses s bank 2 esc) || (decide (drRel e = 3) && !drUses s bank 1 esc))))

def bothBanks : List Bool := [false, true]

/-- Order 1 (R384). -/
def chkRoute (s : State) : Option Nat :=
  let ovr := (bothBanks.flatMap fun b => ovrEntries s b).findSome? fun (key, t, _, dest, e) =>
    if ovrBad t dest e then some (keyOff key) else none
  let bead := fun (_ : Unit) => (bothBanks.flatMap fun b => gtInjs s b).findSome? fun g =>
    if usedPort g.dst then none else some (keyOff g.key)
  let dr := fun (_ : Unit) => (bothBanks.flatMap fun b => (List.range 32).map fun d => (b, d)).findSome? fun (b, d) =>
    if drBad s b d then some (0x6C40 + 8 * d) else none
  match ovr with
  | some o => some o
  | none =>
    match bead () with
    | some o => some o
    | none => dr ()

/-! ### DETOUR -/

def isX (r : RPort) : Bool := match r with | .e | .w => true | _ => false

/-- A step arriving by input port `inp` and leaving by `out` turns from Y to X or reverses (R124). -/
def badTurn (inp out : RPort) : Bool :=
  match inp with
  | .l0 | .l1 => false
  | _ => decide (inp = out) || (!isX inp && isX out)

/-- Trace from tile t toward tile `to` (R124, R125): the tile of the entry to blame for the first finding. `seen` holds tiles visited on
this leg, `last` the last tile whose entry applied. -/
def traceBad (ov : Nat → Nat → Nat) (dest fuel t leg : Nat) (inp : RPort) (seen : List Nat) (last : Nat) : Option Nat :=
  match fuel with
  | 0 => some last
  | k + 1 =>
    if t = dest then none
    else if t ∈ seen then some last
    else
      let e := ov t dest
      let hit := ovrValid e && ovrLeg e leg
      let out := if hit then rpOf (ovrOut e) else (xyOut t dest).getD .n
      let bump := hit && ovrBump e
      let last := if hit then t else last
      if bump && decide (leg = 2) then some last
      else if !bump && badTurn inp out then some last
      else
        match neighbour t out with
        | none => some last
        | some u => traceBad ov dest k u (if bump then leg + 1 else leg) (opposite out) (if bump then [] else t :: seen) last

/-- Tiles with an attached unit. -/
def sourceTiles : List Nat := (List.range 48).filter fun t => usedPort (2 * t) || usedPort (2 * t + 1)

/-- The detour checks for a set of overrides toward the given targets. -/
def detourBad (ov : Nat → Nat → Nat) (targets : List Nat) : Option (Nat × Nat) :=
  targets.findSome? fun dest => sourceTiles.findSome? fun src =>
    (traceBad ov dest 160 src 0 .l0 [] src).map fun t => (t, dest)

/-- Targets for which a bank holds a valid entry on a network. -/
def ovrTargets (s : State) (bank : Bool) (n : Net) : List Nat :=
  let es := (ovrEntries s bank).filter fun x => x.2.2.1 = n
  (List.range 48).filter fun dest => es.any fun x => x.2.2.2.1 = dest

/-- The detour checks of the planner's plan for a loss (R124). Every plan of R128 passes them, and the plans are constants, so that the
checker has nothing to report of them. DEDUCED (log entry 90). -/
def planDetour (l : Lost) (n : Net) (targets : List Nat) : Option (Nat × Nat) :=
  detourBad (fun t dest => (planEntry l n t dest).getD 0) targets

/-- Order 2. -/
def chkDetour (s : State) : Option Nat :=
  bothBanks.findSome? fun b => allNets.findSome? fun n =>
    (detourBad (bankOvr s b n) (ovrTargets s b n)).map fun (t, dest) => rtrPage t n + 0xC40 + 4 * dest

/-! ### BEAD (R169, R170, R126) -/

/-- The valid output entries of a bank: key, tile, network, output, slot, flow. -/
def outEntries (s : State) (bank : Bool) : List (Nat × Nat × Net × Nat × Nat × Nat) :=
  (beadEntries s bank).filterMap fun (key, e) =>
    let off := keyOff key
    let sel := key / 2 ^ 25
    if 0x20 ≤ sel then none
    else
      match pageOf off with
      | some pg => some (key, pg.inst, netOf (sel / 8), sel % 8, (off - pg.base - 0xC40) / 4, beadFlow e)
      | none => none

/-- Two injection entries break the identity of flows (R161). -/
def idClash (a b : GtInj) : Bool :=
  let same := decide (a.port = b.port ∧ a.net = b.net)
  if a.flow = b.flow then !same || decide (a.dst ≠ b.dst ∨ a.dev ≠ b.dev)
  else same && decide (a.dst = b.dst ∧ a.dev = b.dev)

/-- Run of w slots from k, cyclically, in a list of slots. -/
def runCount (slots : List Nat) (k w : Nat) : Nat := (slots.filter fun x => decide ((x + 128 - k) % 128 < w)).length

/-- R170 for the slots of one table. -/
def spacingOk (slots : List Nat) : Bool :=
  let n := slots.length
  (List.range 128).all fun w' => (List.range 128).all fun k =>
    decide (runCount slots k (w' + 1) ≤ ((w' + 1) * n + 127) / 128)

/-- The output tables a list of beads uses, with their slots. -/
def beadTables (bs : List GtBead) : List ((Nat × Net × RPort) × List Nat) :=
  let ks := (bs.map fun b => (b.tile, b.net, b.out)).eraseDups
  ks.map fun k => (k, (bs.filter fun b => decide ((b.tile, b.net, b.out) = k)).map (·.slot))

/-- VC 0 channel dependencies of a plan: consecutive outputs of its routes. -/
def planDeps (pl : List (GtInj × List GtHop)) : List ((Net × Nat × RPort) × (Net × Nat × RPort)) :=
  (pl.flatMap fun (g, hs) => (hs.zip hs.tail).map fun (a, b) => ((g.net, a.tile, a.out), (g.net, b.tile, b.out))).eraseDups

/-- Drop dependencies that nothing goes on from or that go on from nothing, as often as told; what is left holds every cycle. -/
def depCore (fuel : Nat) (ds : List ((Net × Nat × RPort) × (Net × Nat × RPort))) :
    List ((Net × Nat × RPort) × (Net × Nat × RPort)) :=
  match fuel with
  | 0 => ds
  | k + 1 => depCore k (ds.filter fun d => (ds.any fun e => decide (e.1 = d.2)) && ds.any fun e => decide (e.2 = d.1))

/-- The flows of a plan that have a dependency in a list. -/
def flowsIn (pl : List (GtInj × List GtHop)) (core : List ((Net × Nat × RPort) × (Net × Nat × RPort))) : List Nat :=
  (pl.filter fun x => (planDeps [x]).any fun d => decide (d ∈ core)).map (·.1.flow)

/-- The injection entry of a flow with the lowest slot (R486). -/
def flowOffset (gs : List GtInj) (flow : Nat) : Nat :=
  let mine := gs.filter fun g => g.flow = flow
  match mine.find? fun g => mine.all fun h => decide (g.slot ≤ h.slot) with
  | some g => keyOff g.key
  | none => 0

/-- The lowest flow ID of a list of beads. -/
def minFlow (fl : List Nat) : Nat := fl.foldl min 255

/-- Collision, fill and spacing of a plan's chains: the flows concerned in the first finding. -/
def planBad (pl : List (GtInj × List GtHop)) : Option Nat :=
  let bs := pl.flatMap fun (g, hs) => gtChain g hs
  let clash := bs.findSome? fun a =>
    if (bs.filter fun b => decide (a.tile = b.tile ∧ a.net = b.net ∧ a.out = b.out ∧ a.slot = b.slot)).length > 1
    then some (minFlow ((bs.filter fun b => decide (a.tile = b.tile ∧ a.net = b.net ∧ a.out = b.out ∧ a.slot = b.slot)).map (·.flow)))
    else none
  match clash with
  | some f => some f
  | none =>
    (beadTables bs).findSome? fun (k, slots) =>
      if 64 < slots.length || !spacingOk slots then
        some (minFlow ((bs.filter fun b => decide ((b.tile, b.net, b.out) = k)).map (·.flow)))
      else none

/-- The entry has the bead the chain asks for. -/
def hasBead (s : State) (bank : Bool) (b : GtBead) : Bool :=
  let e := beadOut s b.tile b.net (rpNum b.out) bank b.slot
  beadValid e && decide (beadFlow e = b.flow)

/-- Every bead check of one bank but backup and dependency. -/
def chkBeadBank (s : State) (bank : Bool) : Option Nat :=
  let gs := gtInjs s bank
  let pl := ownPlan s bank
  let chains := pl.flatMap fun (g, hs) => gtChain g hs
  let outs := outEntries s bank
  let ident := gs.findSome? fun a => if gs.any fun b => idClash a b then some (keyOff a.key) else none
  let chain := fun (_ : Unit) => gs.findSome? fun g =>
    match pl.find? fun x => x.1 = g with
    | none => some (keyOff g.key)
    | some (_, hs) => if (gtChain g hs).all (hasBead s bank) then none else some (keyOff g.key)
  let orphan := fun (_ : Unit) => outs.findSome? fun (key, t, n, p, k, fl) =>
    if chains.any fun b => decide (b.tile = t ∧ b.net = n ∧ rpNum b.out = p ∧ b.slot = k ∧ b.flow = fl) then none
    else some (keyOff key)
  let fillInj := fun (_ : Unit) => gs.findSome? fun g =>
    if 64 < (gs.filter fun h => decide (h.port = g.port ∧ h.net = g.net)).length then some (keyOff g.key) else none
  let tables := fun (_ : Unit) => (planBad pl).map (flowOffset gs)
  [fun _ => ident, chain, orphan, fillInj, tables].findSome? fun f => f ()

/-- The plans of a bank: its own and every backup. -/
def bankPlans (s : State) (bank : Bool) : List (List (GtInj × List GtHop)) :=
  ownPlan s bank :: allLosses.map (backupPlan s bank)

/-- Plans with the bank each derives from. -/
def allPlans (s : State) : List (Bool × List (GtInj × List GtHop)) := bothBanks.flatMap fun b => (bankPlans s b).map fun p => (b, p)

/-- A cycle of two plans together (R126): the entry of the lowest flow concerned in the bank the first of them with one derives from
(R486). DEDUCED (log entry 90). -/
def depFinding (s : State) : Option Nat :=
  let ps := allPlans s
  ps.findSome? fun a => ps.findSome? fun b =>
    let core := depCore 1000 (planDeps a.2 ++ planDeps b.2)
    let x := if (flowsIn a.2 core).isEmpty then b else a
    if core.isEmpty then none else some (flowOffset (gtInjs s x.1) (minFlow (flowsIn x.2 core)))

/-- Order 3. -/
def chkBead (s : State) : Option Nat :=
  if (beadEntries s false).isEmpty && (beadEntries s true).isEmpty then none
  else
    let own := bothBanks.findSome? (chkBeadBank s)
    let dep := fun (_ : Unit) => depFinding s
    let backup := fun (_ : Unit) => bothBanks.findSome? fun b => allLosses.findSome? fun l =>
      (planBad (backupPlan s b l)).map (flowOffset (gtInjs s b))
    [fun _ => own, dep, backup].findSome? fun f => f ()

/-! ### ADDRMAP (R349, R351) -/

/-- The first bad range and its CHK_WHY. -/
def amFinding (s : State) : Option (Nat × Nat) :=
  (List.range 64).findSome? fun r =>
    let e := amGet s r
    if !amValid e then none
    else if (List.range r).any fun q =>
        let f := amGet s q
        amValid f && decide (amBase e ≤ amLimit f ∧ amBase f ≤ amLimit e) then some (r, 1)
    else if 16 < amChBase e + amWays e then some (r, 2)
    else if amLimit e < amBase e then some (r, 3)
    else if amRemote e && decide (amDev e = (ownDev s).toNat) then some (r, 4)
    else none

/-- Order 4. -/
def chkAddrmap (s : State) : Option Nat := (amFinding s).map fun x => 0x5C40 + 8 * x.1

/-! ### VALUE -/

/-- An EQ_ROWS TX word out of bounds (R323). -/
def eqRowBad (w : Nat) : Bool :=
  let pre := (toSigned 5 (nbits 4 0 w)).natAbs
  let post := (toSigned 6 (nbits 21 16 w)).natAbs
  let main := nbits 13 8 w
  decide (63 < pre + main + post) || decide (main < 24)

/-- Expert registers with listed ranges: every stored field of the expert region is legal (R61). -/
def expertBad (s : State) : Option Nat :=
  s.regs.findSome? fun (off, w) =>
    match pageOf off with
    | some pg =>
      if regionOf (inPage pg off) = .expert && expertEn s pg.base &&
          (regFields pg.kind pg.inst (inPage pg off)).any (fun f => !legalOk f.legal (fld f.hi f.lo w)) then some off
      else none
    | none => none

/-- Order 5. -/
def chkValue (s : State) : Option Nat :=
  let crit := fun (_ : Unit) => allPorts.findSome? fun p =>
    if (isHap p || isCag p) && decide (regFld s (portPage p + 0x40) 0 0 = 0) then some (portPage p + 0x40) else none
  let guard := fun (_ : Unit) => if 8000 < lkGuardNs s then some 0x4408 else none
  let fom := fun (_ : Unit) => (List.range 10).findSome? fun n =>
    if phyRecentre s n ≤ phyFloor s n ∨ phyAccept s n < phyRecentre s n then some (slPage n 1 + 0x400) else none
  let eq := fun (_ : Unit) => (List.range 10).findSome? fun n => (List.range 8).findSome? fun r =>
    let o := slPage n 2 + 0xC40 + 8 * r
    if eqRowBad (tblGet s (tblKey (slPage n 2) (0xC40 + 8 * r) 0 0)).toNat then some o else none
  [fun _ => expertBad s, crit, guard, fom, eq].findSome? fun f => f ()

/-! ### All orders (R384) -/

/-- The checker's first finding over a configuration. -/
def checkConfig (s : State) : Option (HoldWhy × Nat) :=
  [fun _ => (chkRoute s).map fun o => (HoldWhy.route, o), fun _ => (chkDetour s).map fun o => (HoldWhy.detour, o),
   fun _ => (chkBead s).map fun o => (HoldWhy.bead, o), fun _ => (chkAddrmap s).map fun o => (HoldWhy.addrmap, o),
   fun _ => (chkValue s).map fun o => (HoldWhy.value, o),
   fun _ => if s.pool.disc = .collide then some (HoldWhy.devid, 0x6800) else none].findSome? fun (f : Unit → Option (HoldWhy × Nat)) => f ()

/-- A map finding leaves its range and reason in AM_STAT (R351). -/
def noteMap (s : State) (r : Option (HoldWhy × Nat)) : State :=
  match r, amFinding s with
  | some (.addrmap, _), some (n, w) => regPut 0x5800 15 10 n (regPut 0x5800 9 7 w s)
  | _, _ => s

/-- The checker fills the IN fields of a bank it has accepted from the routes (R167). DEDUCED (log entry 56). -/
def fillIn (bank : Bool) (s : State) : State :=
  (ownPlan s bank).foldl (fun s (x : GtInj × List GtHop) => (gtChain x.1 x.2).foldl (fun s b =>
    let k := beadOutKey b.tile b.net (rpNum b.out) bank b.slot
    tblSet k (putFld 11 9 (tblGet s k) (rpNum b.inp)) s) s) s

def fillBoth (s : State) : State := fillIn true (fillIn false s)

end Sys2Proof.Machine
end

