-- ==== Sys2Proof/Machine/Inject.lean ====
section
/-! DEFINITION. What a fabric half queues for injection, numbers, delivers and answers of its own (R80, R89, R193 to R195, R229,
R338, R342, R482). -/

namespace Sys2Proof.Machine

/-! ### Stream numbers (R89, R338, R342) -/

/-- The stream of a network: 0 REQ, 1 RSP, 2 SNP. -/
def streamNum (n : Net) : Nat := match n with | .req => 0 | .rsp => 1 | .snp => 2 | .dat => 0
def streamKey (dev stream : Nat) : Nat := 3 * dev + stream

/-- The next n values of a stream toward a device: the first of them. DEDUCED (log entry 24). -/
def drawSeq (dev stream n : Nat) (s : State) : Nat × State :=
  let k := streamKey dev stream
  let v := spGet 0 s.seqr.ctr k
  (v, { s with seqr := { s.seqr with ctr := spSet 0 s.seqr.ctr k ((v + n) % 2 ^ 16) } })

/-- Stream states toward a device (R342): 0 CLOSED, 1 OPENING, 2 OPEN. -/
def streamState (s : State) (dev : Nat) : Nat := spGet 0 s.seqr.state dev

/-- A numbered packet must wait at its fabric half (R342): its device is OPENING, or its value lies 32,768 or more beyond the
last acknowledged NEXT. DEDUCED (log entry 25). -/
def seqHeld (s : State) (f : Flit) : Bool :=
  f.xf &&
    (let d := f.dstdev.toNat
     let st := if f.net = .dat then (if f.cnet then 1 else 0) else streamNum f.net
     decide (streamState s d = 1) ||
       (decide (streamState s d = 2) &&
         decide (32768 ≤ (f.e2seq.toNat + 2 ^ 16 - spGet 0 s.seqr.acked (streamKey d st)) % 2 ^ 16)))

/-! ### Queues -/

/-- Keys of injection queues and credits: network and class; of GT queues: network and flow. -/
def qKey (n : Net) (c : Cls) : Nat := 4 * netNum n + clsNum c
def gKey (n : Net) (flow : Nat) : Nat := 256 * netNum n + flow

/-- Append a packet to its injection queue: a GT packet of a flow to the flow's queue, any other by class (R163, R483). -/
def enqueue (p : Fin 96) (q : QFlit) (s : State) : State :=
  match q.flow with
  | some fl => updPort p (fun x =>
      { x with gtq := spSet [] x.gtq (gKey q.flit.net fl) (spGet [] x.gtq (gKey q.flit.net fl) ++ [q]) }) s
  | none => updPort p (fun x =>
      { x with injq := spSet [] x.injq (qKey q.flit.net q.flit.cls) (spGet [] x.injq (qKey q.flit.net q.flit.cls) ++ [q]) }) s

/-- GT as LL (R79, R481, R482). DEDUCED (log entry 80). -/
def noGt (c : Cls) : Cls := if c = .gt then .ll else c

/-- The class test of R67 and R79 for a packet of port p: the packet, its flow, and the count of a packet that goes as LL. -/
def gtTest (p : Fin 96) (f : Flit) (s : State) : Flit × Option Nat × State :=
  if f.cls ≠ .gt then (f, none, s)
  else
    match flowOf s p.val f.net f.dst.toNat f.dstdev.toNat with
    | some fl => (f, some fl, s)
    | none => ({ f with cls := .ll }, none, countPort p 40 s)

/-- A packet that a fabric half makes: SRCDEV, XF, class, stream number and VC as for its unit's packets (R67, R197, R482). -/
def fabSendAs (lk : Bool) (p : Fin 96) (f : Flit) (s : State) : State :=
  let xf := decide (f.dstdev ≠ ownDev s)
  let (e, s) := if xf then drawSeq f.dstdev.toNat (streamNum f.net) 1 s else (0, s)
  let (f, fl, s) := gtTest p { f with srcdev := ownDev s, xf := xf, e2seq := BitVec.ofNat 16 e } s
  enqueue p { flit := { f with vc := injectVc p.val f }, fab := true, lk := lk, flow := fl, since := s.clk.cyc } s

def fabSend (p : Fin 96) (f : Flit) (s : State) : State := fabSendAs false p f s

/-- A packet sent by the locket port for the fabric: of the locket block, or an AGENTLOST for a port that cannot send it (R80, R237). -/
def lockSend (p : Fin 96) (f : Flit) (s : State) : State := fabSendAs true p f s

/-- A REQ that arrived at port p is answered by p's fabric half (R205, R208, R482). -/
def answerFrom (p : Fin 96) (req : Flit) (opc sub arg : Nat) (s : State) : State :=
  fabSend p { answerTo req p.val (ownDev s) opc sub arg with cls := noGt req.cls } s

/-! ### Delivery to the unit -/

/-- A side goes DOWN: the toggle is held, and pointers and counts are discarded (R359, R363). -/
def xDown (v : XSide) : XSide := { toggle := v.toggle }

/-- A flit passes a FIFO of the crossing from side a to side b: both pointers move (R359). -/
def xPass (n : Net) (a b : XSide) : XSide × XSide :=
  ({ a with wr := spSet 0 a.wr (netNum n) (spGet 0 a.wr (netNum n) + 1) },
   { b with rd := spSet 0 b.rd (netNum n) (spGet 0 b.rd (netNum n) + 1) })
/-- A flit of a network crosses to, from the unit. -/
def xToUnit (n : Net) (x : PortSt) : PortSt := { x with xf := (xPass n x.xf x.xu).1, xu := (xPass n x.xf x.xu).2 }
def xFromUnit (n : Net) (x : PortSt) : PortSt := { x with xu := (xPass n x.xu x.xf).1, xf := (xPass n x.xu x.xf).2 }

/-- PING and BABANDON are not counted in PORT_INFL.IN (R207). -/
def countsIn (f : Flit) : Bool :=
  match f.net with
  | .req => decide (f.opc.toNat ≠ opPING ∧ f.opc.toNat ≠ opBABANDON)
  | .snp => decide (f.opc.toNat ≠ snpAGENTLOST)
  | _ => false

/-- A flit on fai_out, one in each unit-side cycle of a network (R190, R192). DEDUCED (log entry 19). -/
def deliver (p : Fin 96) (f : Flit) (s : State) : State :=
  let s := advanceTo (spGet 0 s.ports[p].outAt (netNum f.net)) s
  let s := updPort p (fun x => xToUnit f.net { x with outAt := spSet 0 x.outAt (netNum f.net) (s.clk.cyc + unitCycle p.val) })
    (emit (.deliver p f) s)
  let s := if countsIn f then updPort p (fun x => { x with inCnt := x.inCnt + 1 }) s else s
  countPort p (5 + 8 * netNum f.net + clsNum f.cls) s

def ejCredit (s : State) (p : Fin 96) (n : Net) (c : Cls) : Nat := spGet 0 s.ports[p].ejCrd (qKey n c)
def setEjCredit (p : Fin 96) (n : Net) (c : Cls) (v : Nat) (s : State) : State :=
  updPort p (fun x => { x with ejCrd := spSet 0 x.ejCrd (qKey n c) v }) s

/-- A packet of the fabric half's own for its unit: delivered within the unit's credits, or waiting for one (R195, R197). -/
def toUnit (p : Fin 96) (f : Flit) (s : State) : State :=
  let c := ejCredit s p f.net f.cls
  if 0 < c then deliver p f (setEjCredit p f.net f.cls (c - 1) s)
  else updPort p (fun x => { x with toUnit := x.toUnit ++ [f] }) s

/-- The waiting packets that the unit's credits now admit, in order. -/
def flushUnit (p : Fin 96) (s : State) : State :=
  let l := s.ports[p].toUnit
  l.foldl (fun s f => toUnit p f s) (updPort p (fun x => { x with toUnit := [] }) s)

/-- An ERR that a fabric half delivers to its own unit (R482). -/
def errToUnit (p : Fin 96) (req : Flit) (sub arg : Nat) (s : State) : State :=
  toUnit p { localErr req p.val (ownDev s) sub arg with cls := noGt req.cls, vc := clsVc (noGt req.cls) } s

/-! ### Injection credits (R193) -/

/-- Places a class has: 16 in the GT store of REQ, RSP and DAT, 8 in every other queue. -/
def injPlaces (n : Net) (c : Cls) : Nat := if c = .gt then (if n = .snp then 0 else 16) else 8

/-- Entries of the open-request table in use. DEDUCED (log entry 27). -/
def openCount (x : PortSt) : Nat := x.opens.length

/-- Packets of the unit that take a place of a class of a network. DEDUCED (log entry 27). -/
def placesTaken (x : PortSt) (n : Net) (c : Cls) : Nat :=
  let cnt := fun (l : List QFlit) => (l.filter fun q => !q.fab && decide (q.flit.net = n) && decide (q.place = c)).length
  (x.injq.map fun e => cnt e.2).sum + (x.gtq.map fun e => cnt e.2).sum

/-- Credits of a class that the unit holds. -/
def injHeld (x : PortSt) (n : Net) (c : Cls) : Nat := spGet 0 x.injCrd (qKey n c)

/-- Entries of the open-request table that no held REQ credit stands for; a strand port has no table (R198). DEDUCED (log entry 27). -/
def reqRoom (p : Fin 96) (x : PortSt) : Nat :=
  if isStrandPort p.val then 64 else 256 - openCount x - ([Cls.gt, .ll, .be, .mg].map (injHeld x .req)).sum

/-- Grant a credit for each free place not yet granted, REQ credits while an entry is left for each; credits granted stay valid
(R193, R194). DEDUCED (log entry 27). -/
def regrant (p : Fin 96) (s : State) : State :=
  updPort p (fun x =>
    let more := fun n c => injPlaces n c - placesTaken x n c - injHeld x n c
    let give := fun (m : Sparse Nat) n c k => spSet 0 m (qKey n c) (injHeld x n c + k)
    let (m, _) := [Cls.mg, .ll, .be, .gt].foldl (fun (acc : Sparse Nat × Nat) c =>
      let g := min (more .req c) acc.2
      (give acc.1 .req c g, acc.2 - g)) (x.injCrd, reqRoom p x)
    { x with injCrd := [Net.rsp, .snp, .dat].foldl (fun m n =>
        [Cls.gt, .ll, .be, .mg].foldl (fun m c => give m n c (more n c)) m) m }) s

/-- The offer of a flit uses a credit of its class (R193). -/
def useCredit (p : Fin 96) (n : Net) (c : Cls) (s : State) : State :=
  updPort p (fun x => { x with injCrd := spSet 0 x.injCrd (qKey n c) (injHeld x n c - 1) }) s

/-! ### AGENTLOST (R80, R229, R235) -/

/-- The locket port (R237): the fabric half of port 22, or of port 70 while tile 11 is isolated. -/
def locketPort (s : State) : Fin 96 := if s.tiles[tileF 11].isolated then 70 else 22

/-- Devices to which the active DR_ROUTE bank holds a route, this device apart. -/
def routedDevs (s : State) : List Nat :=
  (List.range 32).filter fun d => decide (d ≠ (ownDev s).toNat) && drValid (drGet s s.epoch.active d)

/-- AGENTLOST to the sixteen HOMEs of one device. -/
def agentLostTo (src : Fin 96) (dev lostPort lostDev reason : Nat) (s : State) : State :=
  forEach (List.range 16) (fun x =>
    fabSendAs (decide (2 ≤ reason)) src { agentLostFlit src.val (ownDev s) lostPort lostDev reason x with dstdev := BitVec.ofNat 5 dev }) s

/-- AGENTLOST naming a port of this device, to its own HOMEs and to those of every device with a route (R229). -/
def sendAgentLost (src : Fin 96) (lostPort reason : Nat) (s : State) : State :=
  let own := (ownDev s).toNat
  forEach (own :: routedDevs s) (fun d => agentLostTo src d lostPort own reason) s

/-- AGENTLOST for each HAP of a device that became unreachable, to this device's HOMEs (R235) and, as every cause of R229, to those of
every device with a route. DEDUCED (log entry 86). -/
def deviceLost (d : Nat) (s : State) : State :=
  forEach ((ownDev s).toNat :: (routedDevs s).filter (· ≠ d)) (fun e s =>
    forEach [32, 33, 46, 47, 48, 49, 62, 63] (fun p => agentLostTo (locketPort s) e p d 3) s) s

/-- The units whose loss is reported (R204, R206). -/
def reportsLost (p : Nat) : Bool :=
  match unitOf p with
  | .hap _ | .cag _ | .cpe | .tre | .mgt => true
  | _ => false

end Sys2Proof.Machine
end

