-- ==== Sys2Proof/Machine/Lockets.lean ====
section
/-! DEFINITION. The locket block: coordinator and relay (R236 to R263). -/

namespace Sys2Proof.Machine

def updCoord (l : Fin 64) (f : Coord → Coord) (s : State) : State :=
  { s with lock := { s.lock with coords := s.lock.coords.set l (f s.lock.coords[l]) } }
def updRelay (e : Fin 64) (f : Relay → Relay) (s : State) : State :=
  { s with lock := { s.lock with relays := s.lock.relays.set e (f s.lock.relays[e]) } }

/-! ### Packets of the locket block (R237, R239) -/

/-- Where a participant is addressed: channel c of this device, or the relay of device d at the port R239 names. -/
inductive Part where
  | chan (c : Nat)
  | dev (d : Nat)
deriving DecidableEq, Repr

/-- The participants of a pair of masks. -/
def partsOf (locs : BitVec 16) (remote : BitVec 32) : List Part :=
  (bitList 16 locs.toNat).map Part.chan ++ (bitList 32 remote.toNat).map Part.dev

/-- Its port and device, for a packet of LKT l: a relay is at 70 once 22 has answered NOROUTE, and where this locket's packet to 22
has failed (R239, R257). -/
def partAddr (s : State) (l : Fin 64) (x : Part) : Nat × BitVec 5 :=
  match x with
  | .chan c => (homePort c, ownDev s)
  | .dev d => (if s.lock.alt70.getLsbD d || s.lock.coords[l].try70.getLsbD d then 70 else 22, BitVec.ofNat 5 d)

/-- An LKCOMMIT or LKABORT of the locket block, before its addresses (R83, R95, R237). -/
def lkReq (s : State) (opc tag : Nat) (lkt : BitVec 6) (cls : Cls) (qos : BitVec 4) (t : BitVec 64) (asap : Bool) : Flit :=
  let com := decide (opc = opLKCOMMIT)
  { net := .req, src := BitVec.ofNat 7 (locketPort s).val, cls := cls, qos := qos, tag := BitVec.ofNat 12 tag
    opc := BitVec.ofNat 6 opc, lkv := true, lkt := lkt
    addr := if com then BitVec.ofNat 52 t.toNat else 0
    rarg := if com then BitVec.ofNat 40 (t.toNat >>> 52 + at' (b2n asap) 12) else 0 }

/-- Send one to participant x of LKT l, in the requester's class after R67; an LKABORT travels as MG (R248, R250). -/
def lkSendOne (l : Fin 64) (opc : Nat) (x : Part) (s : State) : State :=
  let c := s.lock.coords[l]
  let f := lkReq s opc l.val (BitVec.ofNat 6 l.val) (if opc = opLKABORT then .mg else c.cls) c.qos c.t c.asap
  let (p, d) := partAddr s l x
  let s := if p = 70 then updCoord l (fun c => { c with try70 := c.try70 ||| (1 <<< d.toNat) }) s else s
  lockSend (locketPort s) { f with dst := BitVec.ofNat 7 p, dstdev := d } s

/-- Participants of LKT l that have not answered the decision or the LKABORT. -/
def lkMissing (s : State) (l : Fin 64) : List Part :=
  let c := s.lock.coords[l]
  partsOf (c.locs &&& ~~~ c.doneL) (c.remote &&& ~~~ c.doneR)

/-- The packet of relay entry e to HOME x of this device, with the coordinator's SRCDEV and LKT (R239). -/
def relaySendOne (e : Fin 64) (opc x : Nat) (s : State) : State :=
  let r := s.lock.relays[e]
  let f := lkReq s opc (0x100 + e.val) r.lkt (if opc = opLKABORT then .mg else r.req.cls) r.req.qos r.t r.asap
  let p := locketPort s
  let (f, fl, s) := gtTest p { f with dst := BitVec.ofNat 7 (homePort x), dstdev := ownDev s, srcdev := r.dev } s
  enqueue p { flit := { f with vc := injectVc p.val f }, fab := true, lk := true, flow := fl, since := s.clk.cyc } s

/-- The relay passes its packet to every HOME that has not yet answered it. -/
def relaySend (e : Fin 64) (opc : Nat) (s : State) : State :=
  forEach (bitList 16 (~~~ s.lock.relays[e].done).toNat) (relaySendOne e opc) s

/-- The relay answers its coordinator (R81, R239). -/
def relayAnswer (e : Fin 64) (opc arg : Nat) (s : State) : State :=
  let r := s.lock.relays[e]
  let p := locketPort s
  lockSend p (answerTo r.req p.val (ownDev s) opc 0 (arg + r.lkt.toNat)) s

/-! ### Answers to the requester (R236, R252) -/

/-- An answer on the dedicated path, delivered at the fabric half of the opening port. -/
def lkAnswer (p : Fin 96) (req : Flit) (opc sub arg : Nat) (s : State) : State :=
  toUnit p { localErr req p.val (ownDev s) sub arg with opc := BitVec.ofNat 6 opc, cls := noGt req.cls,
                                                        vc := clsVc (noGt req.cls) } s

/-- The answer to an LKCOMMIT or LKABORT of LKT l after an abort. -/
def lkAbortAnswer (l : Fin 64) (req : Flit) (s : State) : State :=
  let c := s.lock.coords[l]
  if c.byAbort || decide (req.opc.toNat = opLKABORT) then lkAnswer c.port req rspLKDONE 0 l.val s
  else lkAnswer c.port req rspERR errLOCKET c.cause s

/-! ### Coordinator -/

/-- The open timer's end from now. -/
def lkOpenEnd (s : State) : Nat := s.clk.cyc + cycUs (lkTimeoutUs s)

/-- The LKT becomes FREE, counted as committed or aborted (R252). -/
def lkFree (l : Fin 64) (done : Bool) (s : State) : State :=
  count (if done then lkDoneOff else lkAbortOff) (updCoord l (fun _ => {}) s)

/-- All participants have answered or are lost: answer the requester (R252); with none waiting an aborted locket becomes ABORTED. -/
def lkFinish (l : Fin 64) (s : State) : State :=
  let c := s.lock.coords[l]
  if !(lkMissing s l).isEmpty then s
  else if c.state = .committed then
    lkFree l true (forEach c.waits (fun f => lkAnswer c.port f rspLKDONE 0 (at' 1 6 + l.val)) s)
  else if c.state = .aborting then
    if c.waits.isEmpty then updCoord l (fun c => { c with state := .aborted, timer := lkOpenEnd s }) s
    else lkFree l false (forEach c.waits (lkAbortAnswer l) s)
  else s

/-- Abort with a cause, in OPEN, CLOSING or VOTING (R250, R254): LKABORT, class MG, to every participant in the masks. -/
def lkAbort (l : Fin 64) (cause : Nat) (s : State) : State :=
  let c := s.lock.coords[l]
  if c.state = .opened ∨ c.state = .closing ∨ c.state = .voting then
    let s := updCoord l (fun c => { c with state := .aborting, cause := cause, doneL := 0, doneR := 0
                                           resendAt := s.clk.cyc + cycUs 50 }) s
    lkFinish l (forEach (lkMissing s l) (lkSendOne l opLKABORT) s)
  else s

/-- The decision is commit (R250). -/
def lkCommit (l : Fin 64) (s : State) : State :=
  let s := updCoord l (fun c => { c with state := .committed, doneL := 0, doneR := 0, resendAt := s.clk.cyc + cycUs 50 }) s
  lkFinish l (forEach (lkMissing s l) (lkSendOne l opLKCOMMIT) s)

/-- Participant x of LKT l has answered. -/
def lkMark (l : Fin 64) (x : Part) (s : State) : State :=
  updCoord l (fun c =>
    match x with
    | .chan n => { c with doneL := c.doneL ||| (1 <<< n) }
    | .dev n => { c with doneR := c.doneR ||| (1 <<< n) }) s

/-- Participant x is in the masks of LKT l. -/
def isPart (s : State) (l : Fin 64) (x : Part) : Bool :=
  match x with
  | .chan n => s.lock.coords[l].locs.getLsbD n
  | .dev n => s.lock.coords[l].remote.getLsbD n

/-- A participant is declared lost (R257). -/
def lkPartLost (x : Part) (l : Fin 64) (s : State) : State :=
  let c := s.lock.coords[l]
  if !isPart s l x then s
  else
    match c.state with
    | .opened | .closing | .voting => lkFinish l (lkMark l x (lkAbort l 3 s))
    | .committed =>
      if x ∈ lkMissing s l then lkFinish l (updCoord l (fun c => { c with lostAfter := true }) (lkMark l x s)) else s
    | .aborting => lkFinish l (lkMark l x s)
    | _ => s

def allLkts : List (Fin 64) := List.finRange 64

/-- The HOMEs of an isolated tile are lost as participants (R257). -/
def lkTileLost (t : Nat) (s : State) : State :=
  forEach ([2 * t, 2 * t + 1].filter isHome) (fun p => forEach allLkts (lkPartLost (.chan (channelOf p)))) s

/-- The opening port resets, or its tile is isolated (R256): its undecided lockets abort with cause port reset, and what they
would answer is discarded. -/
def lkPortReset (p : Fin 96) (s : State) : State :=
  let s := { s with lock := { s.lock with path := s.lock.path.filter (fun x => x.1 ≠ p) } }
  forEach (allLkts.filter fun l => s.lock.coords[l].state ≠ .free && s.lock.coords[l].port = p)
    (fun l s => lkAbort l 4 (updCoord l (fun c => { c with waits := [] }) s)) s

/-- The LKTs a port coordinates (R213, R240). -/
def lkOpenMask (s : State) (p : Fin 96) : Nat :=
  (allLkts.map fun l => if s.lock.coords[l].state ≠ .free && s.lock.coords[l].port = p then 2 ^ l.val else 0).sum

/-! ### Requester's commands -/

/-- Take the oldest request with this opcode from the path of a port. DESIGN CHOICE (log entry 69). -/
def takePath (p : Fin 96) (opc : Nat) (s : State) : Option Flit × State :=
  let hit := fun (x : Fin 96 × Flit) => decide (x.1 = p ∧ x.2.opc.toNat = opc)
  match s.lock.path.find? hit with
  | none => (none, s)
  | some x => (some x.2, { s with lock := { s.lock with path := s.lock.path.eraseP hit } })

/-- LKOPEN (R240). DESIGN CHOICE (log entry 9). DESIGN CHOICE (log entry 69). -/
def lkOpen (p : Fin 96) (s : State) : State :=
  match takePath p opLKOPEN s with
  | (none, s) => s
  | (some f, s) =>
    match allLkts.find? fun l => s.lock.coords[l].state = .free with
    | none => lkAnswer p f rspRETRY 0 0x10 s
    | some l =>
      let s := { s with lock := { s.lock with opens := s.lock.opens + 1 } }
      lkAnswer p f rspCMP 0 l.val
        (updCoord l (fun _ => { state := .opened, id := s.lock.opens, port := p, timer := lkOpenEnd s }) s)

/-- LKSTAGE at the opening port (R241), its addresses filled: the cause of the ERR LOCKET it is answered with, if any, and what
becomes of the locket. ABORTING stands in no row of R241, and the answer there is conflict, as in the other states that are not OPEN.
DESIGN CHOICE (log entry 69). -/
def lkStage (p : Fin 96) (f : Flit) (s : State) : Option Nat × State :=
  let l : Fin 64 := Fin.ofNat 64 f.lkt.toNat
  let c := s.lock.coords[l]
  let n := popCount 4 f.lmask.toNat
  if c.port = p ∧ c.state = .aborted then (some c.cause, s)
  else if c.port ≠ p ∨ c.state ≠ .opened then (some 0, s)
  else if f.dstdev ≠ ownDev s ∧ s.time.state ≠ .synced then (some 3, lkAbort l 3 s)
  else if 1024 < c.lines + n then (some 1, lkAbort l 1 s)
  else
    (none, updCoord l (fun c =>
      { c with
        lines := c.lines + n
        staging := c.staging + 1
        locs := if f.dstdev = ownDev s then c.locs ||| (1 <<< channelOf f.dst.toNat) else c.locs
        remote := if f.dstdev = ownDev s then c.remote else c.remote ||| (1 <<< f.dstdev.toNat) }) s)

/-- T of an LKCOMMIT (R83). -/
def commitT (f : Flit) : BitVec 64 := BitVec.ofNat 64 (f.addr.toNat + nbits 11 0 f.rarg.toNat * 2 ^ 52)
def commitAsap (f : Flit) : Bool := f.rarg.getLsbD 12

/-- The abort cause of an LKCOMMIT at acceptance (R247). -/
def lkCommitCause (s : State) (c : Coord) (f : Flit) : Option Nat :=
  let t := (commitT f).toNat
  let now := ftimeNs s
  if !commitAsap f && (decide (t < now + 2 * lkGuardNs s + 2000) || (decide (c.remote ≠ 0) && decide (t < now + 20000))) then some 6
  else if c.remote ≠ 0 ∧ s.time.state ≠ .synced then some 3
  else none

/-- LKCOMMIT (R247, R248). DESIGN CHOICE (log entry 69). -/
def lkCommitReq (p : Fin 96) (s : State) : State :=
  match takePath p opLKCOMMIT s with
  | (none, s) => s
  | (some f, s) =>
    let l : Fin 64 := Fin.ofNat 64 f.lkt.toNat
    let c := s.lock.coords[l]
    let wait := updCoord l (fun c => { c with waits := c.waits ++ [f] }) s
    if c.state = .free ∨ c.port ≠ p then lkAnswer p f rspERR errLOCKET 0 s
    else
      match c.state with
      | .opened =>
        let s := updCoord l (fun c => { c with asap := commitAsap f, t := if commitAsap f then 0 else commitT f
                                               cls := f.cls, qos := f.qos }) wait
        match lkCommitCause s c f with
        | some x => lkAbort l x s
        | none =>
          let s := updCoord l (fun c => { c with state := .closing }) s
          if commitAsap f && (lkMissing s l).isEmpty then lkCommit l s else s
      | .aborted => lkFree l false (lkAbortAnswer l f s)
      | _ => wait

/-- The requester's LKABORT (R252). DESIGN CHOICE (log entry 69). -/
def lkAbortReq (p : Fin 96) (s : State) : State :=
  match takePath p opLKABORT s with
  | (none, s) => s
  | (some f, s) =>
    let l : Fin 64 := Fin.ofNat 64 f.lkt.toNat
    let c := s.lock.coords[l]
    let wait := updCoord l (fun c => { c with waits := c.waits ++ [f] }) s
    if c.state = .free ∨ c.port ≠ p then lkAnswer p f rspLKDONE 0 f.lkt.toNat s
    else
      match c.state with
      | .opened | .closing | .voting => lkAbort l 0 (updCoord l (fun c => { c with byAbort := true }) wait)
      | .aborted => lkFree l false (lkAbortAnswer l f s)
      | _ => wait

/-- The open timer expires (R240, R254). -/
def lkTimeout (l : Fin 64) (s : State) : State :=
  match s.lock.coords[l].state with
  | .opened => lkAbort l 2 (advanceTo s.lock.coords[l].timer s)
  | .aborted => lkFree l false (advanceTo s.lock.coords[l].timer s)
  | _ => s

/-- The oldest reported answer to an LKSTAGE (R248, R258). -/
def lkStageAnswer (s : State) : State :=
  match s.lock.reports with
  | [] => s
  | a :: r =>
    let l : Fin 64 := Fin.ofNat 64 a.lkt.toNat
    let s := { s with lock := { s.lock with reports := r } }
    if s.lock.coords[l].id ≠ a.id then s
    else
      let s := updCoord l (fun c => { c with staging := c.staging - b2n a.inj }) s
      match a.cause with
      | none => s
      | some x => if s.lock.coords[l].state = .voting then s else lkAbort l x s

/-- The fabric half of port p reports an answer to an LKSTAGE of locket f.lkt, opening id (R236). -/
def stageReport (lkt : BitVec 6) (id : Nat) (cause : Option Nat) (inj : Bool) (s : State) : State :=
  { s with lock := { s.lock with reports := s.lock.reports ++ [{ lkt := lkt, id := id, cause := cause, inj := inj }] } }

/-- An LKSTAGE that its own fabric half turned away with an ERR other than LOCKET: its port's locket aborts with participant lost
(R258). -/
def stageRefused (p : Fin 96) (f : Flit) (s : State) : State :=
  let c := s.lock.coords[(Fin.ofNat 64 f.lkt.toNat : Fin 64)]
  if f.net = .req ∧ f.opc.toNat = opLKSTAGE ∧ c.port = p ∧ c.state ≠ .free then stageReport f.lkt c.id (some 3) false s else s

/-- The vote deadline of R249, as a test of the present time. -/
def votePast (s : State) (c : Coord) : Bool :=
  if c.asap then decide (c.deadline < s.clk.cyc) else decide (c.t.toNat < ftimeNs s + lkGuardNs s)

/-- The prepares go out (R248). A locket with empty masks commits, at T unless ASAP (R247). -/
def lkPrepare (l : Fin 64) (s : State) : State :=
  let c := s.lock.coords[l]
  if c.state ≠ .closing ∨ c.staging ≠ 0 then s
  else
    let none' := (lkMissing s l).isEmpty
    let s := if c.asap then s else advanceToTime (if none' then c.t.toNat else c.t.toNat - 2 * lkGuardNs s) s
    if none' then lkCommit l s
    else
      let s := updCoord l (fun c => { c with state := .voting, votesL := 0, votesR := 0
                                             deadline := s.clk.cyc + cycNs (2 * lkGuardNs s) }) s
      forEach (lkMissing s l) (lkSendOne l opLKCOMMIT) s

/-- The vote deadline passes with a vote missing (R249, R250). -/
def lkDeadline (l : Fin 64) (s : State) : State :=
  let c := s.lock.coords[l]
  if c.state ≠ .voting then s
  else lkAbort l 3 (if c.asap then advanceTo c.deadline s else advanceToTime (c.t.toNat - lkGuardNs s) s)

/-! ### Votes and LKDONEs -/

/-- Take the oldest packet at the locket port that satisfies p. DESIGN CHOICE (log entry 85). -/
def takeInbox (p : Flit → Bool) (s : State) : Option Flit × State :=
  match s.lock.inbox.find? p with
  | none => (none, s)
  | some f => (some f, { s with lock := { s.lock with inbox := s.lock.inbox.eraseP p } })

/-- A packet for relay entry e carries 0x100 + e in TAG[9:0] (R237). -/
def relayTag (f : Flit) : Option (Fin 64) :=
  let t := nbits 9 0 f.tag.toNat
  if 0x100 ≤ t ∧ t < 0x140 then some (Fin.ofNat 64 (t - 0x100)) else none

def rspOpc (o : Nat) (f : Flit) : Bool := decide (f.net = .rsp ∧ f.opc.toNat = o)

/-- The participant that sent an LKVOTE or LKDONE: a HOME of this device by its port, another device by SRCDEV (R81). -/
def partOf (s : State) (f : Flit) : Part :=
  if f.srcdev = ownDev s then .chan (channelOf f.src.toNat) else .dev f.srcdev.toNat

/-- A HOME has answered relay entry e's decision; with all sixteen the relay answers LKDONE and frees the entry (R239). -/
def relayDone (e : Fin 64) (ch : Nat) (s : State) : State :=
  let s := updRelay e (fun r => { r with done := r.done ||| (1 <<< ch) }) s
  let r := s.lock.relays[e]
  if r.done = BitVec.allOnes 16 then updRelay e (fun _ => {}) (relayAnswer e rspLKDONE (at' (b2n r.commit) 6) s) else s

/-- Some channel of this device holds lines of the entry's locket (R262). -/
def relayHolds (s : State) (r : Relay) : Bool :=
  s.lock.staged.any fun x => decide (x.2.1 = r.dev.toNat ∧ x.2.2.1 = r.lkt.toNat ∧ 0 < x.2.2.2)

/-- An answer of a HOME names the entry's locket in ARG[5:0] (R81). -/
def relayNamed (r : Relay) (f : Flit) : Bool := decide (nbits 5 0 f.arg.toNat = r.lkt.toNat)

/-- A HOME's vote at relay entry e (R239, R249): with all sixteen in, the relay votes. A device that holds no line of the locket votes
ready and is in NONE again (R253). DESIGN CHOICE (log entry 69). -/
def relayVote (e : Fin 64) (f : Flit) (s : State) : State :=
  let r := s.lock.relays[e]
  let ch := channelOf f.src.toNat
  let ready := f.arg.getLsbD 6
  if !relayNamed r f then s
  else if r.state = .decided then (if ready && r.commit then relayDone e ch s else s)
  else if r.state ≠ .preparing then s
  else
    let first := decide (r.voted &&& ~~~ r.ready = 0)
    let s := updRelay e (fun r =>
      { r with
        voted := r.voted ||| (1 <<< ch)
        ready := if ready then r.ready ||| (1 <<< ch) else r.ready
        cause := if !ready && first then nbits 14 11 f.arg.toNat else r.cause }) s
    let r := s.lock.relays[e]
    if r.voted ≠ BitVec.allOnes 16 then s
    else if r.ready = BitVec.allOnes 16 then
      let s := relayAnswer e rspLKVOTE (at' 1 6) (updRelay e (fun r => { r with state := .ready }) s)
      if relayHolds s r then s else updRelay e (fun _ => {}) s
    else relayAnswer e rspLKVOTE (at' r.cause 11) (updRelay e (fun r => { r with state := .refused }) s)

/-- A vote at coordinator entry l (R250). -/
def coordVote (l : Fin 64) (f : Flit) (s : State) : State :=
  let c := s.lock.coords[l]
  let x := partOf s f
  if !isPart s l x then s
  else if c.state = .committed then (if f.arg.getLsbD 6 then lkFinish l (lkMark l x s) else s)
  else if c.state ≠ .voting then s
  else if votePast s c then lkAbort l 3 s
  else if !f.arg.getLsbD 6 then lkAbort l (nbits 14 11 f.arg.toNat) s
  else
    let s := updCoord l (fun c =>
      match x with
      | .chan n => { c with votesL := c.votesL ||| (1 <<< n) }
      | .dev n => { c with votesR := c.votesR ||| (1 <<< n) }) s
    let c := s.lock.coords[l]
    if c.votesL = c.locs ∧ c.votesR = c.remote then lkCommit l s else s

/-- The oldest LKVOTE at the locket port. DESIGN CHOICE (log entry 85). -/
def lkVote (s : State) : State :=
  match takeInbox (rspOpc rspLKVOTE) s with
  | (none, s) => s
  | (some f, s) =>
    match relayTag f with
    | some e => relayVote e f s
    | none => coordVote (Fin.ofNat 64 (nbits 5 0 f.tag.toNat)) f s

/-- The oldest LKDONE at the locket port (R252). DESIGN CHOICE (log entry 85). -/
def lkDone (s : State) : State :=
  match takeInbox (rspOpc rspLKDONE) s with
  | (none, s) => s
  | (some f, s) =>
    match relayTag f with
    | some e => if s.lock.relays[e].state = .decided && relayNamed s.lock.relays[e] f then relayDone e (channelOf f.src.toNat) s else s
    | none =>
      let l : Fin 64 := Fin.ofNat 64 (nbits 5 0 f.tag.toNat)
      let c := s.lock.coords[l]
      if c.state = .committed ∨ c.state = .aborting then
        (if isPart s l (partOf s f) then lkFinish l (lkMark l (partOf s f) s) else s)
      else s

/-- A decision or LKABORT without an answer for 50 us goes out again, from coordinator entry l and from relay entry l (R252). -/
def lkResend (l : Fin 64) (s : State) : State :=
  let c := s.lock.coords[l]
  let s :=
    if c.state = .committed ∨ c.state = .aborting then
      let s := advanceTo c.resendAt s
      let s := forEach (lkMissing s l) (lkSendOne l (if c.state = .committed then opLKCOMMIT else opLKABORT)) s
      updCoord l (fun c => { c with resendAt := s.clk.cyc + cycUs 50 }) s
    else s
  let r := s.lock.relays[l]
  if r.state = .decided then
    let s := advanceTo r.resendAt s
    let s := relaySend l (if r.commit then opLKCOMMIT else opLKABORT) s
    updRelay l (fun r => { r with resendAt := s.clk.cyc + cycUs 50 }) s
  else s

/-- The fabric cannot reach participant x now. -/
def partCut (s : State) (x : Part) : Bool :=
  match x with
  | .chan c => s.tiles[tileF (portTile (homePort c))].isolated
  | .dev d => (trExit s s.epoch.active d).isNone

/-- The participant that an ERR answers, where the answer shows it: another device by SRCDEV, a HOME of this device by SRC. An answer
that a router of this device made (R481) shows none: the first unanswered participant that the fabric cannot reach, else the first
unanswered one. DESIGN CHOICE (log entry 69). -/
def errPart (s : State) (l : Fin 64) (f : Flit) : Option Part :=
  if f.srcdev ≠ ownDev s then some (.dev f.srcdev.toNat)
  else if isHome f.src.toNat then some (.chan (channelOf f.src.toNat))
  else
    match (lkMissing s l).find? (partCut s) with
    | some x => some x
    | none => (lkMissing s l).head?

/-- A packet of the coordinator was answered ERR NOROUTE or ERR FENCED (R239, R257): a relay whose packet went to 22 is tried at port 70
first. -/
def lkErr (f : Flit) (s : State) : State :=
  let l : Fin 64 := Fin.ofNat 64 (nbits 5 0 f.tag.toNat)
  match errPart s l f with
  | none => s
  | some (.dev d) =>
    let tried := s.lock.coords[l].try70.getLsbD d
    if tried && decide (f.src.toNat = 22) then s
    else if tried then lkPartLost (.dev d) l s
    else
      let s := if f.sub.toNat = errNOROUTE then { s with lock := { s.lock with alt70 := s.lock.alt70 ||| (1 <<< d) } } else s
      let s := updCoord l (fun c => { c with try70 := c.try70 ||| (1 <<< d) }) s
      if isPart s l (.dev d) then
        match s.lock.coords[l].state with
        | .voting | .committed => lkSendOne l opLKCOMMIT (.dev d) s
        | .aborting => lkSendOne l opLKABORT (.dev d) s
        | _ => s
      else s
  | some x => lkPartLost x l s

/-! ### Relay -/

/-- The entry of a coordinator's locket. -/
def relayOf (s : State) (dev : BitVec 5) (lkt : BitVec 6) : Option (Fin 64) :=
  allLkts.find? fun e => s.lock.relays[e].state ≠ .free && s.lock.relays[e].dev = dev && s.lock.relays[e].lkt = lkt

/-- The lowest free entry. DESIGN CHOICE (log entry 9). -/
def relayFree (s : State) : Option (Fin 64) := allLkts.find? fun e => s.lock.relays[e].state = .free

/-- Settle entry e: the decision goes to all sixteen HOMEs. -/
def relayDecide (e : Fin 64) (commit : Bool) (s : State) : State :=
  let s := updRelay e (fun r => { r with state := .decided, commit := commit, done := 0, resendAt := s.clk.cyc + cycUs 50 }) s
  relaySend e (if commit then opLKCOMMIT else opLKABORT) s

/-- A prepare or decision at the relay. -/
def relayCommit (f : Flit) (s : State) : State :=
  match relayOf s f.srcdev f.lkt with
  | some e =>
    let s' := updRelay e (fun r => { r with req := f }) s
    match s.lock.relays[e].state with
    | .ready | .inDoubt => relayDecide e true s'
    | .refused => relayAnswer e rspLKVOTE (at' s.lock.relays[e].cause 11) s'
    | .decided => s'
    | _ => s
  | none =>
    match relayFree s with
    | none =>
      let p := locketPort s
      lockSend p (answerTo f p.val (ownDev s) rspLKVOTE 0 (at' 1 11 + f.lkt.toNat)) s
    | some e =>
      let s := updRelay e (fun _ =>
        { state := .preparing, dev := f.srcdev, lkt := f.lkt, asap := commitAsap f
          t := if commitAsap f then 0 else commitT f, req := f }) s
      relaySend e opLKCOMMIT s

/-- An LKABORT at the relay, which has an entry for it or a free one (R252). -/
def relayAbort (f : Flit) (s : State) : State :=
  match relayOf s f.srcdev f.lkt with
  | some e =>
    let s' := updRelay e (fun r => { r with req := f }) s
    if s.lock.relays[e].state = .decided then s' else relayDecide e false s'
  | none =>
    match relayFree s with
    | none => s
    | some e => relayDecide e false (updRelay e (fun _ => { dev := f.srcdev, lkt := f.lkt, req := f }) s)

/-- A remote REQ that the relay can take: an LKABORT that finds neither an entry of its locket nor a free one waits for one, since every
LKABORT is answered (R252). DESIGN CHOICE (log entry 69). -/
def relayCan (s : State) (f : Flit) : Bool :=
  decide (f.net = .req) &&
    (decide (f.opc.toNat = opLKCOMMIT) || (relayOf s f.srcdev f.lkt).isSome || (relayFree s).isSome)

/-- The oldest remote LKCOMMIT or LKABORT at the locket port (R239). DESIGN CHOICE (log entry 85). -/
def relayTake (s : State) : State :=
  match takeInbox (relayCan s) s with
  | (none, s) => s
  | (some f, s) => if f.opc.toNat = opLKCOMMIT then relayCommit f s else relayAbort f s

/-- RESOLVE (R259): in IN_DOUBT only. -/
def relayResolveDo (e : Fin 64) (commit : Bool) (s : State) : State :=
  if s.lock.relays[e].state = .inDoubt then relayDecide e commit s else s

/-- A coordinator's device became unreachable (R259). -/
def relayDevLost (d : Nat) (e : Fin 64) (s : State) : State :=
  let r := s.lock.relays[e]
  if r.dev.toNat ≠ d then s
  else
    match r.state with
    | .preparing | .refused => updRelay e (fun _ => {}) (relaySend e opLKABORT s)
    | .ready => updRelay e (fun r => { r with state := .inDoubt }) s
    | _ => s

/-- Device d became unreachable (R257, R259). -/
def lkDeviceLost (d : Nat) (s : State) : State :=
  forEach allLkts (relayDevLost d) (forEach allLkts (lkPartLost (.dev d)) s)

/-! ### HOMEs (R251, R260, R262) -/

/-- The locket a HOME's answer belongs to: coordinator device and LKT, by the packet delivered with its TAG (R262). -/
def homeLocket (s : State) (p : Fin 96) (f : Flit) : BitVec 5 × BitVec 6 :=
  let lkt := BitVec.ofNat 6 f.arg.toNat
  match s.ports[p].lkSeen.find? fun x => decide (x.tag = f.tag ∧ x.lkt = lkt) with
  | some x => (x.dev, lkt)
  | none => (f.dstdev, lkt)

/-- The packets delivered, without those of one locket. -/
def seenDrop (dev : BitVec 5) (lkt : BitVec 6) (l : List LkSeen) : List LkSeen := l.filter fun x => !decide (x.dev = dev ∧ x.lkt = lkt)

/-- The HOME voted ready on this very LKCOMMIT, which is then the decision (R250, R251). -/
def isDecision (f : Flit) (x : LkSeen) : Bool :=
  x.voted && !x.final && decide (x.dev = f.srcdev ∧ x.lkt = f.lkt ∧ x.t = commitT f)

/-- An LKCOMMIT or LKABORT is delivered to the HOME. -/
def seenAdd (f : Flit) (l : List LkSeen) : List LkSeen :=
  { dev := f.srcdev, lkt := f.lkt, t := if f.opc.toNat = opLKCOMMIT then commitT f else 0, tag := f.tag
    final := decide (f.opc.toNat = opLKABORT) || l.any (isDecision f) } :: seenDrop f.srcdev f.lkt l

/-- Staged lines of a channel (R262). -/
def stagedOf (s : State) (ch : Nat) : Nat :=
  ((s.lock.staged.filter fun x => x.1 = ch).map fun x => x.2.2.2).sum

/-- Add staged lines of a locket at a channel. -/
def stagedAdd (ch dev lkt n : Nat) (s : State) : State :=
  let hit := fun (x : Nat × Nat × Nat × Nat) => decide (x.1 = ch ∧ x.2.1 = dev ∧ x.2.2.1 = lkt)
  let old := ((s.lock.staged.filter hit).map fun x => x.2.2.2).sum
  { s with lock := { s.lock with staged := (ch, dev, lkt, old + n) :: s.lock.staged.filter (fun x => !hit x) } }

/-- The locket is closed at a channel. -/
def stagedDrop (ch dev lkt : Nat) (s : State) : State :=
  { s with lock := { s.lock with staged := s.lock.staged.filter (fun x => !decide (x.1 = ch ∧ x.2.1 = dev ∧ x.2.2.1 = lkt)) } }

/-- What a HOME's fabric half records of the locket answers its unit offers: a ready vote, a closed locket, staged lines. -/
def homeNote (p : Fin 96) (f : Flit) (s : State) : State :=
  if !isHome p.val || f.net ≠ .rsp then s
  else if f.opc.toNat = rspLKVOTE then
    let k := homeLocket s p f
    let vote := fun (x : LkSeen) => if x.dev = k.1 ∧ x.lkt = k.2 then { x with voted := true } else x
    updPort p (fun x =>
      if f.arg.getLsbD 6 && !x.lkSeen.any fun y => y.final && decide (y.dev = k.1 ∧ y.lkt = k.2) then
        { x with lkSeen := x.lkSeen.map vote }
      else { x with lkSeen := seenDrop k.1 k.2 x.lkSeen }) s
  else if f.opc.toNat = rspLKDONE then
    let k := homeLocket s p f
    stagedDrop (channelOf p.val) k.1.toNat k.2.toNat (updPort p (fun x => { x with lkSeen := seenDrop k.1 k.2 x.lkSeen }) s)
  else
    match s.ports[p].stageIn.find? fun g => g.src = f.dst && g.srcdev = f.dstdev && g.tag = f.tag with
    | none => s
    | some g =>
      let s := updPort p (fun x => { x with stageIn := x.stageIn.erase g }) s
      if f.opc.toNat = rspCMP then stagedAdd (channelOf p.val) g.srcdev.toNat g.lkt.toNat (popCount 4 g.lmask.toNat) s else s

/-- How far the copy of FTIME at a port's tile is off the ring (R141). -/
def portOff (s : State) (p : Fin 96) : Int := s.tiles[tileF (portTile p.val)].timeOff

/-- A decision for a locket this HOME voted ready for, with a time still ahead by its tile's copy of FTIME, is held (R149, R251).
DESIGN CHOICE (log entry 69). -/
def isHeld (s : State) (p : Fin 96) (f : Flit) : Bool :=
  isHome p.val && decide (f.net = .req ∧ f.opc.toNat = opLKCOMMIT) && s.ports[p].lkSeen.any (isDecision f) &&
    !commitAsap f && decide ((ftimeNs s : Int) + portOff s p < (commitT f).toNat) && decide (s.ms.mode ≠ .drain)

/-- A decision reaches its HOME. -/
def decisionOut (p : Fin 96) (f : Flit) (s : State) : State :=
  toUnit p f (updPort p (fun x => { x with lkSeen := seenAdd f x.lkSeen }) s)

/-- The held decision of a HOME that is due first. -/
def nextDecision (s : State) (p : Fin 96) : Option Flit :=
  let l := s.ports[p].heldDec
  l.find? fun f => l.all fun g => decide ((commitT f).toNat ≤ (commitT g).toNat)

/-- The TBCLK cycle of a commit's launch and its place in that cycle (R154), as one number. -/
def commitKey (s : State) (p : Fin 96) (f : Flit) : Nat := 16 * tbReach s (portOff s p) (commitT f).toNat + 4

/-- The keys of the commits that their HOMEs can take. -/
def commitKeys (s : State) : List Nat :=
  (List.finRange 96).filterMap fun p =>
    (nextDecision s p).bind fun f => if ejCredit s p .req f.cls = 0 then none else some (commitKey s p f)

/-- Locket rules at DRAIN entry (R260, points 1 to 3). -/
def lkDrain (s : State) : State :=
  let s := forEach allLkts (fun l => lkAbort l 5) s
  let s := forEach ((List.finRange 96).filter fun p => isHome p.val) (fun p s =>
    forEach s.ports[p].heldDec (decisionOut p) (updPort p (fun x => { x with heldDec := [] }) s)) s
  forEach (allLkts.filter fun e => s.lock.relays[e].state = .inDoubt) (fun e s =>
    regSetBit 0x4808 33 (relayDecide e false s)) s

/-- Lockets of which the HOME at p is in VOTED: it has voted ready, and holds lines (R253). -/
def votedAt (s : State) (p : Fin 96) : List LkSeen :=
  s.ports[p].lkSeen.filter fun x => x.voted && !x.final &&
    s.lock.staged.any fun y => decide (y.1 = channelOf p.val ∧ y.2.1 = x.dev.toNat ∧ y.2.2.1 = x.lkt.toNat ∧ 0 < y.2.2.2)

/-- Voted HOMEs and READY relay entries abort 16 us after DRAIN entry (R260, point 3). DEDUCED (log entry 37). -/
def lkDoubt (s : State) : State :=
  let homes := (List.finRange 96).filter fun p => isHome p.val && !(votedAt s p).isEmpty
  let rel := allLkts.filter fun e => s.lock.relays[e].state = .ready
  let s' := if homes.isEmpty && rel.isEmpty then s else regSetBit 0x4808 33 s
  let s' := forEach homes (fun p s =>
    forEach (votedAt s p) (fun k => stagedDrop (channelOf p.val) k.dev.toNat k.lkt.toNat)
      (updPort p (fun x => { x with lkSeen := [] }) s)) s'
  forEach rel (fun e => updRelay e (fun _ => {})) s'

/-- A C, F or P reset, or KEEP, ends every locket (R255). -/
def lkClear (s : State) : State := { s with lock := {} }

/-! ### Registers (R262, R263) -/

def lkStateNum (c : LkState) : Nat :=
  match c with
  | .free => 0 | .opened => 1 | .closing => 2 | .voting => 3 | .committed => 4 | .aborting => 5 | .aborted => 6
def rlStateNum (r : RlState) : Nat :=
  match r with
  | .free => 0 | .preparing => 1 | .ready => 2 | .refused => 3 | .decided => 4 | .inDoubt => 5

def lkOpenWord (s : State) : Nat := (allLkts.map fun l => if s.lock.coords[l].state ≠ .free then 2 ^ l.val else 0).sum

/-- LK_STAT. -/
def lkStatWord (s : State) : Nat :=
  let ch := (List.range 16).map (stagedOf s)
  let mx := ch.foldl max 0
  let top := (ch.findIdx? (· = mx)).getD 0
  at' (popCount 64 (lkOpenWord s)) 34 + at' (regFld s 0x4808 33 33) 33 +
    at' (b2n (allLkts.any fun e => s.lock.relays[e].state = .inDoubt)) 32 + at' top 28 + at' (min mx 0xFFF) 16 +
    min ch.sum 0xFFFF

/-- Word j of coordinator entry l. -/
def coordWord (s : State) (l : Fin 64) (j : Nat) : Nat :=
  let c := s.lock.coords[l]
  match j with
  | 0 => at' (min c.lines 1024) 16 + at' c.cause 12 + at' (b2n c.lostAfter) 11 + at' (b2n c.asap) 10 + at' c.port.val 3 +
      lkStateNum c.state
  | 1 => at' c.remote.toNat 32 + c.locs.toNat
  | 2 => at' c.votesR.toNat 32 + c.votesL.toNat
  | 3 => c.t.toNat
  | _ => 0

/-- Word j of relay entry e. -/
def relayWord (s : State) (e : Fin 64) (j : Nat) : Nat :=
  let r := s.lock.relays[e]
  match j with
  | 0 => at' r.dev.toNat 16 + at' r.lkt.toNat 8 + rlStateNum r.state
  | 1 => r.ready.toNat
  | 2 => r.t.toNat
  | _ => 0

end Sys2Proof.Machine
end

