-- ==== Sys2Proof/Machine/FaultCore.lean ====
section
/-! DEFINITION. What a fault event records (R419 to R425, R432, R436): leaf bit, injection matching, shadow, window and severity. The
reactions stand in Machine/Faults.lean. -/

namespace Sys2Proof.Machine

/-- Fault sources by index (R419). -/
def srcEccCor : Fin 15 := 0
def srcEccUnc : Fin 15 := 1
def srcParity : Fin 15 := 2
def srcCredit : Fin 15 := 3
def srcRouteMiss : Fin 15 := 4
def srcEpoch : Fin 15 := 5
def srcIntrusion : Fin 15 := 6
def srcPortTo : Fin 15 := 7
def srcCrc : Fin 15 := 8
def srcReplay : Fin 15 := 9
def srcLos : Fin 15 := 10
def srcFom : Fin 15 := 11
def srcTime : Fin 15 := 12
def srcStaging : Fin 15 := 13
def srcMatrix : Fin 15 := 14

/-- Where an event is found (R419). -/
inductive Place where
  /-- A router, at one of its inputs or not. -/
  | router (t : Fin 48) (net : Net) (inp : Option RPort)
  /-- A tile outside its routers. -/
  | tile (t : Fin 48)
  /-- A fabric half. -/
  | port (p : Fin 96)
  /-- Lanes or link layer of a strand. -/
  | strand (n : Fin 10)
  | global
deriving DecidableEq, Repr

/-- The domain that counts the event. -/
def domOf (x : Place) : Domain :=
  match x with
  | .router t _ _ => .tile t
  | .tile t => .tile t
  | .port p => match strandOf p.val with | some n => .strand n | none => .port p
  | .strand n => .strand n
  | .global => .global

/-- The leaf register (R422). -/
def leafOff (x : Place) : Nat :=
  match x with
  | .router t n _ => rtrPage t.val n + 0x808
  | .tile t => tilePage t.val + 0x804
  | .port p => match strandOf p.val with | some n => slPage n.val 0 + 0x810 | none => portPage p.val + 0x808
  | .strand n => slPage n.val 0 + 0x810
  | .global => 0x3800

def getDom (s : State) (d : Domain) : DomSt :=
  match d with
  | .tile t => s.flt.tiles[t]
  | .strand n => s.flt.strands[n]
  | .port p => s.flt.ports[p]
  | .global => s.flt.global

def updDom (d : Domain) (f : DomSt → DomSt) (s : State) : State :=
  { s with flt :=
      match d with
      | .tile t => { s.flt with tiles := s.flt.tiles.set t (f s.flt.tiles[t]) }
      | .strand n => { s.flt with strands := s.flt.strands.set n (f s.flt.strands[n]) }
      | .port p => { s.flt with ports := s.flt.ports.set p (f s.flt.ports[p]) }
      | .global => { s.flt with global := f s.flt.global } }

/-- The tile a strand's port lies on. -/
def strandTile (n : Nat) : Nat := portTile (strandPort n)

/-- The bit of a domain in FLT_FAULTED and FLT_TAINT (R438). -/
def domBit (d : Domain) : Nat :=
  match d with
  | .tile t => t.val
  | .strand n => 48 + n.val
  | .port p => portTile p.val
  | .global => 58

/-! ### Shadows (R432) -/

/-- The link that tile t's reaction removed, where the tile itself is not isolated. -/
def linkOnly (s : State) (t : Nat) : Option (Nat × Net) :=
  if s.tiles[tileF t].isolated then none else s.tiles[tileF t].linkOut

/-- The shadow of tile t's reaction covers source `src` at place x. -/
def tileShadow (s : State) (t : Nat) (x : Place) (src : Nat) : Bool :=
  match x with
  | .router _ _ inp =>
    decide (src = 5 ∨ src = 6) ||
      (decide (src ≤ 3) &&
        match linkOnly s t, x, inp with
        | some (l, n), .router u m _, some r => decide (n = m) && decide (linkNum u.val r = some l)
        | none, .router u _ _, some r => decide (neighbour u.val r = some t)
        | _, _, _ => false)
  | .tile _ => false
  | .port p => decide (src = 7) ||
      (match strandOf p.val with
       | some n => (linkOnly s t).isNone && decide (strandTile n.val = t) && (decide (src ≤ 3) || decide (8 ≤ src ∧ src ≤ 11))
       | none => false)
  | .strand n => (linkOnly s t).isNone && decide (strandTile n.val = t) && (decide (src ≤ 3) || decide (8 ≤ src ∧ src ≤ 11))
  | .global => (linkOnly s t).isNone && decide (src = 12)

/-- The shadow of a port's reaction. -/
def portShadow (p : Nat) (x : Place) (src : Nat) : Bool :=
  match x with
  | .router u _ _ => decide (src = 3 ∧ u.val = portTile p)
  | .port _ => decide (src = 7)
  | _ => false

/-- The detector is in some shadow. -/
def shadowed (s : State) (x : Place) (src : Nat) : Bool :=
  ((List.finRange 48).any fun t => s.flt.tiles[t].shadow && tileShadow s t.val x src) ||
    ((List.finRange 10).any fun n => s.flt.strands[n].shadow && decide (x = .global ∧ src = 12)) ||
    ((List.finRange 96).any fun p => s.flt.ports[p].shadow && portShadow p.val x src)

/-- A strand or port whose tile is isolated is not made FAULTED (R429). -/
def onIsolated (s : State) (d : Domain) : Bool :=
  match d with
  | .strand n => s.tiles[tileF (strandTile n.val)].isolated
  | .port p => s.tiles[tileF (portTile p.val)].isolated
  | _ => false

/-! ### Injection matching (R436) -/

/-- Match an event of src in d with the first injection that expects one; with none left, an event under injection taints d.
DEDUCED (log entry 73). -/
def injMatch (d : Domain) (src : Fin 15) (s : State) : State :=
  let here := fun (i : Inj) => decide (i.dom = some d) && decide (i.src = src) && decide (i.kind ≠ 4)
  if !s.flt.injs.any here then s
  else
    match s.flt.injs.findIdx? fun i => here i && decide (0 < i.expect) with
    | some k =>
      { s with flt := { s.flt with injs := s.flt.injs.modify k (fun i => { i with expect := i.expect - 1 }) } }
    | none => regSetBit 0x3818 (domBit d) s

/-! ### Windows (R424, R425) -/

/-- What an event did. -/
structure Verdict where
  severe   : Bool
  confined : Option (RPort × Net)
deriving DecidableEq, Repr

/-- The mesh input of an event, for link confinement: none at an L input and elsewhere (R425). -/
def meshInp (x : Place) : Option (RPort × Net) :=
  match x with
  | .router _ n (some r) => match r with | .l0 | .l1 => none | _ => some (r, n)
  | _ => none

/-- Count an event toward severity. A window whose end has passed is closed. DEDUCED (log entry 74). -/
def fltCount (x : Place) (src : Fin 15) (s : State) : Verdict × State :=
  let d := domOf x
  let ws := (getDom s d).wins.filter fun w => !decide (w.src = src ∧ w.endAt ≤ s.clk.cyc)
  let inp := meshInp x
  let w : Win := match ws.find? fun w => w.src = src with
    | some w => { w with c := w.c + 1, confined := w.confined && decide (w.inp = inp) }
    | none => { src := src, c := 1, endAt := s.clk.cyc + cycUs (fltW s src.val), inp := inp, confined := inp.isSome }
  let rest := ws.filter fun w => w.src ≠ src
  if fltN s src.val ≤ w.c then
    ({ severe := fltSev s src.val
       confined := if w.confined && decide (src.val ≤ 3 ∧ src.val ≠ 2) then w.inp else none },
     updDom d (fun y => { y with wins := rest }) s)
  else (⟨false, none⟩, updDom d (fun y => { y with wins := w :: rest }) s)

/-- An event of source src at place x (R423, R424, R429, R432, R436). DEDUCED (log entry 74). -/
def fltNote (x : Place) (src : Fin 15) (s : State) : Verdict × State :=
  let d := domOf x
  let s := injMatch d src (regSetBit (leafOff x) src.val s)
  if shadowed s x src.val || onIsolated s d then (⟨false, none⟩, count conseqOff s)
  else fltCount x src s

/-- The quiet period in cycles. -/
def quietCyc (s : State) : Nat := cycUs (fltQuietUs s)

/-- Quiet timers hold in DRAIN and KEEP (R428). -/
def quietHeld (s : State) : Bool := decide (s.ms.mode = .drain ∨ s.ms.mode = .keep)

/-- The quiet timer of d starts afresh. DEDUCED (log entry 74). -/
def quietStart (d : Domain) (s : State) : State :=
  updDom d (fun y => { y with quietAt := s.clk.cyc + quietCyc s
                              quietLeft := if quietHeld s then some (quietCyc s) else none }) s

/-- A severe event in the global domain: FAULTED, with no reaction, complete at once (R426, R427). -/
def globalSevere (s : State) : State :=
  match s.flt.global.st with
  | .inn => quietStart .global (updDom .global (fun y => { y with st := .faulted, done := true, doneAt := s.clk.cyc }) s)
  | .faulted => quietStart .global s
  | .retired => s

/-- An event of the global domain. -/
def fltGlobal (src : Fin 15) (s : State) : State :=
  let (v, s) := fltNote .global src s
  if v.severe then globalSevere s else s

/-- Domain numbers as FLT_ACK names them (R437); a port must be an attach port that is no strand port. -/
def domNamed (kind inst : Nat) : Option Domain :=
  match kind with
  | 0 => if h : inst < 48 then some (.tile ⟨inst, h⟩) else none
  | 1 => if h : inst < 10 then some (.strand ⟨inst, h⟩) else none
  | 2 => if h : inst < 96 then (if usedPort inst && !isStrandPort inst then some (.port ⟨inst, h⟩) else none) else none
  | 3 => if inst = 0 then some .global else none
  | _ => none

/-- The domains (R426). -/
def allDomains : List Domain :=
  (List.finRange 48).map Domain.tile ++ (List.finRange 10).map Domain.strand ++
    (((List.finRange 96).filter fun p => usedPort p.val && !isStrandPort p.val).map Domain.port) ++ [.global]

/-- fab_flt_irq (R431). -/
def fltIrq (s : State) : Bool :=
  (allDomains.any fun d => decide ((getDom s d).st ≠ .inn)) || decide (regGet s 0x3818 ≠ 0)

end Sys2Proof.Machine
end

