-- ==== Sys2Proof/Machine/TimeSync.lean ====
section
/-! DEFINITION. Time across a pool (R138 to R148, R158, R159) and what the time block does at an exchange. -/

namespace Sys2Proof.Machine

def syncEn (s : State) : Bool := regFld s 0x1040 4 4 = 1

/-- Own time in 1/256 ns, as captured for an exchange (R335). -/
def timeCap (s : State) : Nat := s.clk.ftime / 256

/-! ### Parent strand (R143) -/

/-- The serial of the partner on a strand, from its last HELLO. -/
def partnerSerial (s : State) (n : Fin 10) : Option (BitVec 64) := s.strands[n].lnk.hello.map (·.serial)

/-- The strand's session is UP and its partner reports SYNCED (R143). -/
def timeOk (s : State) (n : Fin 10) : Bool := decide (s.strands[n].lnk.link = .up) && s.strands[n].lnk.pSync

/-- The parent strand: the tree parent's strand, else the lowest other strand that leads to the same partner. DESIGN CHOICE (log entry 20). -/
def parentStrand (s : State) : Option (Fin 10) :=
  match s.pool.parent with
  | none => none
  | some p =>
    if s.pool.root then none
    else if timeOk s p then some p
    else (List.finRange 10).find? fun n => timeOk s n && (partnerSerial s n).isSome && decide (partnerSerial s n = partnerSerial s p)

/-- The device has a parent strand that carries exchanges: a parent strand at rest steers no time (R312). -/
def parentAwake (s : State) : Bool :=
  match s.time.parent with | some p => decide (s.strands[p].phy.pwr = .active) | none => false

/-- The lowest strand whose partner advertises another root than this device (R159). -/
def foreignStrand (s : State) : Option (Fin 10) :=
  (List.finRange 10).find? fun n =>
    decide (s.strands[n].lnk.link = .up) &&
      (match s.strands[n].lnk.hello with | some h => decide (h.rootSerial ≠ s.ident.serial) | none => false)

/-! ### State changes (R145) -/

def setTrim (i : Int) (s : State) : State := { s with clk := { s.clk with trim := i } }

/-- The device moves to LOCAL: cross-device hallmarks are discarded with cause SYNC. -/
def timeLocal (s : State) : State :=
  hmDiscardXdev (setTrim 0 { s with time := { s.time with
    state := .loc, holdover := false, lossRun := 0, integ := 0, root := false, forward := false, step := none } })

/-- A time-sync-loss event (R145, R419). -/
def timeLoss (s : State) : State := fltGlobal srcTime (timeLocal s)

/-- The device reports SYNCED as root (R159). DEDUCED (log entry 35). -/
def timeRoot (s : State) : State :=
  setTrim 0 { s with time := { s.time with state := .synced, holdover := false, lossRun := 0, integ := 0, root := true
                                           forward := false, step := none } }

/-- Holdover begins (R145). -/
def holdBegin (s : State) : State :=
  { s with time := { s.time with holdover := true, holdEnd := s.clk.cyc + cycUs (servoHoldoverUs s) } }

/-- A root that has to take no partner's time forward, or is not yet asked to make the step, reports SYNCED (R159). -/
def rootRefresh (s : State) : State :=
  if s.time.root ∨ (s.time.forward ∧ s.time.step.isSome) then s
  else
    let s := setTrim 0 { s with time := { s.time with holdover := false, step := none } }
    if (foreignStrand s).isSome then { s with time := { s.time with forward := true } } else timeRoot s

/-- A device that is not root (R140, R145, R312): it loses a step that no parent stands behind, holds over without a parent strand, and
has TRIM 0 while its parent strand runs in CR clocking. -/
def childRefresh (s : State) : State :=
  let was := s.time.root
  let lost := s.time.forward || s.time.parent.isNone
  let s := { s with time := { s.time with root := false, forward := false, step := if lost then none else s.time.step } }
  if s.time.state ≠ .synced then s
  else if was then holdBegin (setTrim 0 s)
  else
    let s := match s.time.parent with
      | some p => if s.strands[p].phy.crAgreed then setTrim 0 s else s
      | none => s
    if !parentAwake s && !s.time.holdover then holdBegin s else s

/-- The time block follows the pool agent's root and parent (R143, R145, R159); SYNC_EN = 0 leaves the device LOCAL (R148). -/
def timeRefresh (s : State) : State :=
  let s := { s with time := { s.time with parent := parentStrand s } }
  if s.time.state = .unsynced ∨ !syncEn s then s
  else if s.pool.root then rootRefresh s
  else childRefresh s

/-- UNSYNCED to LOCAL (R145): FTIME counts from 0, or from the seed of R158. DEDUCED (log entry 35). -/
def timeStart (s : State) : State :=
  if s.time.state ≠ .unsynced ∨ !s.clk.rpll then s
  else
    let t := s.time.seed.getD 0
    setSlots { s with clk := { s.clk with ftime := t * 65536, trim := 0 }, time := { s.time with state := .loc, seed := none } }

/-- SYNC_EN cleared (R148): LOCAL with no loss event, and no step or alignment goes on. -/
def syncOff (s : State) : State :=
  if s.time.state = .synced then timeLocal s else { s with time := { s.time with step := none, forward := false } }

/-! ### Steps (R142, R147) -/

/-- A pending step waits for empty bead banks (R147); a bank under GT_HOLD counts as empty (R396). -/
def stepWait (s : State) : Bool :=
  s.time.step.isSome && !s.ms.gtHold && isRunning s.ms.mode && !(beadEntries s s.epoch.beadActive).isEmpty

/-- Make a pending step at the next frame boundary. -/
def timeStepDo (s : State) : State :=
  match s.time.step with
  | none => s
  | some d =>
    if stepWait s || !syncEn s then s
    else
      let s := advanceToFrame s
      let f := ((s.clk.ftime : Int) + d * 256).toNat % 2 ^ 80
      let s := setSlots { s with
        clk := { s.clk with ftime := f, trim := 0 }
        time := { s.time with step := none, steps := s.time.steps + 1, integ := 0, lossRun := 0 } }
      let s := hmDiscardAll 0x1 s
      if s.time.forward then timeRoot s
      else { s with time := { s.time with state := .synced, holdover := false } }

/-! ### Exchanges (R144, R146) -/

/-- L of R334 from a one-way delay in 1/256 ns. -/
def gtLatency (n : Nat) (delay : Int) : Nat := (if 8 ≤ n then 96 else 64) + ((2 * delay + 255) / 256).toNat

/-- A completed exchange of the session: the delay is known, and the first one sets GT_LAT (R334, R336). -/
def exchangeDone (n : Fin 10) (delay : Int) (s : State) : State :=
  updLnk n (fun x =>
    { x with
      delay16 := some ((delay / 16).toNat % 2 ^ 16)
      gtLat := if x.gtLat = 0 then gtLatency n.val delay else x.gtLat }) s

/-- TRIM after a parent exchange in IR clocking (R146); off is in 1/256 ns, and p is floored to a whole trim unit. DESIGN CHOICE
(log entry 89). -/
def servo (off : Int) (s : State) : State :=
  let clamp := fun (x : Int) => if x > 32 then 32 else if x < -32 then -32 else x
  let p := off / 64
  let integ := clamp (s.time.integ + p / (2 ^ servoKi s : Nat))
  setTrim (clamp (-(p / (2 ^ servoKp s : Nat) + integ))) { s with time := { s.time with integ := integ } }

/-- The partner's time is `ahead` of this new root's, in 1/256 ns (R159). -/
def forwardAlign (ahead : Int) (s : State) : State :=
  if 0 < ahead then { s with time := { s.time with step := some ahead } } else timeRoot s

/-- A complete exchange at the lower end (R144, R145): delay and offset in 1/256 ns. -/
def lowerExchange (n : Fin 10) (delay off : Int) (s : State) : State :=
  let s := exchangeDone n delay s
  if s.time.forward && decide (foreignStrand s = some n) then forwardAlign (-off) s
  else if s.time.parent ≠ some n ∨ s.pool.root ∨ !syncEn s then s
  else
    let s := { s with time := { s.time with delay := delay, offset := off } }
    let within := decide (off.natAbs ≤ 256 * servoLossThr s)
    match s.time.state with
    | .unsynced => s
    | .loc => { s with time := { s.time with step := some (-off) } }
    | .synced =>
      let run := if within then 0 else s.time.lossRun + 1
      if 4 ≤ run ∨ (s.time.holdover ∧ !within) then timeLoss s
      else
        let s := { s with time := { s.time with holdover := false, lossRun := run } }
        if s.strands[n].phy.crAgreed then setTrim 0 s else servo off s

/-- The holdover timer expires (R145). -/
def holdoverExpireDo (s : State) : State :=
  if s.time.state = .synced && s.time.holdover then timeLoss (advanceTo s.time.holdEnd s) else s

/-- The next FTIME that is a multiple of m ns. -/
def nextMultiple (s : State) (m : Nat) : Nat := (ftimeNs s + m - 1) / m * m

/-! ### Registers (R140, R148) -/

def ftimeFracWord (s : State) : Nat :=
  at' (s.clk.fphase % 64) 32 + at' (satSigned 16 s.clk.trim) 16 + s.clk.ftime % 65536

def timeStateNum (t : TimeState) : Nat := match t with | .unsynced => 0 | .loc => 1 | .synced => 2

/-- Strand hops to the root device. -/
def timeHops (s : State) : Nat := if s.time.state = .synced && !s.pool.root then s.pool.depth else 0

def timeStatWord (s : State) : Nat :=
  at' ((s.time.delay / 256).toNat % 2 ^ 16) 48 + at' (satSigned 16 (s.time.offset / 16)) 32 + at' s.time.steps.toNat 24 +
    at' (timeHops s) 16 + at' (match s.time.parent with | some p => p.val | none => 0x1F) 8 + at' (b2n s.time.holdover) 4 +
    at' (b2n (stepWait s)) 3 + at' (b2n s.pool.root) 2 + timeStateNum s.time.state

/-! ### Commands -/

/-- Every tile's copy of FTIME takes the ring value, but the copies listed, which come off it by so many ns until the next time (R141). -/
def setCopies (drift : List (Fin 48 × Int)) (s : State) : State :=
  forEach drift (fun x => updTile x.1 (fun y => { y with timeOff := x.2 }))
    (forEach (List.finRange 48) (fun t => updTile t (fun y => { y with timeOff := 0 })) s)

/-- TIME_REALIGN (R141): at the next FTIME multiple of 65,536 every copy takes the ring value; one found more than 1 ns off is a
time-sync-loss event of its tile. The fault side of a tile is handed in, and how far each copy comes off until the next time. DEDUCED
(log entry 36). -/
def realign (ev : Fin 48 → State → State) (drift : List (Fin 48 × Int)) (s : State) : State :=
  if !timeRuns s then s
  else
    let s := advanceToTime (nextMultiple s 65536) s
    let found := (List.finRange 48).filter fun t => !s.tiles[t].isolated && decide (1 < (s.tiles[t].timeOff).natAbs)
    forEach found ev (setCopies drift s)

end Sys2Proof.Machine
end

