-- ==== Sys2Proof/Machine/Pool.lean ====
section
/-! DEFINITION. The pool agent (R343 to R348, R352): messages, root and parent, device IDs, and the routes the root pushes. -/

namespace Sys2Proof.Machine

/-! ### Messages (R345) -/

def pathWord (l : List Nat) : Nat := ((List.range 8).map fun i => at' ((l[i]?).getD 0xF) (4 * i)).sum
def pathOfWord (w : Nat) : List Nat := ((List.range 8).map fun i => nbits (4 * i + 3) (4 * i) w).takeWhile (· ≠ 0xF)

def msgType (m : Msg) : Nat := nbits 7 0 m.toNat
def msgMode (m : Msg) : Nat := nbits 9 8 m.toNat
def msgDst (m : Msg) : Nat := nbits 14 10 m.toNat
def msgSrc (m : Msg) : Nat := nbits 19 15 m.toNat
def msgPath (m : Msg) : Nat := nbits 52 21 m.toNat
def msgPidx (m : Msg) : Nat := nbits 55 53 m.toNat
def msgFld (m : Msg) (hi lo : Nat) : Nat := nbits hi lo m.toNat

/-- A message: body holds the fields above bit 55 in place. -/
def mkMsg (s : State) (ty mode dst path pidx body : Nat) : Msg :=
  BitVec.ofNat 224 (ty + at' mode 8 + at' dst 10 + at' s.pool.devId.toNat 15 + at' (b2n s.pool.idv) 20 + at' path 21 +
    at' (pidx % 8) 53 + body)

/-- DR_CTRL fields. -/
def discEn (s : State) : Bool := regFld s 0x6040 3 3 = 1
def drAuto (s : State) : Bool := regFld s 0x6040 2 2 = 1
def drRpin (s : State) : Bool := regFld s 0x6040 1 1 = 1
def drElig (s : State) : Bool := regFld s 0x6040 0 0 = 1

/-- Queue a message on strand n, whose session carries it (R336). -/
def sendOn (n : Nat) (m : Msg) (s : State) : State :=
  if h : n < 10 then updLnk ⟨n, h⟩ (fun x => { x with msgs := x.msgs ++ [m] }) s else s

/-- Toward the root over the parent strand, by PATH, by DSTDEV; a message that cannot be sent is discarded. -/
def sendUp (m : Msg) (s : State) : State := match s.pool.parent with | some p => sendOn p.val m s | none => s
def sendPath (path : List Nat) (m : Msg) (s : State) : State := match path with | n :: _ => sendOn n m s | [] => s
def sendDev (d : Nat) (m : Msg) (s : State) : State :=
  match trExit s s.epoch.active d with | some n => sendOn n m s | none => s

/-- A message came in on strand n (R345): it is for this device, or goes on where discovery is on. -/
def poolDeliver (n : Nat) (m : Msg) (s : State) : State :=
  let mine := { s with pool := { s.pool with inbox := s.pool.inbox ++ [(n, m)] } }
  match msgMode m with
  | 0 => mine
  | 1 => if s.pool.root then mine else if discEn s then sendUp m s else s
  | 2 =>
    let i := msgPidx m
    let e := nbits (4 * i + 3) (4 * i) (msgPath m)
    if i = 0 ∨ e = 0xF then mine
    else if discEn s then sendOn e (BitVec.ofNat 224 (putBits 55 53 m.toNat (i + 1))) s
    else s
  | _ => if msgDst m = (ownDev s).toNat then mine else if discEn s then sendDev (msgDst m) m s else s

/-- Take the oldest message of a type that satisfies p. -/
def takeMsg (ty : Nat) (p : Nat × Msg → Bool) (s : State) : Option Msg × State :=
  let hit := fun (x : Nat × Msg) => decide (msgType x.2 = ty) && p x
  match s.pool.inbox.find? hit with
  | none => (none, s)
  | some x => (some x.2, { s with pool := { s.pool with inbox := s.pool.inbox.eraseP hit } })

/-! ### HELLO (R346) -/

/-- CAP of this device (R345): GT carriage and sequencer. -/
def ownCap : Nat := 3

/-- The root this device advertises holds RPIN (log entry 31). DEDUCED (log entry 31). -/
def rootPinned (s : State) : Bool :=
  if s.pool.root then drRpin s
  else match s.pool.parent with
    | some p => (match s.strands[p].lnk.hello with | some h => h.rpin | none => false)
    | none => false

/-- The HELLO fields common to every strand. DEDUCED (log entry 31). -/
def helloCommon (s : State) : Nat :=
  let on := discEn s
  at' s.ident.serial.toNat 56 + (if on then at' s.pool.rootSerial.toNat 120 + at' s.pool.depth 184 else at' 0xF 184) +
    (if on then at' (b2n (drElig s)) 192 + at' (b2n (rootPinned s || drRpin s)) 193 else 0) + at' s.pool.devId.toNat 194 +
    at' (b2n s.pool.idv) 199 + at' ownCap 200
def helloPath (s : State) : Nat := pathWord (if discEn s then s.pool.path else [])

def helloMsg (s : State) (n : Nat) : Msg := mkMsg s 1 0 0 (helloPath s) 0 (helloCommon s + at' n 188)

/-- Queue a HELLO on strand n and restart its interval. -/
def sendHello (n : Fin 10) (s : State) : State :=
  updLnk n (fun x => { x with helloAt := s.clk.cyc + cycUs 64 }) (sendOn n.val (helloMsg s n.val) s)

def inSession (s : State) (n : Fin 10) : Bool := decide (s.strands[n].lnk.link = .hello ∨ s.strands[n].lnk.link = .up)

/-- DEDUCED (log entry 31). -/
def parseHello (m : Msg) : Hello :=
  { serial := BitVec.ofNat 64 (msgFld m 119 56), rootSerial := BitVec.ofNat 64 (msgFld m 183 120), depth := msgFld m 187 184
    strand := msgFld m 191 188, elig := msgFld m 192 192 = 1, rpin := msgFld m 193 193 = 1
    devId := BitVec.ofNat 5 (msgFld m 198 194), idv := msgFld m 199 199 = 1, cap := BitVec.ofNat 16 (msgFld m 215 200)
    path := pathOfWord (msgPath m) }

/-- The HELLO of strand n's partner, while the session is UP. -/
def upHello (s : State) (n : Fin 10) : Option Hello := if s.strands[n].lnk.link = .up then s.strands[n].lnk.hello else none

/-- Partners in session UP that advertise a root. -/
def adverts (s : State) : List (Fin 10 × Hello) :=
  (List.finRange 10).filterMap fun n =>
    match upHello s n with
    | some h => if h.depth ≤ 14 then some (n, h) else none
    | none => none

/-! ### Root, depth and parent (R346) -/

/-- A candidate root: pinned, serial. -/
def rootBefore (a b : Bool × Nat) : Bool := (a.1 && !b.1) || ((a.1 == b.1) && decide (a.2 < b.2))

def rootCands (s : State) : List (Bool × Nat) :=
  let own := s.ident.serial.toNat
  (if drElig s || drRpin s then [(drRpin s, own)] else []) ++
    ((adverts s).filter fun x => x.2.rootSerial.toNat ≠ own).map fun x => (x.2.rpin, x.2.rootSerial.toNat)

def bestRoot (s : State) : Option (Bool × Nat) :=
  match rootCands s with
  | [] => none
  | a :: r => some (r.foldl (fun b c => if rootBefore c b then c else b) a)

/-- The partner that becomes parent, for a root: lowest depth, then serial, then strand. -/
def bestParent (s : State) (root : Nat) : Option (Fin 10 × Hello) :=
  match (adverts s).filter fun x => x.2.rootSerial.toNat = root with
  | [] => none
  | a :: r => some (r.foldl (fun b c =>
      if c.2.depth < b.2.depth ∨ (c.2.depth = b.2.depth ∧ c.2.serial.toNat < b.2.serial.toNat) then c else b) a)

/-- The ID this device presents (R347): its pinned ID, else the one it holds. -/
def presentId (s : State) : Option (BitVec 5) :=
  if regFld s 0x6048 8 8 = 1 then some (BitVec.ofNat 5 (regFld s 0x6048 4 0)) else if s.pool.idv then some s.pool.devId else none

/-- Derive root, depth, parent and path afresh. -/
def elect (s : State) : State :=
  if !discEn s then
    let p := s.pool
    let p := { p with root := false, rootSerial := 0, rootId := 0, depth := 15, parent := none, path := [], disc := .off
                      rootConf := false, topo := [] }
    match presentId s with
    | some d => { s with pool := { p with devId := d, idv := true } }
    | none => { s with pool := p }
  else
    let own := s.ident.serial.toNat
    let pins := ((if drRpin s then [own] else []) ++ ((adverts s).filter fun x => x.2.rpin).map fun x => x.2.rootSerial.toNat).eraseDups
    let conf := decide (1 < pins.length)
    let p := s.pool
    match bestRoot s with
    | none =>
      { s with pool := { p with root := false, rootSerial := 0, rootId := 0, depth := 15, parent := none, path := []
                                rootConf := conf, disc := if p.disc = .collide then .collide else .elect } }
    | some (_, r) =>
      if r = own then
        let s' := { s with pool := { p with root := true, rootSerial := s.ident.serial, rootId := p.devId, depth := 0, parent := none
                                            path := [], rootConf := conf } }
        if p.root then s'
        else { s' with pool := { s'.pool with disc := .elect, settleAt := s.clk.cyc + cycUs 256, topo := [] } }
      else
        match bestParent s r with
        | none => s
        | some (n, h) =>
          let depth := min 15 (h.depth + 1)
          let path := (h.path ++ [h.strand]).take 8
          let fresh := p.root || decide (p.rootSerial.toNat ≠ r) || decide (p.disc = .off ∨ p.disc = .elect ∨ p.disc = .tooDeep)
          let disc := if 8 < depth then Disc.tooDeep else if fresh then .tree else p.disc
          { s with pool := { p with root := false, rootSerial := BitVec.ofNat 64 r, depth := depth, parent := some n, path := path
                                    rootConf := conf, disc := disc
                                    rootId := if h.depth = 0 ∧ h.idv then h.devId else p.rootId
                                    topo := [] } }

/-! ### Topology reports (R345, R347) -/

/-- VALID partner IDs by strand. -/
def linkIds (s : State) : List (Nat × Nat) :=
  (List.finRange 10).filterMap fun n =>
    match upHello s n with
    | some h => if h.idv then some (n.val, h.devId.toNat) else none
    | none => none

def topoCommon (s : State) : Nat :=
  at' s.ident.serial.toNat 56 + at' (match presentId s with | some d => d.toNat | none => 0) 124 + at' (b2n (presentId s).isSome) 129

def topoMsg0 (s : State) : Msg := mkMsg s 4 1 0 (pathWord s.pool.path) 0 (topoCommon s)
def topoMsg1 (s : State) : Msg :=
  mkMsg s 4 1 0 (pathWord s.pool.path) 0
    (topoCommon s + at' 1 120 + ((linkIds s).map fun x => at' (1 + 2 * x.2) (130 + 6 * x.1)).sum)

/-! ### The root's tables (R344, R347) -/

/-- A device of the pool with its ID, its path from the root and its links. -/
structure PoolNode where
  id    : Nat
  path  : List Nat
  links : List (Nat × Nat)
deriving DecidableEq, Repr

/-- Hops from device a to device d without passing through x. -/
def hopsAvoid (nodes : List PoolNode) (x d fuel k : Nat) (front seen : List Nat) : Option Nat :=
  match fuel with
  | 0 => none
  | f + 1 =>
    if d ∈ front then some k
    else
      let seen := seen ++ front
      let next := (((nodes.filter fun n => n.id ∈ front).flatMap fun n => n.links.map (·.2)).filter fun y =>
        !decide (y ∈ seen) && decide (y ≠ x)).eraseDups
      if next.isEmpty then none else hopsAvoid nodes x d f (k + 1) next seen

/-- The strands of x that lead to d, with the hops of the shortest path each starts. -/
def strandHops (nodes : List PoolNode) (x : PoolNode) (d : Nat) : List (Nat × Nat) :=
  x.links.filterMap fun l => if l.2 = x.id then none else (hopsAvoid nodes x.id d 33 1 [l.2] []).map fun k => (l.1, k)

/-- Fewest hops, then the lower strand. -/
def bestStrand (l : List (Nat × Nat)) : Option (Nat × Nat) :=
  match l with
  | [] => none
  | a :: r => some (r.foldl (fun b c => if c.2 < b.2 ∨ (c.2 = b.2 ∧ c.1 < b.1) then c else b) a)

/-- ESC of x toward d: down the tree to a descendant, else up to the parent. -/
def escStrand (nodes : List PoolNode) (x d : PoolNode) : Option Nat :=
  if x.path.isPrefixOf d.path && decide (x.path.length < d.path.length) then d.path[x.path.length]?
  else
    match nodes.find? fun n => n.path = x.path.dropLast && decide (x.path ≠ []) with
    | some p => ((List.range 10).find? fun s => (s, p.id) ∈ x.links)
    | none => none

/-- The 19-bit ROUTE entry of device x for device d (R344, R352); 0 where d has no path from x. -/
def routeEntry (nodes : List PoolNode) (x : PoolNode) (d : Nat) : Nat :=
  let none' := 0xFFF
  match nodes.find? fun n => n.id = d with
  | none => none'
  | some nd =>
    if d = x.id then none'
    else
      match bestStrand (strandHops nodes x d), escStrand nodes x nd with
      | some (pri, hops), some esc =>
        let alt := match bestStrand ((strandHops nodes x d).filter fun l => l.1 ≠ pri) with | some (a, _) => a | none => pri
        let rel := if nd.path.isPrefixOf x.path then 1 else if x.path.isPrefixOf nd.path then 2 else 3
        at' 1 18 + at' hops 14 + at' rel 12 + at' esc 8 + at' alt 4 + pri
      | _, _ => none'

/-- The body of ROUTE number q of device x. -/
def routeBody (nodes : List PoolNode) (x : PoolNode) (ver q : Nat) : Nat :=
  at' ver 56 + at' (8 * q) 64 + ((List.range 8).map fun i => at' (routeEntry nodes x (8 * q + i)) (69 + 19 * i)).sum

/-- The register form of a ROUTE entry. -/
def routeWord (e : Nat) : Nat := at' (nbits 18 18 e) 24 + at' (nbits 17 14 e) 16 + e % 2 ^ 14

/-- Breadth-first order: depth, then PATH entry by entry. -/
def pathBefore (a b : List Nat) : Bool :=
  match a, b with
  | [], [] => false
  | x :: r, y :: t => decide (x < y) || (decide (x = y) && pathBefore r t)
  | [], _ :: _ => true
  | _ :: _, [] => false
def topoBefore (a b : Topo) : Bool :=
  decide (a.path.length < b.path.length) || (decide (a.path.length = b.path.length) && pathBefore a.path b.path)

def insTopo (x : Topo) (l : List Topo) : List Topo :=
  match l with
  | [] => [x]
  | y :: r => if topoBefore y x then y :: insTopo x r else x :: y :: r
def sortTopo (l : List Topo) : List Topo := l.foldr insTopo []

/-- The root's own ID (R347). -/
def rootOwnId (s : State) : BitVec 5 := (presentId s).getD 0

/-- IDs by breadth-first order: a device that presents a free ID keeps it, one that presents a taken one collides, the others take
the lowest free IDs. -/
def assignIds (root : Nat) (l : List Topo) : List (Topo × Option Nat) :=
  let keep := l.foldl (fun (acc : List Nat × List (Topo × Bool)) t =>
    if !t.idv then (acc.1, acc.2 ++ [(t, false)])
    else if t.devId.toNat ∈ acc.1 then (acc.1, acc.2 ++ [(t, false)])
    else (t.devId.toNat :: acc.1, acc.2 ++ [(t, true)])) ([root], [])
  (keep.2.foldl (fun (acc : List Nat × List (Topo × Option Nat)) x =>
    let (t, kept) := x
    if kept then (acc.1, acc.2 ++ [(t, some t.devId.toNat)])
    else if t.idv then (acc.1, acc.2 ++ [(t, none)])
    else
      match (List.range 32).find? fun d => d ∉ acc.1 with
      | some d => (d :: acc.1, acc.2 ++ [(t, some d)])
      | none => (acc.1, acc.2 ++ [(t, none)])) (keep.1, [])).2

/-- What the root knows of the pool, itself first, after assigning. -/
def poolNodes (s : State) (root : Nat) (l : List (Topo × Option Nat)) : List PoolNode :=
  ⟨root, [], linkIds s⟩ :: l.filterMap fun (t, d) => d.map fun d => ⟨d, t.path, t.links⟩

/-- The four ROUTEs and the ACTIVATE for a node. -/
def pushMsgs (s : State) (nodes : List PoolNode) (x : PoolNode) (ver t : Nat) : List Msg :=
  let p := pathWord x.path
  (List.range 4).map (fun q => mkMsg s 5 2 0 p 1 (routeBody nodes x ver q)) ++ [mkMsg s 6 2 0 p 1 (at' ver 56 + at' t 64)]

/-- Time T of a push: at least 20,000 ns ahead, with room for the checks of R348 (log entry 32). DEDUCED (log entry 32). -/
def pushLead (s : State) : Nat := ftimeNs s + 400000

/-- The root acts (R347): IDs, ENUM, routes and ACTIVATE; its own table reaches it as messages. It assigns nothing in DRAIN (R386).
DEDUCED (log entry 32). -/
def rootActs (s : State) : State :=
  if !s.pool.root ∨ s.ms.mode = .drain then s
  else
    let root := rootOwnId s
    let l := assignIds root.toNat (sortTopo s.pool.topo)
    let s := { s with pool := { s.pool with devId := root, idv := true, rootId := root, disc := .enumer
                                            topo := l.map fun (t, d) => match d with
                                              | some d => { t with idv := true, devId := BitVec.ofNat 5 d }
                                              | none => t } }
    let s := forEach l (fun (t, d) =>
      sendPath t.path (mkMsg s 2 2 0 (pathWord t.path) 1
        (at' t.serial.toNat 56 + at' (d.getD t.devId.toNat) 120 + at' (b2n (d.isNone && t.idv)) 125))) s
    let nodes := poolNodes s root.toNat l
    let ver := (s.pool.pushVer.toNat + 1) % 256
    let t := pushLead s
    let s := forEach nodes.tail (fun x => forEach (pushMsgs s nodes x ver t) (sendPath x.path)) s
    match nodes with
    | [] => s
    | me :: _ => { s with pool := { s.pool with inbox := s.pool.inbox ++ (pushMsgs s nodes me ver t).map fun m => (10, m) } }

/-! ### Reachability and streams (R235, R257, R259, R342, R343) -/

/-- The stream counters of a device as the body of E2ACK, SSYNC or SSYNC_ACK. -/
def streamBody (f : Nat → Nat) : Nat := at' (f 0) 56 + at' (f 1) 72 + at' (f 2) 88

def setStream (d v : Nat) (s : State) : State := { s with seqr := { s.seqr with state := spSet 0 s.seqr.state d v } }

/-- A device became reachable: OPENING, and SSYNC (R342). -/
def peerOpen (d : Nat) (s : State) : State :=
  sendDev d (mkMsg s 8 3 d 0xFFFFFFFF 0 (streamBody fun k => spGet 0 s.seqr.ctr (streamKey d k))) (setStream d 1 s)

/-- A device became unreachable: CLOSED, and R235, R257, R259. -/
def peerClosed (d : Nat) (s : State) : State := lkDeviceLost d (deviceLost d (setStream d 0 s))

def reachMask (s : State) : Nat :=
  ((List.range 32).map fun d => if d ≠ (ownDev s).toNat ∧ reachable s d then 2 ^ d else 0).sum

/-- Follow what the active bank and the UP mask now reach. -/
def reachUpdate (s : State) : State :=
  let old := s.pool.reach.toNat
  let new := reachMask s
  let s := { s with pool := { s.pool with reach := BitVec.ofNat 32 new } }
  let s := forEach ((List.range 32).filter fun d => old.testBit d && !new.testBit d) peerClosed s
  forEach ((List.range 32).filter fun d => new.testBit d && !old.testBit d) peerOpen s

/-! ### Following a change -/

/-- Send TOPO PHASE 1; the root's own report reaches itself. -/
def reportLinks (s : State) : State :=
  if !discEn s then s
  else if s.pool.root then (if s.pool.disc = .elect then s else rootActs s)
  else sendUp (topoMsg1 s) s

/-- Make a change f, derive the tree afresh, and send what R346 and R347 ask where something changed. -/
def poolAround (f : State → State) (s : State) : State :=
  let hello := (helloCommon s, helloPath s)
  let place := (s.pool.parent, s.pool.path, s.pool.root)
  let ids := (presentId s, linkIds s)
  let s := elect (f s)
  let s := if hello = (helloCommon s, helloPath s) then s
    else forEach ((List.finRange 10).filter (inSession s)) sendHello s
  let s := if place = (s.pool.parent, s.pool.path, s.pool.root) || !discEn s then s else sendUp (topoMsg0 s) s
  -- a root that has just taken its own ID has acted already
  let ids := if s.pool.root && ids.1.isNone then (presentId s, ids.2) else ids
  let s := if ids = (presentId s, linkIds s) then s else reportLinks s
  timeRefresh (reachUpdate s)

/-! ### What the messages do -/

/-- HELLO_RECEIVE (R336, R346). -/
def helloTake (n : Fin 10) (s : State) : State :=
  match takeMsg 1 (fun x => decide (x.1 = n.val)) s with
  | (none, s) => s
  | (some m, s) =>
    let h := parseHello m
    let set := poolAround (updLnk n fun x => { x with hello := some h, link := .up })
    match s.strands[n].lnk.link with
    | .hello => if h.serial = s.strands[n].lnk.tcbSerial ∧ nbits 7 4 h.cap.toNat = 0 then set s else s
    | .up => set s
    | _ => s

/-- ROOT_SETTLE (R347). -/
def rootSettleDo (s : State) : State :=
  if s.pool.root && decide (s.pool.disc = .elect) then poolAround rootActs (advanceTo s.pool.settleAt s) else s

/-- TOPO_RECEIVE (R347). -/
def topoTake (s : State) : State :=
  match takeMsg 4 (fun _ => true) s with
  | (none, s) => s
  | (some m, s) =>
    if !discEn s || !s.pool.root then s
    else
      let serial := BitVec.ofNat 64 (msgFld m 119 56)
      let old : Topo := (s.pool.topo.find? fun t => t.serial = serial).getD { serial := serial }
      let links := (List.range 10).filterMap fun k =>
        if msgFld m (130 + 6 * k) (130 + 6 * k) = 1 then some (k, msgFld m (135 + 6 * k) (131 + 6 * k)) else none
      let new : Topo := { old with
        idv := msgFld m 129 129 = 1, devId := BitVec.ofNat 5 (msgFld m 128 124), path := pathOfWord (msgPath m)
        links := if msgFld m 123 120 = 1 then links else old.links }
      let s : State := { s with pool := { s.pool with topo := s.pool.topo.filter (fun t => t.serial ≠ serial) ++ [new] } }
      if s.pool.disc = .elect then s else poolAround rootActs s

/-- ENUM_RECEIVE (R347, R385, R386); a device that is TOO_DEEP takes no ID (R346). -/
def enumTake (s : State) : State :=
  match takeMsg 2 (fun _ => true) s with
  | (none, s) => s
  | (some m, s) =>
    if !discEn s || decide (s.pool.disc = .tooDeep) || decide (BitVec.ofNat 64 (msgFld m 119 56) ≠ s.ident.serial) then s
    else
      let s := { s with pool := { s.pool with rootId := BitVec.ofNat 5 (msgSrc m) } }
      let ack := fun (s : State) => sendUp (mkMsg s 3 1 0 0xFFFFFFFF 0 (at' s.ident.serial.toNat 56 + at' s.pool.devId.toNat 120)) s
      if s.ms.mode = .drain then ack s
      else if msgFld m 125 125 = 1 then
        ack (poolAround (fun s => { s with pool := { s.pool with idv := false, disc := .collide } }) s)
      else
        ack (poolAround (fun s => { s with pool := { s.pool with
          idv := true, devId := BitVec.ofNat 5 (msgFld m 124 120), disc := .enumer } }) s)

/-- ENUM_ACK_RECEIVE (R347). -/
def enumAckTake (s : State) : State :=
  match takeMsg 3 (fun _ => true) s with
  | (none, s) => s
  | (some m, s) =>
    { s with pool := { s.pool with topo := s.pool.topo.map (fun t =>
        if decide (t.serial = BitVec.ofNat 64 (msgFld m 119 56)) then { t with acked := true } else t) } }

/-- This device takes pushes (R346, R347, R386). -/
def takesPush (s : State) : Bool := discEn s && drAuto s && decide (s.ms.mode ≠ .drain)

/-- ROUTE_RECEIVE (R347): the message waits while the banks are read-only. DEDUCED (log entry 68). -/
def routeTake (s : State) : State :=
  if takesPush s && routeLocked s then s
  else
    match takeMsg 5 (fun _ => true) s with
    | (none, s) => s
    | (some m, s) =>
      if !takesPush s then s
      else
        let first := msgFld m 68 64
        let s := if s.epoch.wroteDr then regSetBit 0x6800 40 { s with epoch := { s.epoch with wroteDr := false } } else s
        let s := forEach (List.range 8) (fun i s =>
          if decide (first + i < 32) then
            tblSet (drKey (!s.epoch.active) (first + i)) (word (routeWord (msgFld m (87 + 19 * i) (69 + 19 * i)))) s
          else s) s
        { s with pool := { s.pool with pushVer := BitVec.ofNat 8 (msgFld m 63 56) } }

/-- ACTIVATE_RECEIVE (R347, R348): the other inactive banks are prepared and the checker starts. DEDUCED (log entry 68). -/
def activateTake (s : State) : State :=
  if takesPush s && (routeLocked s || beadLocked s) then s
  else
    match takeMsg 6 (fun _ => true) s with
    | (none, s) => s
    | (some m, s) =>
      if !takesPush s || decide (BitVec.ofNat 8 (msgFld m 63 56) ≠ s.pool.pushVer) then s
      else
        let s := preparePush s
        { s with pool := { s.pool with pushTime := some (msgFld m 127 64) } }

/-- PUSH_CHECK_DONE (R347, R348): a finding refuses the push; otherwise the switch is armed at T, or at the first boundary possible
where T has gone by. A switch that the hallmark queue does not take now stays to be armed. DEDUCED (log entries 32 and 68). -/
def pushCheck (s : State) : State :=
  match s.pool.pushTime with
  | none => s
  | some t =>
    if !takesPush s || routeLocked s || beadLocked s then s
    else
      match checkConfig s with
      | some _ => regSetBit 0x6800 41 { s with pool := { s.pool with pushTime := none } }
      | none =>
        let s := fillBoth s
        let at? := if t < ftimeNs s + leadNs false then none else some t
        let (r, s) := submitSwitch .push at? s
        if r = 1 then { s with pool := { s.pool with pushTime := none } } else s

/-! ### Registers (R350, R352) -/

def discNum (d : Disc) : Nat :=
  match d with | .off => 0 | .elect => 1 | .tree => 2 | .enumer => 3 | .routed => 4 | .collide => 5 | .tooDeep => 6

/-- DR_STAT but its sticky bits. -/
def drStatWord (s : State) : Nat :=
  let p := s.pool
  at' p.version.toNat 32 + at' (b2n p.rootConf) 28 + at' (if p.depth ≤ 14 then p.depth else 15) 24 +
    at' (match p.parent with | some n => n.val | none => 15) 20 + at' (discNum p.disc) 16 + at' (b2n p.root) 13 +
    at' p.rootId.toNat 8 + at' (b2n p.idv) 5 + p.devId.toNat

/-- The partner of strand n has this device as its tree parent: its PATH goes on from this device's by a strand that leads to it. -/
def isChild (s : State) (h : Hello) : Bool :=
  discEn s && decide (h.depth ≤ 14) && decide (h.rootSerial = s.pool.rootSerial) &&
    (List.finRange 10).any fun k =>
      decide (h.path = s.pool.path ++ [k.val]) && decide ((upHello s k).map (·.serial) = some h.serial)

/-- This end of strand n is the upper end (R335): its partner has it as tree parent, or neither has the other and its serial is the
lower; before the partner's HELLO of the session its serial is that of its TCB (R298). -/
def isUpper (s : State) (n : Fin 10) : Bool :=
  match upHello s n with
  | none => decide (s.ident.serial.toNat < s.strands[n].lnk.tcbSerial.toNat)
  | some h =>
    if isChild s h then true
    else
      match s.pool.parent with
      | some p => if partnerSerial s p = some h.serial then false else decide (s.ident.serial.toNat < h.serial.toNat)
      | none => decide (s.ident.serial.toNat < h.serial.toNat)

/-- SL_STAT.ROLE of strand n. -/
def strandRole (s : State) (n : Fin 10) : Nat :=
  match upHello s n with
  | none => 0
  | some h =>
    let parent := match s.pool.parent with | some p => decide (partnerSerial s p = some h.serial) | none => false
    if parent then 1
    else if isChild s h then 2
    else 3

def linkNum' (l : Link) : Nat := match l with | .inactive => 0 | .hello => 1 | .up => 2 | .down => 3

/-- SL_STAT, SL_SEQ, SL_PARTNER (R350). -/
def slStatWord (s : State) (n : Fin 10) : Nat :=
  let l := s.strands[n].lnk
  let h := upHello s n
  at' (l.gtLat % 512) 23 + at' (match h with | some h => h.devId.toNat | none => 0) 18 +
    at' (match h with | some h => b2n h.idv | none => 0) 17 + at' (b2n (h.isSome && isUpper s n)) 16 + at' (strandRole s n) 14 +
    at' l.downWhy 8 + at' (b2n l.fo) 2 + linkNum' l.link
def slSeqWord (s : State) (n : Fin 10) : Nat := at' s.strands[n].lnk.next.toNat 16 + s.strands[n].lnk.acked.toNat
def slPartner (s : State) (n : Fin 10) : Nat := match upHello s n with | some h => h.serial.toNat | none => 0

end Sys2Proof.Machine
end

