-- ==== Sys2Proof/Machine/Planner.lean ====
section
/-! DEFINITION. Epoch switches, bead swaps and mode changes (R130 to R137, R176 to R179, R380), and the detour planner (R127 to
R129, R182, R183). -/

namespace Sys2Proof.Machine

/-! ### PG_EPOCH.CHANGES (R49) -/

def bumpChanges (base : Nat) (s : State) : State :=
  { s with changes := spSet 0 s.changes base ((spGet 0 s.changes base + 1) % 2 ^ 16) }

def allRtrPages : List Nat := (List.range 48).flatMap fun t => allNets.map (rtrPage t)
def allBeadPages : List Nat := (List.range 48).map beadPage
def bumpAll (l : List Nat) (s : State) : State := forEach l bumpChanges s

/-! ### Lost elements -/

/-- The tiles and links out of service. -/
def lostNow (s : State) : List Lost :=
  (((List.finRange 48).filter fun t => s.tiles[t].isolated).map fun t => Lost.tile t.val) ++
    (List.finRange 48).filterMap fun t => s.tiles[t].linkOut.map fun x => Lost.link x.1 x.2

/-- The three conditions of R380 over the active bank. -/
def mustDegrade (s : State) : Bool :=
  !(lostNow s).isEmpty || (ovrEntries s s.epoch.active).any fun x => ovrBump x.2.2.2.2

/-! ### Old-epoch flits (R132) -/

/-- The flits of the other bank in a buffer. -/
def oldIn (s : State) (l : List BufFlit) : List BufFlit := l.filter fun b => b.flit.epoch ≠ s.epoch.active

/-- A flit still in the output register it left by (R102): it has not come to the buffer it is listed in. -/
def inOutput (s : State) (b : BufFlit) : Bool := decide (s.clk.cyc < b.ready)

/-- Old flits in the input VCs of router (t, n): at a mesh input those that have arrived. -/
def oldInputs (s : State) (t : Nat) (n : Net) : Nat :=
  (s.rtr.vcs.map fun e =>
    if e.1 / 56 = 4 * t + netNum n then
      ((oldIn s e.2).filter fun b => decide (32 ≤ e.1 % 56) || !inOutput s b).length
    else 0).sum

/-- Old flits in its output registers: on their way to a neighbour's input, or into a fabric half. -/
def oldOutputs (s : State) (t : Nat) (n : Net) : Nat :=
  ([RPort.n, .e, .s, .w].map fun r =>
    match neighbour t r with
    | none => 0
    | some u => ((List.range 8).map fun v =>
        ((oldIn s (spGet [] s.rtr.vcs (rKey u n (rpNum (opposite r)) v))).filter (inOutput s)).length).sum).sum +
    ([2 * t, 2 * t + 1].map fun p => ((oldIn s (spGet [] s.ports[portF p].ejq (netNum n))).filter (inOutput s)).length).sum

/-- Old flits of router (t, n): in its input VCs and output registers, and of its tile's answer queue beside the RSP router (R481). -/
def oldCount (s : State) (t : Nat) (n : Net) : Nat :=
  oldInputs s t n + oldOutputs s t n + (if n = .rsp then (oldIn s (spGet [] s.rtr.ansq t)).length else 0)

/-- No router holds any, but in an output register toward a fabric half, which it leaves as time passes. -/
def oldGone (s : State) : Bool := (s.rtr.vcs ++ s.rtr.ansq).all fun e => e.2.all fun b => b.flit.epoch == s.epoch.active

/-- The cycle in which the last old flit on its way into a fabric half has come there. -/
def oldLast (s : State) : Nat :=
  s.ports.toList.foldl (fun m x => x.ejq.foldl (fun m e => (oldIn s e.2).foldl (fun m b => max m b.ready) m) m) 0

/-! ### Swaps and switches -/

/-- The bead banks change places (R176). -/
def swapBeads (s : State) : State :=
  let e := s.epoch
  bumpAll allBeadPages { s with epoch := { e with beadActive := !e.beadActive, lastMove := s.clk.cyc
                                                  beadPlanned := e.beadPlannedOther, beadPlannedOther := e.beadPlanned } }

/-- A bead swap launches (R176, R396). -/
def beadSwapDo (s : State) : State :=
  let s := swapBeads s
  { s with ms := { s.ms with gtHold := false } }

/-- Every fabric half stamps the new epoch; its current mask becomes the old one (R135). -/
def maskShift (x : PortSt) : PortSt := { x with oldReq := x.curReq, oldRsp := x.curRsp, curReq := 0, curRsp := 0 }

/-- The mode after an epoch switch (R380). -/
def switchMode (ret : Bool) (s : State) : State :=
  if !isRunning s.ms.mode then s
  else if ret then { s with ms := { s.ms with mode := .run } }
  else if mustDegrade s then { s with ms := { s.ms with mode := .degraded } }
  else s

/-- A push has gone active (R347, R352). -/
def pushActive (s : State) : State :=
  { s with pool := { s.pool with version := s.pool.pushVer, disc := .routed, pushTime := none } }

/-- The bead bank in use before a switch to a planner plan holds the primary plan (R183); a return ends that. -/
def notePrimary (ret : Bool) (was : Bool) (s : State) : State :=
  { s with epoch := { s.epoch with primary := if ret then none else some was } }

/-- An epoch switch launches (R131, R135, R176, R348, R380). -/
def epochSwitchDo (e : HmEntry) (s : State) : State :=
  let ep := s.epoch
  let s : State := { s with
    epoch := { ep with active := !ep.active, switch := .draining, launchAt := s.clk.cyc, overdue := false, lastMove := s.clk.cyc
                       wroteRoute := [], wroteDr := false, planned := ep.plannedOther, plannedOther := ep.planned }
    ports := s.ports.map maskShift }
  let s := bumpAll (0x6000 :: allRtrPages) s
  let s := if swapsBeads e then swapBeads s else s
  let ret := decide (e.owner = .planner) && ep.planReturn
  let s := if e.owner = .planner then notePrimary ret ep.beadActive s else s
  let s := switchMode ret s
  let s := if ret then { s with planner := { s.planner with plan := none } } else s
  let s := if e.owner = .push ∨ s.pool.pushTime.isSome then pushActive s else s
  poolAround id s

/-- The old epoch has drained (R132, R135). -/
def epochDrainedDo (s : State) : State :=
  if s.epoch.switch = .draining && oldGone s then
    let s := advanceTo (oldLast s) s
    { s with epoch := { s.epoch with switch := .idle }, ports := s.ports.map (fun x => { x with oldReq := 0, oldRsp := 0 }) }
  else s

/-- ACT 0x07 (R380). -/
def modeChangeDo (arg : Nat) (s : State) : State :=
  if arg = 1 then { s with ms := { s.ms with mode := .degraded } }
  else if mustDegrade s then regSetBit 0x800 17 s
  else { s with ms := { s.ms with mode := .run } }

/-! ### The planner -/

/-- An element is lost in RUN: a single loss brings its plan (R127, R129). DEDUCED (log entry 71). -/
def plannerLoss (l : Lost) (s : State) : State :=
  if s.ms.mode = .run && s.planner.plan.isNone && decide (lostNow s = [l]) && !s.planner.suspended then
    { s with planner := { s.planner with job := some (.detour l), plan := some l } }
  else s

/-- An element is back in service: with none lost, an active plan is returned from (R129). -/
def plannerBack (s : State) : State :=
  if !isRunning s.ms.mode || s.planner.plan.isNone || !(lostNow s).isEmpty then s
  else
    match s.planner.job with
    | some (.detour _) => { s with planner := { s.planner with job := none, plan := none } }
    | _ => { s with planner := { s.planner with job := some .back } }

/-- The inactive banks are not the planner's to write: a switch or swap is armed or draining, or a push waits (R127, R182, R348). -/
def planBlocked (s : State) : Bool := routeLocked s || beadLocked s || s.pool.pushTime.isSome

/-- A software-written inactive route bank is overwritten (R127). -/
def notePreempt (s : State) : State :=
  let l := s.epoch.wroteRoute
  forEach l (fun b => regSetBit (b + 0x800) 5) { s with epoch := { s.epoch with wroteRoute := [], wroteDr := false } }

/-- The fixed plan of a loss, into the inactive bank of every router (R127, R128). -/
def writeDetour (l : Lost) (s : State) : State :=
  let bank := !s.epoch.active
  let s := copyOvr s
  forEach allNets (fun n s =>
    if (planEntry l n 0 0).isNone then s
    else
      forEach ((List.range 48).flatMap fun t => (List.range 48).map fun dest => (t, dest)) (fun (t, dest) =>
        tblSet (ovrKey t n bank dest) (word ((planEntry l n t dest).getD 0))) s) s

/-- A bead plan written into a bead bank: its injection entries as the other bank has them, and its beads (R164, R181). -/
def writeBeads (bank : Bool) (pl : List (GtInj × List GtHop)) (s : State) : State :=
  let src := s
  let s := clearBank (fun k => decide (k = .bead)) bank s
  forEach pl (fun (g, hs) s =>
    let s := tblSet (flipKey g.key) (tblGet src g.key) s
    forEach (gtChain g hs) (fun b =>
      tblSet (beadOutKey b.tile b.net (rpNum b.out) bank b.slot) (word (at' (rpNum b.inp) 9 + at' 1 8 + b.flow))) s) s

/-- Submit the planner's epoch switch for the first frame boundary at least 2 us ahead (R127). DEDUCED (log entry 33). -/
def plannerSubmit (s : State) : State :=
  let (r, s) := submitSwitch .planner none s
  { s with planner := { s.planner with unqueued := decide (r ≠ 1) } }

/-- The detour plan and the backup bead plan (R127, R182). -/
def applyDetour (l : Lost) (s : State) : State :=
  let beads := backupPlan s s.epoch.beadActive l
  let s := copyDr (writeDetour l (notePreempt s))
  let s := beadWritten (writeBeads (!s.epoch.beadActive) beads s)
  { s with epoch := { s.epoch with plannedOther := some l, beadPlannedOther := true, planReturn := false } }

/-- The return bank (R129), and the primary bead plan where it still stands (R183). -/
def applyReturn (s : State) : State :=
  let s := copyDr (clearBank isRtrKind (!s.epoch.active) (notePreempt s))
  let bank := !s.epoch.beadActive
  let ok := decide (s.epoch.beadActive = s.epoch.active) && decide (s.epoch.primary = some bank) && (chkBeadBank s bank).isNone
  let s := if ok then s
    else forEach allBeadPages (fun b => regSetBit (b + 0x800) 7) (clearBank (fun k => decide (k = .bead)) bank s)
  { s with epoch := { s.epoch with plannedOther := none, beadPlannedOther := false, planReturn := true } }

/-- PLANNER_APPLY. -/
def plannerApplyDo (s : State) : State :=
  if !isRunning s.ms.mode || s.planner.suspended || planBlocked s then s
  else
    match s.planner.job with
    | none => s
    | some j =>
      let s := match j with
        | .detour l => applyDetour l s
        | .back => applyReturn s
      let s := bumpAll (0x6000 :: allRtrPages ++ allBeadPages) s
      plannerSubmit { s with planner := { s.planner with job := none } }

/-- PLANNER_RESUBMIT. -/
def plannerResubmitDo (s : State) : State :=
  if s.planner.unqueued && isRunning s.ms.mode && !s.planner.suspended then plannerSubmit (advanceToFrame s) else s

/-- The inactive banks are held by a plan not yet queued: software writes are refused as under an armed switch (R127). DEDUCED (log entry 71). -/
def plannerHolds (s : State) : Bool := s.planner.unqueued

/-! ### Registers (R137) -/

/-- The number of a lost element (R128). -/
def lostNum (l : Lost) : Nat := match l with | .tile t => t | .link n _ => n
def lostIsLink (l : Lost) : Bool := match l with | .tile _ => false | .link _ _ => true
def lostOn (l : Lost) (n : Net) : Bool := match l with | .tile _ => true | .link _ m => decide (m = n)

/-- RTR_STAT but PREEMPT. DEDUCED (log entry 72). -/
def rtrStatWord (s : State) (n : Net) : Nat :=
  let sw := if s.epoch.switch = .draining then 2 else if gqHas s 1 then 1 else 0
  (match s.epoch.planned with
   | some l => if lostOn l n then at' (b2n (lostIsLink l)) 16 + at' (lostNum l) 8 + at' 1 4 else 0
   | none => 0) + at' sw 1 + b2n s.epoch.active

def rtrOldWord (s : State) (t : Nat) (n : Net) : Nat :=
  if s.epoch.switch = .draining then min 255 (oldCount s t n) else 0

end Sys2Proof.Machine
end

