-- ==== Sys2Proof/Machine/LineCode.lean ====
section
/-! DEFINITION. The line code of a lane as functions of bits: the order of a block's bits, the scrambler, the CRC-16, stuff bits, the
Reed-Solomon code, PAM4 levels and precoding (R267 to R281). -/

namespace Sys2Proof.Machine

/-! ### Blocks as bits (R267) -/

/-- The bits of a block in sending order: H[1], H[0], then P from P[0] up. -/
def blockBits (b : Block) : List Bool := b.toNat.testBit 257 :: b.toNat.testBit 256 :: (List.range 256).map b.toNat.testBit

/-- A number from its bits, bit 0 first. -/
def bitsNat (l : List Bool) : Nat := l.foldr (fun b n => 2 * n + b2n b) 0

/-- The block whose bits are these. -/
def bitsBlock (l : List Bool) : Block :=
  match l with
  | a :: b :: p => BitVec.ofNat 258 (at' (b2n a) 257 + at' (b2n b) 256 + bitsNat p % 2 ^ 256)
  | _ => 0

/-! ### CRC-16 (R276) -/

/-- One bit of the CRC-16 register. -/
def crc16Bit (c : Nat) (b : Bool) : Nat :=
  let top := c.testBit 15 != b
  let d := (c * 2) % 2 ^ 16
  if top then d ^^^ 0x1021 else d

/-- The CRC-16 over the low n bits of v, bit 0 first. -/
def crc16 (v n : Nat) : Nat := (List.range n).foldl (fun a i => crc16Bit a (v.testBit i)) 0xFFFF

/-! ### The scrambler (R268, R269) -/

/-- next_bit: the bit, and the register after it. -/
def scrNext (r : BitVec 31) : Bool × BitVec 31 :=
  let b := r.getLsbD 30 != r.getLsbD 27
  (b, (r <<< 1) ||| (if b then 1#31 else 0#31))

/-- The low n bits of p XORed with the next n bits of the scrambler, bit 0 first, and the register after them. Its own inverse. -/
def scrXor (n : Nat) (r : BitVec 31) (p : Nat) : Nat × BitVec 31 :=
  (List.range n).foldl (fun a i =>
    let (b, r) := scrNext a.2
    (if b then a.1 ^^^ 2 ^ i else a.1, r)) (p, r)

/-- The seed of a logical lane. -/
def laneSeed (l : Nat) : BitVec 31 :=
  match l with
  | 0 => 0x0F0F1E2D | 1 => 0x1B3A5C67 | 2 => 0x2C4E7A91 | 3 => 0x3D5F8BA3
  | 4 => 0x4E619CB5 | 5 => 0x5F72ADC7 | 6 => 0x6083BED9 | _ => 0x7194CFEB

/-! ### Stuff bits (R271, R272) -/

/-- A bit counted. -/
def runPut (r : RunCnt) (b : Bool) : RunCnt := { last := b, cnt := if b = r.last then r.cnt + 1 else 1 }

/-- A bit as complex A sends it: after 24 equal bits one bit of the opposite value follows, with which the count restarts at 1. -/
def stuffBit (r : RunCnt) (b : Bool) : List Bool × RunCnt :=
  let t := runPut r b
  if t.cnt = 24 then ([b, !b], { last := !b, cnt := 1 }) else ([b], t)

def stuff (r : RunCnt) (l : List Bool) : List Bool × RunCnt :=
  match l with
  | [] => ([], r)
  | b :: l =>
    let (u, r) := stuffBit r b
    let (v, r) := stuff r l
    (u ++ v, r)

/-- A bit as complex A receives it: after 24 equal bits the next is removed (none), a violation where it equals the run. -/
def unstuffBit (r : RunCnt) (b : Bool) : Option Bool × Bool × RunCnt :=
  if r.cnt = 24 then (none, b == r.last, { last := b, cnt := 1 }) else (some b, false, runPut r b)

/-! ### RS(272,258) over GF(2^10) (R277, R278, R281) -/

/-- The product of two field elements: polynomials over GF(2) modulo x^10 + x^3 + 1. -/
def gfMul (a b : Nat) : Nat :=
  let p := (List.range 10).foldl (fun c i => if b.testBit i then c ^^^ (a <<< i) else c) 0
  [18, 17, 16, 15, 14, 13, 12, 11, 10].foldl (fun c i => if c.testBit i then c ^^^ (0x409 <<< (i - 10)) else c) p

/-- a to the power n, for n below 1,024. -/
def gfPow (a n : Nat) : Nat :=
  ((List.range 10).foldl (fun (x : Nat × Nat) i => (if n.testBit i then gfMul x.1 x.2 else x.1, gfMul x.2 x.2)) (1, a)).1

/-- The inverse of a nonzero element. -/
def gfInv (a : Nat) : Nat := gfPow a 1022

/-- α^i, for i below 1,024. -/
def gfExp (i : Nat) : Nat := gfPow 2 i

/-- The value at v of a polynomial, coefficients from the highest down. -/
def gfEval (p : List Nat) (v : Nat) : Nat := p.foldl (fun a c => gfMul a v ^^^ c) 0

/-- The product of two polynomials, coefficients from the highest down. -/
def gfPolyMul (p q : List Nat) : List Nat :=
  p.foldl (fun a c =>
    let a := a ++ [0]
    List.zipWith (· ^^^ ·) a (List.replicate (a.length - q.length) 0 ++ q.map (gfMul c))) (List.replicate (q.length - 1) 0)

/-- The generator: the product of (x - α^i) for i from 0 to 13. -/
def rsGen : List Nat := (List.range 14).foldl (fun g i => gfPolyMul [1, gfExp i] g) [1]

/-- The 14 parity symbols of a message, x^13 first. -/
def rsParity (msg : List Nat) : List Nat :=
  let g := rsGen.tail
  msg.foldl (fun r m =>
    let f := m ^^^ r.headD 0
    List.zipWith (· ^^^ ·) (r.tail ++ [0]) (g.map (gfMul f))) (List.replicate 14 0)

/-- The syndromes of a codeword. -/
def rsSyndromes (cw : List Nat) : List Nat := (List.range 14).map fun i => gfEval cw (gfExp i)

/-- The state of the search for the error locator (Berlekamp and Massey): the locator, lowest coefficient first, and its length; the
locator before the last change of length, its discrepancy, and the steps since. -/
structure RsSearch where
  loc  : List Nat := [1]
  len  : Nat := 0
  prev : List Nat := [1]
  dis  : Nat := 1
  gap  : Nat := 1

/-- p minus f x^k q, lowest coefficient first. -/
def gfSubShift (p q : List Nat) (f k : Nat) : List Nat :=
  let t := List.replicate k 0 ++ q.map (gfMul f)
  let n := max p.length t.length
  List.zipWith (· ^^^ ·) (p ++ List.replicate (n - p.length) 0) (t ++ List.replicate (n - t.length) 0)

/-- One step of the search, at syndrome n. -/
def rsStep (syn : List Nat) (x : RsSearch) (n : Nat) : RsSearch :=
  let d := (List.range (x.len + 1)).foldl (fun a i => a ^^^ gfMul (x.loc.getD i 0) (syn.getD (n - i) 0)) 0
  if d = 0 then { x with gap := x.gap + 1 }
  else
    let loc := gfSubShift x.loc x.prev (gfMul d (gfInv x.dis)) x.gap
    if 2 * x.len ≤ n then { loc := loc, len := n + 1 - x.len, prev := x.loc, dis := d, gap := 1 }
    else { x with loc := loc, gap := x.gap + 1 }

/-- The value of a polynomial at v, coefficients from the lowest up. -/
def gfEvalLow (p : List Nat) (v : Nat) : Nat := gfEval p.reverse v

/-- The value of the symbol error at power j (Forney). -/
def rsError (syn loc : List Nat) (j : Nat) : Nat :=
  let v := gfExp ((1023 - j) % 1023)
  let omega := (List.range 14).map fun k =>
    (List.range (k + 1)).foldl (fun a i => a ^^^ gfMul (loc.getD i 0) (syn.getD (k - i) 0)) 0
  let deriv := loc.zipIdx.map fun (c, i) => if i % 2 = 1 then c else 0
  gfMul (gfMul (gfExp j) (gfEvalLow omega v)) (gfInv (gfEvalLow (deriv.drop 1) v))

/-- A received codeword: the codeword it decodes to and the number of symbols corrected, or none where it is uncorrectable. -/
def rsDecode (cw : List Nat) : Option (List Nat × Nat) :=
  let syn := rsSyndromes cw
  if syn.all (· = 0) then some (cw, 0)
  else
    let x := (List.range 14).foldl (rsStep syn) {}
    let at? := (List.range 272).filter fun j => gfEvalLow x.loc (gfExp ((1023 - j) % 1023)) = 0
    if 7 < x.len ∨ at?.length ≠ x.len then none
    else
      let fixed := cw.zipIdx.map fun (c, i) => if 271 - i ∈ at? then c ^^^ rsError syn x.loc (271 - i) else c
      if (rsSyndromes fixed).all (· = 0) then some (fixed, x.len) else none

/-- Bits as symbols of 10, the first bit the most significant, and back. -/
def bitsSyms (fuel : Nat) (l : List Bool) : List Nat :=
  match fuel with
  | 0 => []
  | k + 1 => if l.isEmpty then [] else (l.take 10).foldl (fun a b => 2 * a + b2n b) 0 :: bitsSyms k (l.drop 10)
def symsBits (l : List Nat) : List Bool := l.flatMap fun s => [9, 8, 7, 6, 5, 4, 3, 2, 1, 0].map s.testBit

/-- The 2,720 bits of the codeword of ten blocks. -/
def rsBits (blocks : List Block) : List Bool :=
  let msg := bitsSyms 258 (blocks.flatMap blockBits)
  symsBits (msg ++ rsParity msg)

/-! ### PAM4 (R279, R280) -/

/-- The level of a pair of bits, the first the MSB. -/
def pamLevel (a b : Bool) : Nat := match a, b with | false, false => 0 | false, true => 1 | true, true => 2 | true, false => 3
def pamBits (l : Nat) : List Bool := match l with | 0 => [false, false] | 1 => [false, true] | 2 => [true, true] | _ => [true, false]

/-- The levels of a codeword's bits. -/
def pamLevels (l : List Bool) : List Nat :=
  match l with
  | a :: b :: l => pamLevel a b :: pamLevels l
  | _ => []

/-- Levels precoded after y, and the last one sent. -/
def precode (y : Nat) (l : List Nat) : List Nat × Nat :=
  match l with
  | [] => ([], y)
  | x :: l =>
    let z := (x + 4 - y) % 4
    let (r, e) := precode z l
    (z :: r, e)

/-- Levels received after y, decoded, and the last one received. -/
def unprecode (y : Nat) (l : List Nat) : List Nat × Nat :=
  match l with
  | [] => ([], y)
  | z :: l =>
    let (r, e) := unprecode z l
    ((z + y) % 4 :: r, e)

end Sys2Proof.Machine
end

