-- ==== Sys2Proof/Machine/Blocks.lean ====
section
/-! DEFINITION. The 258-bit block and its control types: patterns, markers, TS, TCB, LCTL and the time blocks (R267, R274 to R276,
R283, R297, R298, R313, R335). -/

namespace Sys2Proof.Machine

/-- Control types (R274, R335). -/
def tyIDLE : Nat := 0
def tyFILLER : Nat := 0x0F
def tyMARKER : Nat := 0x1E
def tyCAL : Nat := 0x2D
def tyTS : Nat := 0x3C
def tyTCB : Nat := 0x4B
def tyLCTL : Nat := 0x5A
def tySTBY : Nat := 0x69
def tyTSYNC : Nat := 0x80
def tyTREQ : Nat := 0x81
def tyTRESP : Nat := 0x82

/-- A control block with this payload. -/
def ctlBlock (p : Nat) : Block := BitVec.ofNat 258 (at' 2 256 + p % 2 ^ 256)
/-- A data block (R267, R324). -/
def dataBlock (p : Nat) : Block := BitVec.ofNat 258 (at' 1 256 + p % 2 ^ 256)
/-- One whose P[255:240] is the CRC over P[239:0]. -/
def crcBlock (p : Nat) : Block := ctlBlock (p % 2 ^ 240 + at' (crc16 (p % 2 ^ 240) 240) 240)

def blkH (b : Block) : Nat := nbits 257 256 b.toNat
def blkP (b : Block) : Nat := nbits 255 0 b.toNat
def blkType (b : Block) : Nat := nbits 7 0 b.toNat
def blkFld (b : Block) (hi lo : Nat) : Nat := nbits hi lo b.toNat

/-- Types that carry the CRC-16, and those that do not. -/
def crcType (t : Nat) : Bool := decide (t ∈ [tyMARKER, tyTS, tyTCB, tyLCTL, tyTSYNC, tyTREQ, tyTRESP])
def plainType (t : Nat) : Bool := decide (t ∈ [tyIDLE, tyFILLER, tyCAL, tySTBY])

/-- A control block that a receiver keeps (R276). -/
def blkGood (b : Block) : Bool :=
  decide (blkH b = 2) &&
    (plainType (blkType b) || (crcType (blkType b) && decide (crc16 (blkP b % 2 ^ 240) 240 = blkFld b 255 240)))

/-- A block of type t received on strand n: taken only where it is good; a bad one is discarded and counted (R276). -/
def takeBlock (n : Fin 10) (t : Nat) (b : Block) (s : State) (f : State → State) : State :=
  if !blkGood b then countStrand n 13 s
  else if blkType b = t then f s
  else s

/-- CAL, FILLER and STBY (R275). -/
def patBlock (t : Nat) : Block := ctlBlock (t + at' (scrXor 248 0x7FFFFFFF#31 0).1 8)

/-! ### What a strand sends -/

/-- The lanes of a set (R266). -/
def laneSet (width : Nat) (group : Bool) : Nat :=
  match width, group with
  | 0, _ => 0xFF
  | 1, false => 0x0F
  | 1, true => 0xF0
  | 2, false => 0x03
  | 2, true => 0x30
  | _, _ => 0

def pwrNum (p : StrandPwr) : Nat := match p with | .active => 0 | .standby => 1 | .deep => 2

/-- The SYNC word of a MARKER (R283). -/
def markerSync : Nat := 0xB5C62E91D47A0F38

/-- MARKER of a lane with the present MCNT (R283). -/
def markerBlock (s : State) (n : Fin 10) (train : Bool) (l : Fin 8) : Block :=
  let x := s.strands[n].phy
  let alt := ((List.range 64).map fun i => at' 1 (113 + 2 * i)).sum
  crcBlock (tyMARKER + at' markerSync 8 + at' l.val 72 + at' (b2n train) 75 + at' (if x.width = 3 then 0 else x.width) 76 +
    at' (b2n x.group) 78 + at' (b2n x.cr) 79 + at' (pwrNum x.pwr) 80 + at' x.mcnt.toNat 96 + alt)

def stageNum (st : Stage) : Nat :=
  match st with
  | .disabled => 0 | .detect => 1 | .bitlock => 2 | .polarity => 3 | .lanemap => 4 | .deskew => 5 | .preset => 6 | .config => 7
  | .active => 8 | .absent => 9

/-- TS of a lane (R297, R305). -/
def tsBlock (s : State) (n : Fin 10) (l : Fin 8) : Block :=
  let x := s.strands[n].phy
  let asks := decide (x.stage = .preset) || x.chosen
  crcBlock (tyTS + at' (stageNum x.stage) 8 + at' l.val 12 + at' (if x.chosen then x.bestRow else x.dwell) 16 + at' (b2n asks) 19 +
    at' x.appRow 20 + at' (b2n x.chosen) 23)

/-- TCB (R298, R299). -/
def tcbBlock (s : State) (n : Fin 10) : Block :=
  let x := s.strands[n].phy
  crcBlock (tyTCB + at' s.ident.serial.toNat 8 + at' (b2n x.cr) 72 + at' (b2n x.preOk) 73 + at' (b2n (decide (8 ≤ n.val))) 74 +
    at' (b2n x.ackOn) 75 + at' x.laneGood.toNat 76 + at' s.pool.devId.toNat 84 + at' (b2n s.pool.idv) 89 +
    at' ownCap 96)

def whatNum (w : LctlWhat) : Nat := match w with | .standby => 1 | .deep => 2 | .x8 => 3 | .x4 => 4 | .x2 => 5
def whatOf (n : Nat) : Option LctlWhat :=
  match n with | 1 => some .standby | 2 => some .deep | 3 => some .x8 | 4 => some .x4 | 5 => some .x2 | _ => none

/-- LCTL (R313). -/
def lctlBlock (s : State) (kind what rid cause : Nat) : Block :=
  crcBlock (tyLCTL + at' kind 8 + at' what 12 + at' rid 16 + at' cause 20 + at' s.pool.devId.toNat 24 + at' (b2n s.pool.idv) 29 +
    at' s.ident.serial.toNat 64)

/-- The time blocks (R335). -/
def tsyncBlock (exch : BitVec 8) : Block := crcBlock (tyTSYNC + at' exch.toNat 8)
def treqBlock (exch : BitVec 8) (prev t2 : Nat) : Block := crcBlock (tyTREQ + at' exch.toNat 8 + at' (prev % 2 ^ 16) 16 + at' (t2 % 2 ^ 72) 32)
def trespBlock (exch : BitVec 8) (t1 t4 : Nat) : Block := crcBlock (tyTRESP + at' exch.toNat 8 + at' (t1 % 2 ^ 72) 16 + at' (t4 % 2 ^ 72) 88)

end Sys2Proof.Machine
end

