-- ==== Sys2Proof/Machine/Lanes.lean ====
section
/-! DEFINITION. What a strand's transmitter sends on its lanes: lane-local rows, the striped stream, the blocks that fill the positions
between them, and the line code of each lane (R265 to R271, R277 to R280, R283 to R288, R290, R301, R312, R316, R445). -/

namespace Sys2Proof.Machine

def phyOf (s : State) (n : Fin 10) : PhySt := s.strands[n].phy

/-- A training stage (R290). -/
def inTraining (st : Stage) : Bool :=
  match st with
  | .bitlock | .polarity | .lanemap | .deskew | .preset | .config => true
  | _ => false

/-! ### One lane -/

/-- Types whose payload is sent unscrambled, S holding still (R270). -/
def plainSent (t : Nat) : Bool := decide (t ∈ [tyMARKER, tyFILLER, tyCAL, tySTBY])
def unscrambled (b : Block) : Bool := decide (blkH b = 2) && plainSent (blkType b)

/-- A block as its payload leaves the scrambler (R268, R270), and the register after it, which a MARKER loads with the seed of the lane's
logical number (R269). -/
def scrBlock (l : Nat) (r : BitVec 31) (b : Block) : Block × BitVec 31 :=
  if unscrambled b then (b, if blkType b = tyMARKER then laneSeed l else r)
  else
    let (p, r) := scrXor 256 r (blkP b)
    (BitVec.ofNat 258 (at' (blkH b) 256 + p), r)

/-- A block goes out on complex A: its bits with stuff bits (R271). -/
def sendA (w : Block) (x : LaneTx) : List Nat × LaneTx :=
  let (u, r) := stuff x.run (blockBits w)
  (u.map b2n, { x with run := r })

/-- A block goes out on complex B: ten make a codeword, whose levels go out with the tenth (R277 to R280). A codeword is precoded where
precoding is in effect as it begins, the first after the level 0. -/
def sendB (pre : Bool) (w : Block) (x : LaneTx) : List Nat × LaneTx :=
  let x := if x.cw.isEmpty then { x with pre := pre, y := if pre && !x.pre then 0 else x.y } else x
  if x.cw.length < 9 then ([], { x with cw := x.cw ++ [w] })
  else
    let u := pamLevels (rsBits (x.cw ++ [w]))
    let (v, y) := if x.pre then precode x.y u else (u, x.y)
    (v, { x with cw := [], y := y })

/-- A lane sends a block: the UI that go out, and the lane after it. A MARKER opens a period, at position 0 (R284). -/
def sendLane (cxB pre : Bool) (l : Nat) (b : Block) (x : LaneTx) : List Nat × LaneTx :=
  let (w, r) := scrBlock l x.scr b
  let x := { x with scr := r, pos := if unscrambled b && decide (blkType b = tyMARKER) then 1 else x.pos + 1 }
  if cxB then sendB pre w x else sendA w x

/-! ### Fill -/

/-- The strand is on its DEEP exit (R318). -/
def deepExit (x : PhySt) : Bool := decide (x.stage = .active) && x.deepAt.isSome

/-- A position that a FILLER takes (R286): in ACTIVE, in IR clocking. -/
def fillerAt (x : PhySt) (pos : Nat) : Bool :=
  decide (x.stage = .active) && decide (x.pwr = .active) && !deepExit x && !x.crAgreed && decide (pos % 1024 = 512)

/-- The lane is of the set that the stream is dealt to (R266). -/
def carriesStream (x : PhySt) (l : Fin 8) : Bool :=
  decide (x.stage = .active) && decide (x.pwr = .active) && !deepExit x && (laneSet x.width x.group).testBit l.val

/-- What a lane sends at a position where nothing else is to go: TS or TCB in training and TS on DEEP exit (R290, R318), FILLER (R286), IDLE
in the lane set, and STBY outside it and in STANDBY (R301, R312, R316). -/
def fillBlock (s : State) (n : Fin 10) (l : Fin 8) (pos : Nat) : Block :=
  let x := phyOf s n
  if x.stage = .config then tcbBlock s n
  else if inTraining x.stage ∨ x.stage = .detect ∨ deepExit x then tsBlock s n l
  else if fillerAt x pos && (laneSet x.width x.group).testBit l.val then patBlock tyFILLER
  else if carriesStream x l then ctlBlock tyIDLE
  else patBlock tySTBY

/-- A lane sends k blocks of fill. -/
def fillLane (cxB pre : Bool) (l : Nat) (blk : Nat → Block) (k : Nat) (x : LaneTx) : LaneTx :=
  match k with
  | 0 => x
  | k + 1 => fillLane cxB pre l blk k (sendLane cxB pre l (blk x.pos) x).2

/-- Receive buffers of the partner (R332). -/
def bufSize (n : Fin 10) (k : Nat) : Nat :=
  match k % 3 with | 0 => if k = 6 then 0 else 16 | 1 => if n.val < 8 then 96 else 192 | _ => 32
/-- The buffers there are: all but GT of SNP. -/
def bufKeys : List Nat := (List.range 12).filter (· ≠ 6)
def kNet (k : Nat) : Net := netOf (k / 3)

def txQ (x : LinkSt) (k : Nat) : List TxFlit := spGet [] x.tx k
/-- A credit is held for buffer k (R332). -/
def txCredit (n : Fin 10) (x : LinkSt) (k : Nat) : Bool :=
  decide ((spGet 0 x.sent k + 256 - spGet 0 x.freedIn k) % 256 < bufSize n k)

/-- A packet waits to be sent, in a mode and session in which packets go over the strand (R336). -/
def txPackets (s : State) (n : Fin 10) : Bool := trafficOn s && decide (s.strands[n].lnk.link = .up)
def txWaits (s : State) (n : Fin 10) : Bool := txPackets s n && s.strands[n].lnk.tx.any fun e => !e.2.isEmpty

/-- A packet waits that cannot be launched: its buffer has no credit, or 1,024 SEQCs are unacknowledged (R445). -/
def txBlocked (s : State) (n : Fin 10) : Bool :=
  let x := s.strands[n].lnk
  txPackets s n && bufKeys.any fun k => !(txQ x k).isEmpty && (decide (1024 ≤ x.replay.length) || !txCredit n x k)

/-- The class of a stream position that no SEQC takes: 3 BLOCKED where a packet cannot be launched, else 2 STARVED (R445). -/
def idleClass (s : State) (n : Fin 10) : Nat := if txBlocked s n then 3 else 2

/-- k stream positions that no SEQC takes (R445). -/
def countIdle (n : Fin 10) (k : Nat) (s : State) : State :=
  countN (scOff n.val 4) k (countN (scOff n.val (idleClass s n)) k s)

/-- Lane l sends a block. -/
def laneSend (n : Fin 10) (b : Block) (l : Fin 8) (s : State) : State :=
  let x := phyOf s n
  let (u, t) := sendLane (decide (8 ≤ n.val)) x.precode l.val b x.tx[l]
  emit (.lane n l b u) (updPhy n (fun x => { x with tx := x.tx.set l t }) s)

/-- Lane l sends one block of fill. -/
def fillOne (n : Fin 10) (l : Fin 8) (s : State) : State :=
  let x := phyOf s n
  let p := x.tx[l].pos
  whenB (carriesStream x l && !fillerAt x p) (countIdle n 1) (laneSend n (fillBlock s n l p) l s)

/-- Lane l comes level with the lane that is furthest on, at position q. -/
def levelLane (n : Fin 10) (q : Nat) (l : Fin 8) (s : State) : State :=
  forEach (List.range (q - (phyOf s n).tx[l].pos)) (fun _ => fillOne n l) s

/-- Every lane comes to one position; the next stream block goes to the first lane of the set. -/
def levelLanes (n : Fin 10) (s : State) : State :=
  let q := (phyOf s n).tx.toList.foldl (fun m x => max m x.pos) 0
  updPhy n (fun x => { x with strm := 0 }) (forEach (List.finRange 8) (levelLane n q) s)

/-- Lane l sends fill up to position p. A long run of fill is driven at the boundary as its length alone. DESIGN CHOICE (log entry 91). -/
def fillTo (n : Fin 10) (p : Nat) (l : Fin 8) (s : State) : State :=
  let x := phyOf s n
  let from' := x.tx[l].pos
  let idle := if carriesStream x l then ((List.range (p - from')).filter fun i => !fillerAt x (from' + i)).length else 0
  let s' := emit (.fill n l (p - from')) (updPhy n (fun y => { y with
    tx := y.tx.set l (fillLane (decide (8 ≤ n.val)) x.precode l.val (fillBlock s n l) (p - from') x.tx[l]) }) s)
  countIdle n idle s'

/-- Every lane comes to position p, or to that of the lane that is further on. -/
def alignLanes (n : Fin 10) (p : Nat) (s : State) : State :=
  let s := levelLanes n s
  if p ≤ (phyOf s n).tx[0].pos then s else forEach (List.finRange 8) (fillTo n p) s

/-! ### Rows and the stream -/

/-- A lane-local block goes out on every lane at one position (R274, R284, R290). -/
def rowSend (n : Fin 10) (f : Fin 8 → Block) (s : State) : State :=
  forEach (List.finRange 8) (fun l => laneSend n (f l) l) (levelLanes n s)

/-- A stream block goes to the next lane of the set, after a FILLER where one is due there (R266, R286). -/
def streamSend (n : Fin 10) (b : Block) (s : State) : State :=
  let x := phyOf s n
  let ls := (List.finRange 8).filter fun l => (laneSet x.width x.group).testBit l.val
  match ls[x.strm]? with
  | none => s
  | some l =>
    let s := if fillerAt x x.tx[l].pos then laneSend n (patBlock tyFILLER) l s else s
    updPhy n (fun x => { x with strm := (x.strm + 1) % ls.length }) (laneSend n b l s)

/-- A control block goes into the stream, between containers (R274). -/
def controlSend (n : Fin 10) (b : Block) (s : State) : State :=
  countIdle n 1 (streamSend n b (emit (.block n b) s))

/-- The three data blocks of a container go into the stream (R324). -/
def containerBlocks (n : Fin 10) (c : RawContainer) (s : State) : State :=
  forEach [0, 1, 2] (fun j => streamSend n (dataBlock (nbits (256 * j + 255) (256 * j) c.toNat))) s

/-- A MARKER goes out on every lane, MCNT after it one higher (R284). -/
def sendMarker (n : Fin 10) (train : Bool) (s : State) : State :=
  updPhy n (fun x => { x with mcnt := x.mcnt + 1 }) (rowSend n (markerBlock s n train) s)

/-- The blocks of a marker period: 4,096 in ACTIVE and STANDBY, 32 in training and on DEEP exit (R284). -/
def markerPeriod (x : PhySt) : Nat := if x.stage = .active ∧ !deepExit x then 4096 else 32

/-- A TCB sent with ACK = 1 counts (R299). -/
def noteAckTx (n : Fin 10) (s : State) : State :=
  updPhy n (fun x => if x.ackOn then { x with ackTx := min 16 (x.ackTx + 1) } else x) s

/-- What a strand sends in its present training stage on every lane: TS, or TCB in CONFIG (R290). -/
def trainOut (n : Fin 10) (s : State) : State :=
  match (phyOf s n).stage with
  | .bitlock | .polarity | .lanemap | .deskew | .preset => rowSend n (tsBlock s n) s
  | .config => noteAckTx n (rowSend n (fun _ => tcbBlock s n) s)
  | _ => s

end Sys2Proof.Machine
end

