-- ==== Sys2Proof/Machine/Session.lean ====
section
/-! DEFINITION. Strand sessions and failover (R336 to R339, R371), and the lane states a strand leaves and enters with them (R290,
R302, R365). -/

namespace Sys2Proof.Machine

def strandP (n : Fin 10) : Fin 96 := portF (strandPort n.val)

/-! ### Lanes -/

/-- What every training starts without: the partner's blocks, the choice of rows, LCTL exchanges, the agreed modes (R302, R315). The
transmitter starts on its stored TX_ROW, row 0 where none is stored (R305), and without precoding (R280). -/
def phyFresh (x : PhySt) : PhySt :=
  { x with
    pDone := false, tcb := none, same := 0, ackRx := 0, ackOn := false, ackTx := 0, cfgDone := false, early := false, chosen := false
    dwell := 0, dwellStored := false, bestRow := 0, bestFom := 0, appRow := if x.rows.lastValid then x.rows.txRow else 0
    lctlOut := none, armed := none, wantPwr := none, wantWidth := none, rxMcnt := none, pwr := .active, rxPwr := .active, deepAt := none
    precode := false, fomLow := Vector.replicate 8 none, inBand := Vector.replicate 8 false
    width := 3, group := false, rxWidth := 3, rxGroup := false, locked := 0, polB := 0, frame := [], aligned := false
    rx := x.rx.map fun y => { y with pre := false, hist := 0, unc := 0, stby := false, q := [] } }

/-- PHY_STAT.REQ_LOST (R321). -/
def reqLost (n : Fin 10) (s : State) : State := regSetBit (slPage n.val 1 + 0x800) 4 s

/-- Start afresh: every unanswered request is cancelled (R315). -/
def phyRestart (n : Fin 10) (s : State) : State :=
  let x := s.strands[n].phy
  updPhy n phyFresh (whenB (x.lctlOut.isSome || x.wantPwr.isSome || x.wantWidth.isSome) (reqLost n) s)

/-- The clocking mode and precoding that a training takes as it starts (R285, R320). -/
def phyModes (n : Fin 10) (s : State) : State :=
  let c := regGet s (slPage n.val 1 + 0x40)
  updPhy n (fun x => { x with cr := fld 0 0 c = 1, preOk := fld 4 4 c = 1 }) s

/-- The PLL of a strand's complex is locked (R376). -/
def pllOk (s : State) (n : Fin 10) : Bool := if n.val < 8 then s.power.pllA else s.power.pllB

/-- Enter a training stage. -/
def phyStage (n : Fin 10) (st : Stage) (s : State) : State :=
  updPhy n (fun x => { x with stage := st, stageAt := s.clk.cyc, burstAt := s.clk.cyc }) s

/-- SL_CTRL.EN. -/
def strandEn (s : State) (n : Fin 10) : Bool := regFld s (slPage n.val 0 + 0x40) 0 0 = 1

/-- The strand's domain holds it DISABLED (R426, R427), or its tile is in T reset (R365). -/
def strandHeld (s : State) (n : Fin 10) : Bool :=
  decide (s.flt.strands[n].st ≠ .inn) || s.tiles[tileF (strandTile n.val)].isolated

/-- DETECT where the strand is enabled, powered and not held; DISABLED otherwise (R290, R376). -/
def phyIdle (n : Fin 10) (s : State) : State :=
  let go := strandEn s n && !strandHeld s n && decide (s.strands[n].phy.groups = 2) && pllOk s n
  let s := phyRestart n s
  phyStage n (if go then .detect else .disabled) (updPhy n (fun x => { x with fails := 0 }) s)

/-- A retrain: BITLOCK, sending TS (R302). -/
def phyRetrain (n : Fin 10) (s : State) : State := trainOut n (phyModes n (phyStage n .bitlock (phyRestart n s)))

/-- A stage failure; the third in a row leads to ABSENT (R291). DEDUCED (log entry 62). -/
def phyFail (n : Fin 10) (why : Nat) (s : State) : State :=
  let f := s.strands[n].phy.fails
  let s := updPhy n (fun x => { x with fails := min 2 (f + 1), failWhy := why }) (phyRestart n s)
  phyStage n (if 2 ≤ f then .absent else .detect) s

/-! ### Session -/

/-- The key of a strand port's re-injection queue, which keeps the order of failover (R339). -/
def reKey (net : Net) : Nat := qKey net .gt

/-- Queue packets for re-injection on TR, GT as LL (R339). DEDUCED (log entry 78). -/
def reinject (n : Fin 10) (l : List Flit) (s : State) : State :=
  forEach l (fun f s => updPort (strandP n) (fun x =>
    let q : QFlit := { flit := { f with cls := noGt f.cls, vc := vcTR }, fab := true, since := s.clk.cyc }
    { x with injq := spSet [] x.injq (reKey f.net) (spGet [] x.injq (reKey f.net) ++ [q]) }) s) s

/-- The packets of the unacknowledged SEQCs in order, then those queued for the link (R339). DEDUCED (log entry 78). -/
def unsent (x : LinkSt) : List Flit := x.replay.flatMap (·.pkts) ++ x.tx.flatMap fun e => e.2.map (·.flit)

/-- Session state that ends with the session. -/
def linkCleared (x : LinkSt) : LinkSt :=
  { x with replay := [], tx := [], msgs := [], credDue := [], nakAt := none, exchOpen := false }

/-- The positions of SEQCs that are not acknowledged and not named for replay are WASTED (R445). DEDUCED (log entry 78). -/
def wasteUnacked (n : Fin 10) (s : State) : State :=
  countN (scOff n.val 1) (3 * (s.strands[n].lnk.replay.filter fun x => !x.resend).length) s

/-- The session goes down (R336, R337): its UP bit falls and failover begins. Packets still in its receive buffers stay to be
released. -/
def sessionDown (n : Fin 10) (why : Nat) (s : State) : State :=
  let l := s.strands[n].lnk
  if l.link = .inactive ∨ l.link = .down then s
  else
    let s := wasteUnacked n (countStrand n 23 (reinject n (unsent l) s))
    poolAround (updLnk n fun x => { linkCleared x with link := .down, downWhy := why, fo := true, gtLat := 0, delay16 := none }) s

/-- The strand goes down and retrains (R302, R337). -/
def strandDown (n : Fin 10) (why : Nat) (s : State) : State := phyRetrain n (sessionDown n why s)

/-- Lanes reach ACTIVE with the session INACTIVE: a session starts (R336). -/
def sessionStart (n : Fin 10) (s : State) : State :=
  if s.strands[n].lnk.link ≠ .inactive then s
  else
    let s := updLnk n (fun x => { linkCleared x with
      link := .hello, next := 0, acked := 0xFFF, exp := 0, sent := [], freedIn := [], freedOut := [], freedSent := []
      rx := x.rx.map (fun e => (e.1, e.2.map fun f => { f with old := true }))
      crcCnt := 0, winCnt := 0, firstWin := true, hello := none, delay16 := none, gtLat := 0
      helloAt := s.clk.cyc, startAt := s.clk.cyc, credAt := s.clk.cyc, lastTx := s.clk.cyc, fo := false }) s
    let s := updPort (strandP n) (fun x =>
      let old := fun (e : Nat × List QFlit) => (e.1, e.2.map fun q => { q with rxBuf := none })
      { x with injq := x.injq.map old, gtq := x.gtq.map old }) s
    sendHello n (updPhy n (fun x => { x with lastCal := s.clk.cyc }) s)

/-- The packets of the mesh that stand in the ejection queue of a strand port. -/
def ejWaiting (x : PortSt) : Bool := x.ejq.any fun e => !e.2.isEmpty

/-- FAILOVER_DONE (R336, R339): every stored packet has been re-injected. DEDUCED (log entry 78). -/
def failoverEnd (n : Fin 10) (s : State) : State :=
  let l := s.strands[n].lnk
  let left := allNets.any fun k => !(spGet [] s.ports[strandP n].injq (reKey k)).isEmpty
  if l.link ≠ .down ∨ left then s
  else
    let s := updLnk n (fun x => { x with link := .inactive, fo := false }) s
    if s.strands[n].phy.stage = .active then sessionStart n s else s

/-! ### The strand port's fabric half -/

/-- The packets of a queue that are not the unit's but the locket port's own (R237). -/
def lockOnly (q : Sparse (List QFlit)) : Sparse (List QFlit) :=
  q.filterMap fun e =>
    let l := e.2.filter (·.lk)
    if l.isEmpty then none else some (e.1, l)

/-- A reset of a fabric half clears its traffic (R371). -/
def portTraffic (x : PortSt) : PortSt :=
  { x with
    injCrd := [], ejCrd := [], injq := [], gtq := [], rspOpen := [], ejq := [], toUnit := [], opens := [], snpOut := []
    inCnt := 0, refused := [], curReq := 0, oldReq := 0, curRsp := 0, oldRsp := 0, pingOut := none, pairDat := [], pairCmp := []
    heldDec := [], lkSeen := [], stageIn := [], stallEnd := 0, beCnt := [], llCnt := []
    xf := { toggle := x.xf.toggle } }

/-- The receive buffer a packet stood in is freed (R332). -/
def rxFree (n : Fin 10) (buf : Nat) (s : State) : State :=
  updLnk n (fun x => { x with freedOut := spSet 0 x.freedOut buf ((spGet 0 x.freedOut buf + 1) % 256) }) s

/-- Discard a fabric half's traffic; what a strand port had queued for injection is freed. -/
def clearTraffic (p : Fin 96) (s : State) : State :=
  let x := s.ports[p]
  let s := match strandOf p.val with
    | some n => forEach ((x.injq ++ x.gtq).flatMap fun e => e.2.filterMap (·.rxBuf)) (rxFree n) s
    | none => s
  updPort p portTraffic s

/-- What step 1 of R204 discards: the unit's traffic. The locket port's own packets stay, and so does what is still on its way here,
which R205 handles as it comes (R237). -/
def clearUnit (p : Fin 96) (s : State) : State :=
  let x := s.ports[p]
  updPort p (fun y => { y with injq := lockOnly x.injq, gtq := lockOnly x.gtq, ejq := x.ejq }) (clearTraffic p s)

/-- S reset (R336, R365, R371): the session goes down with nothing to re-send, its buffers and the port's traffic are discarded, and
the lanes go to DISABLED and on to DETECT where they may. DEDUCED (log entry 30). -/
def strandReset (n : Fin 10) (s : State) : State :=
  let p := strandP n
  let was := s.strands[n].lnk.link
  let s := wasteUnacked n s
  let s := if was = .inactive ∨ was = .down then s else countStrand n 23 s
  let s := staleClear (slPage n.val 1) s
  let s := poolAround (updLnk n fun x =>
    { linkCleared x with link := if was = .inactive then .inactive else .down, downWhy := if was = .inactive then x.downWhy else 7
                         fo := decide (was ≠ .inactive)
                         gtLat := 0, delay16 := none, rx := [], next := 0, acked := 0xFFF, exp := 0, sent := [], freedIn := []
                         freedOut := [], freedSent := [], crcCnt := 0, winCnt := 0, hello := none }) s
  let s := updPort p (fun x => { portTraffic x with st := if x.st = .active ∨ x.st = .fencing then .reset else x.st }) s
  phyIdle n (updPhy n (fun x => { x with failWhy := 0, fom := Vector.replicate 8 0, skew := 0, slow := 0, laneGood := 0
                                         polInv := 0, reversed := false, crAgreed := false, swept := false, rxRow := 0 }) s)

end Sys2Proof.Machine
end

