-- ==== Sys2Proof/Machine/Ports.lean ====
section
/-! DEFINITION. Port states, fences, power states, peer-down and crossings (R203 to R211, R361 to R364, R375, R377). -/

namespace Sys2Proof.Machine

/-! ### States -/

def stateNum (x : PState) : Nat := match x with | .disabled => 0 | .reset => 1 | .active => 2 | .fencing => 3 | .fenced => 4

/-- fai_port_en (R190). -/
def portEn (x : PortSt) : Bool := decide (x.st = .active ∨ x.st = .fencing)

def fenceOff (p : Fin 96) : Nat := portPage p.val + 0x44
def fenceReg (s : State) (p : Fin 96) : Bool := regFld s (fenceOff p) 0 0 = 1
def setFence (p : Fin 96) (v : Bool) (s : State) : State := regPut (fenceOff p) 0 0 (b2n v) s

/-- A sticky bit of PORT_STAT (R212). -/
def portSticky (p : Fin 96) (bit : Nat) (s : State) : State := regSetBit (portPage p.val + 0x800) bit s

/-! ### Power (R210, R211, R377) -/

/-- The fabric drives fai_pwr to a new state and waits 10 us for its acknowledgement. -/
def powerTo (p : Fin 96) (v : BitVec 2) (s : State) : State :=
  let x := s.ports[p]
  if x.pwr = v then updPort p (fun x => { x with faiPwr := v, pwrWait := none }) s
  else updPort p (fun x => { x with faiPwr := v, pwrWait := some (x.pwr, s.clk.cyc + cycUs 10) }) s

/-- Withdraw credits and enter FENCED, in the state PORT_CTRL.PWR_REQ names (R203, R210). -/
def portFence (p : Fin 96) (s : State) : State :=
  let s := updPort p (fun x => { x with st := .fenced, injCrd := [], ejCrd := [], toUnit := [] }) s
  powerTo p (BitVec.ofNat 2 (regFld s (portPage p.val + 0x40) 5 4)) s

/-- PWR_ACK. OFF unpowers the fabric half but for its header: what it holds is gone, its side of the crossing included (R210). -/
def pwrAckDo (p : Fin 96) (s : State) : State :=
  if (s.ports[p]).pwrWait.isSome then
    let s := updPort p (fun x => { x with pwr := x.faiPwr, pwrWait := none }) s
    if s.ports[p].pwr = 2 then clearTraffic p s else s
  else s

/-- PWR_NOACK (R210). -/
def pwrNoackDo (p : Fin 96) (s : State) : State :=
  match s.ports[p].pwrWait with
  | none => s
  | some (old, at') =>
    portSticky p 14 (updPort p (fun x => { x with pwr := old, faiPwr := old, pwrWait := none, powerUp := none }) (advanceTo at' s))

/-- Exit time of a power state in cycles (R210). -/
def pwrExit (v : BitVec 2) : Nat := if v = 2 then cycUs 20 else if v = 1 then cycNs 100 else 0

/-- ACT 0x06 at launch (R211, R377). -/
def portPowerDo (p : Fin 96) (arg : Nat) (s : State) : State :=
  let x := s.ports[p]
  if x.st ≠ .fenced then portSticky p 15 s
  else if arg = 0 then
    let off := decide (x.pwr = 2)
    let start := if off then max s.clk.cyc s.power.upBusy else s.clk.cyc
    let s := if off then { s with power := { s.power with upBusy := start + cycUs 1 } } else s
    powerTo p 0 (updPort p (fun y => { y with powerUp := some (start + pwrExit x.pwr) }) s)
  else powerTo p (BitVec.ofNat 2 arg) s

/-- PORT_POWER_UP_DONE (R211): through RESET, in the same generation, once the unit has acknowledged ON (R210). -/
def powerUpDoneDo (p : Fin 96) (s : State) : State :=
  match s.ports[p].powerUp with
  | none => s
  | some e =>
    if s.ports[p].pwrWait.isSome then s else
    let s := advanceTo e s
    if s.ports[p].st ≠ .fenced ∨ s.tiles[tileF (portTile p.val)].isolated then updPort p (fun x => { x with powerUp := none }) s
    else setFence p false (updPort p (fun x => { x with powerUp := none, st := .reset, holdDown := s.clk.cyc }) s)

/-! ### Into and out of service -/

/-- Enter ACTIVE: the unit may be granted credits (R193, R203). -/
def portOpen (p : Fin 96) (s : State) : State :=
  regrant p (updPort p (fun x => { x with st := .active, ejCrd := [], pingOut := none, pingAt := s.clk.cyc + cycUs (portPingUs s p.val) }) s)

/-- PORT_ACTIVATE (R203, R204): fai_rst_n = 1, the crossing in RUN and the hold-down over. -/
def portActivateDo (p : Fin 96) (s : State) : State :=
  let s := updPort p (fun x => { x with rstN := true }) s
  let x := s.ports[p]
  let tl := s.tiles[tileF (portTile p.val)]
  if x.st ≠ .reset ∨ x.xf.st ≠ .run ∨ x.faultHeld ∨ tl.isolated ∨ !tl.waved ∨ !carries s.ms.mode then s
  else
    let s := advanceTo x.holdDown s
    if fenceReg s p then portFence p s else portOpen p s

/-- The fabric enters HOLD, LOAD or KEEP (R203). DEDUCED (log entry 29). -/
def portDisable (p : Fin 96) (s : State) : State :=
  clearTraffic p (updPort p (fun x => { x with st := .disabled, powerUp := none }) s)

/-! ### Peer down (R204, R205) -/

/-- An open write burst: its first packet is injected and not yet all of them (R198). -/
def openBurst (e : OEntry) : Bool :=
  hasLines e.req.opc.toNat && e.ghostAt.isNone && (e.reqIn || decide (e.linesIn ≠ 0) || e.maskIn) &&
    !(e.reqIn && decide (e.linesIn.toNat = compMask e.req) && (e.maskIn || !hasMask e.req))

/-- BABANDON for an open burst (R94, R204). -/
def abandon (p : Fin 96) (e : OEntry) (s : State) : State :=
  fabSend p { net := .req, dst := e.req.dst, src := BitVec.ofNat 7 p.val, cls := .mg, qos := e.req.qos
              tag := BitVec.ofNat 12 (nbits 9 0 e.req.tag.toNat + at' e.gen.toNat 10), opc := BitVec.ofNat 6 opBABANDON
              dstdev := e.req.dstdev } s

/-- Steps 1 to 5 of R204 from ACTIVE, FENCING or FENCED, with the AGENTLOST reason. -/
def peerDownSteps (p : Fin 96) (reason : Nat) (s : State) : State :=
  if s.ports[p].st = .disabled ∨ s.ports[p].st = .reset then s
  else
    let bursts := (s.ports[p].opens.map (·.2)).filter openBurst
    let crit := regFld s (portPage p.val + 0x40) 0 0 = 1
    let s := updPort p (fun x => { x with st := .reset, powerUp := none }) (clearUnit p s)
    let s := forEach bursts (abandon p) s
    let s := lkPortReset p s
    let s := if crit && reportsLost p.val then sendAgentLost p p.val reason s else s
    let s := updPort p (fun x => { x with gen := x.gen + 1, holdDown := s.clk.cyc + cycUs 100, fenceWhy := 0 }) s
    -- the fields of PORT_STAT and PG_STAT that a Q reset does not leave (R48, R369)
    staleClear (portPage p.val) (regSet (portPage p.val + 0x800) 0 s)

/-- A peer down is detected (R204); the T reset of an isolated tile absorbs it (R366). DEDUCED (log entries 28 and 57). -/
def peerDownDo (p : Fin 96) (reason : Nat) (s : State) : State :=
  if s.ports[p].st = .disabled ∨ s.ports[p].st = .reset ∨ s.tiles[tileF (portTile p.val)].isolated then s else portSticky p 12 (peerDownSteps p reason (countPort p 44 s))

/-! ### Tile isolation and return (R203, R206) -/

/-- A port of an isolated tile. DEDUCED (log entry 29). -/
def portIsolate (p : Fin 96) (s : State) : State :=
  lkPortReset p (updPort p (fun x => { x with st := .fenced, powerUp := none, faultHeld := false }) (clearTraffic p s))

/-- AGENTLOST for the units of an isolated tile (R206). -/
def isolationReport (t : Nat) (s : State) : State :=
  forEach ([2 * t, 2 * t + 1].filter reportsLost) (fun p s => sendAgentLost (locketPort s) p 2 s) s

/-- A port of a re-admitted tile: through RESET, with one increment of its generation; DISABLED, it waits for the tile's wave.
DEDUCED (log entry 29). -/
def portReturn (p : Fin 96) (s : State) : State :=
  if s.tiles[tileF (portTile p.val)].waved || decide (s.ports[p].st = .fenced) then
    updPort p (fun x => { x with st := .reset, gen := x.gen + 1, holdDown := s.clk.cyc + cycUs 100 }) s
  else s

/-! ### Ejection (R90, R108, R195, R205, R208) -/

/-- The 32 transit DAT packets of one direction of pairing are held, those on their way in counted. -/
def pairFull (x : PortSt) : Bool :=
  let all := x.pairDat.map (·.1) ++ ((spGet [] x.ejq 3).map (·.flit)).filter (·.transit)
  decide (32 ≤ (all.filter (·.cnet)).length) || decide (32 ≤ (all.filter fun d => !d.cnet).length)

/-- An L output may send a flit of a class: the unit's credit, and room to pair DAT; a fabric half whose credits do not flow takes
every packet itself. -/
def ejectRoom (s : State) (p : Fin 96) (n : Net) (c : Cls) : Bool :=
  let x := s.ports[p]
  if portEn x then decide (0 < ejCredit s p n c) && !(decide (n = .dat) && pairFull x) else usedPort p.val

/-! ### Fences (R203, R208, R209) -/

/-- A valid entry of either bead bank names the port (R189). -/
def beadNames (s : State) (p : Nat) : Bool :=
  [false, true].any fun b =>
    ((gtInjs s b).any fun g => decide (g.port = p) || decide (g.dst = p ∧ g.dev = (ownDev s).toNat)) ||
      ((outEntries s b).any fun x => decide (x.2.1 = portTile p ∧ x.2.2.2.1 = 4 + p % 2))

/-- FENCE_WHY of a request (R209). -/
def fenceCode (s : State) (p : Fin 96) : Nat :=
  let u := unitOf p.val
  if beadNames s p.val then 1
  else if lkOpenMask s p ≠ 0 ∨ (isMap p.val ∧ stagedOf s (channelOf p.val) ≠ 0) then 2
  else if s.ms.mode ≠ .run ∧ s.ms.mode ≠ .degraded ∧ s.ms.mode ≠ .test then 3
  else if isStrandPort p.val then 4
  else if u = .mgt ∨ u = .sec ∨ u = .pfc then 5
  else if s.ports[p].st ≠ .active then 6
  else 0

/-- A write of PORT_FENCE.FENCE over its former value. -/
def fenceWrite (p : Fin 96) (old new : Bool) (s : State) : State :=
  let x := s.ports[p]
  if new then
    let c := fenceCode s p
    let s := updPort p (fun x => { x with fenceWhy := c }) s
    if c = 0 then setFence p true (updPort p (fun x => { x with st := .fencing, fenceAt := s.clk.cyc + cycMs 1 }) s)
    else setFence p old s
  else
    match x.st with
    | .fencing => setFence p false (updPort p (fun x => { x with st := .active }) s)
    | .fenced => setFence p old s
    | _ => setFence p false s

/-- PORT_INFL counts (R207). -/
def inflOut (x : PortSt) : Nat := x.opens.length + x.snpOut.length

/-- FENCE_DRAINED. -/
def fenceDrainedDo (p : Fin 96) (s : State) : State :=
  let x := s.ports[p]
  if x.st = .fencing && decide (inflOut x = 0 ∧ x.inCnt = 0) then portFence p s else s

/-- FENCE_STUCK: the deadline passes once. -/
def fenceStuckDo (p : Fin 96) (s : State) : State :=
  if s.ports[p].st = .fencing && decide (s.ports[p].fenceAt ≠ 0) then
    portSticky p 13 (updPort p (fun x => { x with fenceAt := 0 }) (advanceTo s.ports[p].fenceAt s))
  else s

/-! ### Crossings (R362, R363) -/

def getX (x : PortSt) (d : Side) : XSide := match d with | .fabric => x.xf | .unit => x.xu
def setX (d : Side) (v : XSide) (x : PortSt) : PortSt := match d with | .fabric => { x with xf := v } | .unit => { x with xu := v }
def otherSide (d : Side) : Side := match d with | .fabric => .unit | .unit => .fabric
/-- RDY (R362). -/
def xRdy (v : XSide) : Bool := decide (v.st = .armed ∨ v.st = .run)

/-- A side in INIT whose peer shows RDY 0 has seen it low. DEDUCED (log entry 79). -/
def xSee (x : PortSt) : PortSt :=
  let see := fun (a b : XSide) => if a.st = .init && !xRdy b then { a with sawLow := true } else a
  { x with xf := see x.xf x.xu, xu := see x.xu x.xf }

/-- CROSSING_INIT; an unpowered fabric half stays DOWN (R210). DEDUCED (log entry 79). -/
def xInitDo (p : Fin 96) (d : Side) (s : State) : State :=
  updPort p (fun x =>
    let v := getX x d
    if decide (v.st = .down) && !(decide (d = .fabric) && decide (x.pwr = 2)) then
      let o := getX x (otherSide d)
      let o := if o.st = .init then { o with changes := o.changes + 1 } else o
      xSee (setX (otherSide d) o (setX d { st := .init, toggle := !v.toggle, since := s.clk.cyc } x))
    else x) s

/-- CROSSING_ARM: the toggles chase until four changes are seen; the pointers of every network stand at 0 (R359, R363).
DEDUCED (log entry 79). -/
def xArmDo (p : Fin 96) (d : Side) (s : State) : State :=
  updPort p (fun x =>
    let v := getX x d
    let o := getX x (otherSide d)
    if v.st = .init && v.sawLow && decide (o.st ≠ .down) then
      setX d { v with st := .armed, changes := max 4 v.changes, since := s.clk.cyc, wr := [], rd := [] } x
    else x) s

/-- n cycles of a side's own clock pass, where their length in FCLK cycles is fixed (R354, R355, R357). DEDUCED (log entry 79). -/
def sidePass (p : Fin 96) (d : Side) (start n : Nat) (s : State) : State :=
  match d with
  | .fabric => advanceTo (start + n) s
  | .unit =>
    match (unitClk p.val).bind fun c => clkCycles c n with
    | some k => advanceTo (start + k) s
    | none => s

/-- CROSSING_RUN: the peer's RDY is accepted, the latency of the port's class after it rose (R357, R362). DEDUCED (log entry 79). -/
def xRunDo (p : Fin 96) (d : Side) (s : State) : State :=
  let v := getX s.ports[p] d
  let o := getX s.ports[p] (otherSide d)
  if v.st = .armed && xRdy o then
    let s := sidePass p d o.since (crossLatency (crossClass p.val)) s
    updPort p (setX d { v with st := .run, since := s.clk.cyc }) s
  else s

/-- A side goes DOWN because its peer is in reset: both hold nothing, and the fabric side reports peer down. -/
def xPeerDown (p : Fin 96) (d : Side) (s : State) : State :=
  let s := updPort p (fun x => xSee (setX d (xDown (getX x d)) (setX (otherSide d) (xDown (getX x (otherSide d))) x))) s
  match d with
  | .fabric => peerDownDo p 1 s
  | .unit => s

/-- CROSSING_ALIVE_MISS: 64 own cycles without a change. DEDUCED (log entry 79). -/
def xAliveMissDo (p : Fin 96) (d : Side) (s : State) : State :=
  let v := getX s.ports[p] d
  if v.st = .run ∨ v.st = .armed then xPeerDown p d (sidePass p d s.clk.cyc 64 s) else s

/-- CROSSING_PEER_RDY_LOW: a peer that shows RDY 0 has been in reset. -/
def xRdyLowDo (p : Fin 96) (d : Side) (s : State) : State :=
  let v := getX s.ports[p] d
  let o := getX s.ports[p] (otherSide d)
  if v.st ≠ .run then s
  else
    let s := if xRdy o then updPort p (setX (otherSide d) (xDown o)) s else s
    let s := updPort p (fun x => xSee (setX d (xDown (getX x d)) x)) s
    match d with
    | .fabric => peerDownDo p 1 s
    | .unit => s

/-! ### Start-up waves (R32, R375) -/

/-- A port of a released tile leaves DISABLED. DEDUCED (log entry 29). -/
def portWave (p : Fin 96) (s : State) : State :=
  if usedPort p.val && decide (s.ports[p].st = .disabled) && !s.tiles[tileF (portTile p.val)].isolated then
    updPort p (fun x => { x with st := .reset, holdDown := s.clk.cyc }) s
  else s

/-- TILE_WAVE: the next of the 12 waves. -/
def tileWaveDo (s : State) : State :=
  if 12 ≤ s.power.waves ∨ !carries s.ms.mode ∨ s.ms.mode = .drain then s
  else
    let w := s.power.waves
    let s := advanceTo s.power.waveAt s
    let s := { s with power := { s.power with waves := w + 1, waveAt := s.power.waveAt + cycNs 512 } }
    forEach ((List.range 48).filter fun t => t % 12 = w) (fun t s =>
      let s := updTile (tileF t) (fun x => { x with waved := true }) s
      portWave (portF (2 * t + 1)) (portWave (portF (2 * t)) s)) s

/-! ### Registers (R212, R213, R378) -/

/-- PORT_STAT but its sticky bits. -/
def portStatWord (x : PortSt) : Nat := at' x.fenceWhy 8 + at' x.gen.toNat 6 + at' x.pwr.toNat 4 + stateNum x.st

def portInflWord (x : PortSt) : Nat := at' (min 65535 x.inCnt) 16 + inflOut x

/-- A PORT_OPEN entry. -/
def portOpenWord (x : PortSt) (i : Nat) : Nat :=
  match x.opens.find? fun e => e.1 = i with
  | none => 0
  | some (_, e) =>
    at' 1 31 + at' (b2n (openBurst e)) 30 + at' (b2n e.reissued) 29 + at' (b2n e.ghostAt.isSome) 28 + at' e.req.lmask.toNat 24 +
      at' e.req.opc.toNat 18 + at' e.gen.toNat 16 + nbits 9 0 e.req.tag.toNat

/-- The ports of PORT_OFF in bit order (R378). -/
def offPorts : List Nat :=
  List.range 16 ++ [18, 20, 26, 28, 32, 33, 36, 38, 40, 42, 46, 47, 48, 49, 52, 54, 56, 58, 62, 63, 66, 68, 72, 74, 76] ++
    (List.range 16).map (· + 80)

def portOffWord (s : State) : Nat :=
  ((offPorts.zipIdx).map fun x => at' (b2n (decide (s.ports[portF x.1].faiPwr ≠ 0))) x.2).sum

end Sys2Proof.Machine
end

