-- ==== Sys2Proof/Machine/Faults.lean ====
section
/-! DEFINITION. What a severe event does and how a domain returns (R365, R371, R426 to R433), and factory injection (R435, R436). -/

namespace Sys2Proof.Machine

/-! ### Routers -/

/-- Tile t's routers lose their flits; they and the neighbours' outputs that face them start with full credits (R365, R371).
DEDUCED (log entry 15). -/
def rtrPurge (t : Nat) (s : State) : State :=
  let mineV := fun (k : Nat) => decide (k / 224 = t)
  let faces := fun (k : Nat) => decide (neighbour (k / 224) (rpOf (k / 8 % 7)) = some t ∧ k / 8 % 7 < 4)
  let r := s.rtr
  { s with rtr := { r with
      vcs := spFilter (fun k => !mineV k) r.vcs
      ansq := spDel r.ansq t
      credits := spFilter (fun k => !mineV k && !faces k) r.credits
      late := r.late.filter fun e => !mineV e.2 && !faces e.2
      rrIn := spFilter (fun k => !mineV k) r.rrIn
      rrVc := spFilter (fun k => !mineV k) r.rrVc
      beCnt := spFilter (fun k => !mineV k) r.beCnt
      llCnt := spFilter (fun k => !mineV k) r.llCnt } }

/-! ### Isolation and link removal (R206, R257, R365, R426) -/

/-- The ports of a tile. -/
def tilePorts (t : Nat) : List (Fin 96) := ([2 * t, 2 * t + 1].filter usedPort).map portF

/-- Tile t goes into T reset: its routers, fabric halves and hallmark queue, and its strands by S reset. DEDUCED (log entry 15). -/
def isolateTile (t : Fin 48) (s : State) : State :=
  let s := updTile t (fun x => { x with isolated := true }) s
  let s := rtrPurge t.val s
  let s := forEach ((tilePorts t.val).filterMap fun p => strandOf p.val) strandReset s
  let s := forEach (tilePorts t.val) portIsolate s
  let s := forEach (allNets.map (rtrPage t.val) ++ (tilePorts t.val).map fun p => portPage p.val) staleClear s
  let s := hmDiscardTile 5 t s
  let s := isolationReport t.val s
  let s := lkTileLost t.val s
  plannerLoss (.tile t.val) s

/-- Tile t leaves T reset (R203, R426, R427). DEDUCED (log entry 15). -/
def admitTile (t : Fin 48) (s : State) : State :=
  let s := updTile t (fun x => { x with isolated := false, admin := false, timeOff := 0 }) s
  let s := rtrPurge t.val s
  let s := forEach (tilePorts t.val) portReturn s
  let s := forEach ((tilePorts t.val).filterMap fun p => strandOf p.val) phyIdle s
  plannerBack s

/-- A mesh link goes out of service on a network, in both directions (R425). -/
def removeLink (t : Fin 48) (l : Nat) (n : Net) (s : State) : State :=
  plannerLoss (.link l n) (updTile t (fun x => { x with linkOut := some (l, n) }) s)

/-! ### Severe events (R426, R427) -/

/-- A domain begins its reaction. -/
def reactBegin (d : Domain) (byLink : Bool) (s : State) : State :=
  updDom d (fun x => { x with reacting := true, done := false, reactAt := s.clk.cyc, shadow := true, byLink := byLink
                              wantIn := false }) s

def faulted (d : Domain) (s : State) : State := quietStart d (updDom d (fun x => { x with st := .faulted }) s)

def tileSevere (t : Fin 48) (conf : Option (RPort × Net)) (s : State) : State :=
  match s.flt.tiles[t].st with
  | .retired => s
  | .faulted => quietStart (.tile t) s
  | .inn =>
    let s := faulted (.tile t) s
    if s.tiles[t].isolated then updTile t (fun x => { x with admin := false }) s
    else
      match conf.bind fun c => (linkNum t.val c.1).map fun l => (l, c.2) with
      | some (l, n) => removeLink t l n (reactBegin (.tile t) true s)
      | none => isolateTile t (reactBegin (.tile t) false s)

/-- DOWNWHY of a strand that its source's severe event takes down. DEDUCED (log entry 63). -/
def severeWhy (src : Nat) : Nat := if src = 8 then 1 else if src = 9 then 2 else if src = 10 then 3 else if src = 11 then 4 else 5

/-- DEDUCED (log entry 63). -/
def strandSevere (n : Fin 10) (src : Nat) (s : State) : State :=
  match s.flt.strands[n].st with
  | .retired => s
  | .faulted => quietStart (.strand n) s
  | .inn =>
    let s := faulted (.strand n) (reactBegin (.strand n) false s)
    let s := phyIdle n (sessionDown n (severeWhy src) s)
    if s.strands[n].lnk.link = .down then s
    else updDom (.strand n) (fun x => { x with done := true, doneAt := s.clk.cyc }) s

/-- Ports whose domain takes no reaction. -/
def portQuiet (p : Nat) : Bool := match unitOf p with | .mgt | .sec | .pfc => true | _ => false

/-- DEDUCED (log entry 28). -/
def portSevere (p : Fin 96) (s : State) : State :=
  match s.flt.ports[p].st with
  | .retired => s
  | .faulted => quietStart (.port p) s
  | .inn =>
    if portQuiet p.val then
      updDom (.port p) (fun x => { x with done := true, doneAt := s.clk.cyc }) (faulted (.port p) s)
    else
      let s := faulted (.port p) (reactBegin (.port p) false s)
      updPort p (fun x => { x with faultHeld := true }) (peerDownDo p 1 s)

/-- A fault event with its reaction. -/
def faultEvent (x : Place) (src : Fin 15) (s : State) : State :=
  let (v, s) := fltNote x src s
  if !v.severe then s
  else
    match domOf x with
    | .tile t => tileSevere t v.confined s
    | .strand n => strandSevere n src.val s
    | .port p => portSevere p s
    | .global => globalSevere s

/-! ### Completion, quiet and re-admission (R426 to R428) -/

/-- The longest retry time of any port, in us. -/
def maxRetryUs (s : State) : Nat := (allPorts.map fun p => if pingCapable p then portRetryUs s p else 0).foldl max 0

/-- A domain returns to service. -/
def readmit (d : Domain) (s : State) : State :=
  let byLink := (getDom s d).byLink
  let s := updDom d (fun x => { x with st := .inn, reacting := false, wantIn := false, byLink := false }) s
  match d with
  | .tile t =>
    if byLink then plannerBack (updTile t (fun x => { x with linkOut := none }) s)
    else if s.tiles[t].isolated && !s.tiles[t].admin then admitTile t s
    else s
  | .strand n => phyIdle n s
  | .port p => updPort p (fun x => { x with faultHeld := false, holdDown := s.clk.cyc }) s
  | .global => s

/-- The reaction of a tile waits for the drain of the planner's switch, where its loss has a plan. -/
def planPending (s : State) (t : Fin 48) : Bool :=
  let l := if s.flt.tiles[t].byLink then s.tiles[t].linkOut.map fun x => Lost.link x.1 x.2 else some (Lost.tile t.val)
  match l with
  | some l => decide (s.planner.plan = some l) && !(decide (s.epoch.planned = some l) && decide (s.epoch.switch = .idle))
  | none => false

/-- The cycle from which a reaction may be complete. -/
def reactEnd (s : State) (d : Domain) : Nat :=
  let x := getDom s d
  match d with
  | .tile _ => x.reactAt + cycUs (2 * maxRetryUs s)
  | .port p => x.reactAt + cycUs (2 * portRetryUs s p.val)
  | _ => x.reactAt

/-- REACTION_COMPLETE: a re-admission that waited for it follows. -/
def reactionDoneDo (d : Domain) (s : State) : State :=
  let x := getDom s d
  let wait := match d with
    | .tile t => planPending s t
    | .strand n => decide (s.strands[n].lnk.link = .down)
    | _ => false
  if !x.reacting || x.done || wait then s
  else
    let s := advanceTo (reactEnd s d) s
    let s := updDom d (fun x => { x with done := true, doneAt := s.clk.cyc }) s
    if x.wantIn && decide (s.ms.mode ≠ .drain) then
      (match d with
       | .tile t => if x.st = .inn then admitTile t (updDom d (fun x => { x with reacting := false, wantIn := false }) s) else readmit d s
       | _ => readmit d s)
    else s

/-- SHADOW_END. -/
def shadowEndDo (d : Domain) (s : State) : State :=
  let x := getDom s d
  if x.shadow && x.done then updDom d (fun x => { x with shadow := false }) (advanceTo (x.doneAt + cycUs 10) s) else s

/-- QUIET_EXPIRE. -/
def quietExpireDo (d : Domain) (s : State) : State :=
  let x := getDom s d
  if x.st ≠ .faulted ∨ !x.done ∨ quietHeld s then s
  else
    let s := advanceTo x.quietAt s
    let rc := min 255 (x.rc + 1)
    let s := updDom d (fun x => { x with rc := rc }) s
    if rc < fltRcMax s then readmit d s
    else
      let s := updDom d (fun x => { x with st := .retired }) s
      match d with
      | .tile t => hmDiscardTile 5 t s
      | _ => s

/-- FLT_ACK acknowledge and re-admit. -/
def fltAckDo (d : Domain) (s : State) : State := updDom d (fun x => { x with rc := 0 }) s
def fltReadmitDo (d : Domain) (s : State) : State :=
  let x := getDom s d
  if x.st = .inn then s
  else
    let s := updDom d (fun x => { x with rc := 0 }) s
    if x.done || decide (x.st = .retired) then readmit d s else updDom d (fun x => { x with wantIn := true }) s

/-- FAULT_WINDOW_END. DEDUCED (log entry 74). -/
def windowEndDo (d : Domain) (src : Fin 15) (s : State) : State :=
  match (getDom s d).wins.find? fun w => w.src = src with
  | none => s
  | some w => updDom d (fun x => { x with wins := x.wins.filter (fun w => w.src ≠ src) }) (advanceTo w.endAt s)

/-! ### TILE_CTRL (R433) -/

def tileCmdRej (t : Fin 48) (s : State) : State := regSetBit (tilePage t.val + 0x800) 24 s

def tileIsolateDo (t : Fin 48) (s : State) : State :=
  let okMode := decide (s.ms.mode = .run ∨ s.ms.mode = .degraded ∨ s.ms.mode = .test)
  if !okMode || decide (t.val = 11 ∨ t.val = 12 ∨ t.val = 35) || s.tiles[t].isolated then tileCmdRej t s
  else isolateTile t (reactBegin (.tile t) (s.flt.tiles[t].byLink) (updTile t (fun x => { x with admin := true }) s))

def tileReadmitDo (t : Fin 48) (s : State) : State :=
  if !s.tiles[t].admin || decide (s.flt.tiles[t].st ≠ .inn) then tileCmdRej t s
  else if s.flt.tiles[t].done then
    admitTile t (updDom (.tile t) (fun x => { x with reacting := false }) s)
  else updDom (.tile t) (fun x => { x with wantIn := true }) s

/-! ### Injection (R435, R436) -/

/-- INJ_TABLE entry e. -/
def injGet (s : State) (e : Nat) : Nat := (tblGet s (tblKey 0x3000 (0xC40 + 8 * e) 0 0)).toNat

/-- The domain at the far end of a router's output. -/
def farDomain (t : Nat) (r : RPort) : Option Domain :=
  match r with
  | .l0 | .l1 =>
    let p := 2 * t + (rpNum r - 4)
    if usedPort p then some (domOf (.port (portF p))) else none
  | _ => (neighbour t r).map fun u => .tile (tileF u)

/-- The strand at slot u of tile t. -/
def slotStrand (t u : Nat) : Option (Fin 10) := if u < 2 then strandOf (2 * t + u) else none

/-- FAULT_INJECTION (R435). What loss of signal on lanes for 500 ns or more does (R291, R311) is handed in. DEDUCED (log entry 73). -/
def injectDo (los : Fin 10 → Nat → State → State) (t : Fin 48) (arg : Nat) (s : State) : State :=
  let e := if arg < 64 then injGet s arg else 0
  if !e.testBit 63 then s
  else
    let kind := nbits 62 60 e
    let net := netOf (nbits 59 58 e)
    let cnt := nbits 57 50 e
    let u := nbits 49 43 e
    let a := nbits 42 33 e
    let b := nbits 32 23 e
    let dur := cycNs (nbits 22 3 e)
    let base : Inj := { dom := none, src := 0, kind := kind, tile := t.val, unit := u, net := net, bitA := a, bitB := b, left := cnt
                        expect := cnt, endAt := none }
    let add := fun (i : Inj) (s : State) => { s with flt := { s.flt with injs := s.flt.injs ++ [i] } }
    match kind with
    | 0 =>
      if 5 < u then s
      else match farDomain t.val (rpOf u) with
        | some d => add { base with dom := some d, src := if a = b then 0 else 1 } s
        | none => s
    | 1 =>
      match slotStrand t.val u with
      | some n => add { base with dom := some (.strand n), src := 8 } s
      | none => s
    | 2 =>
      match slotStrand t.val u with
      | some n =>
        let i : Inj := { base with dom := some (.strand n), src := 10, left := 0, expect := 1, endAt := some (s.clk.cyc + dur + cycUs 10) }
        let s := add i s
        if cycNs 500 ≤ dur then los n (a % 256) s else s
      | none => s
    | 3 =>
      if 5 < u then s
      else match farDomain t.val (rpOf u) with
        | some d => add { base with dom := some d, src := 3 } s
        | none => s
    | 4 =>
      let p := 2 * t.val + u
      if u < 2 ∧ usedPort p then updPort (portF p) (fun x => { x with stallEnd := s.clk.cyc + dur }) s else s
    | _ => s

/-- One act of the first injection that satisfies f: its count falls, and the act ends with it. -/
def injAct (f : Inj → Bool) (s : State) : State :=
  match s.flt.injs.findIdx? fun i => f i && decide (0 < i.left) with
  | none => s
  | some k =>
    { s with flt := { s.flt with injs := s.flt.injs.modify k (fun i =>
        { i with left := i.left - 1, endAt := if i.left = 1 then some (s.clk.cyc + cycUs 10) else i.endAt }) } }

/-- INJECTION_PERIOD_END: a shortfall sets TAINT. DEDUCED (log entry 73). -/
def injEndDo (d : Domain) (src : Fin 15) (s : State) : State :=
  let here := fun (i : Inj) => decide (i.dom = some d) && decide (i.src = src) && i.endAt.isSome
  match s.flt.injs.find? here with
  | none => s
  | some i =>
    let s := advanceTo (i.endAt.getD 0) s
    let s : State := { s with flt := { s.flt with injs := s.flt.injs.eraseP here } }
    if 0 < i.expect then regSetBit 0x3818 (domBit d) s else s

/-! ### Registers (R438) -/

def domOut (x : DomSt) : Bool := decide (x.st ≠ .inn)

/-- FLT_FAULTED. -/
def fltFaultedWord (s : State) : Nat :=
  ((List.finRange 48).map fun t =>
      at' (b2n (domOut s.flt.tiles[t] || domOut s.flt.ports[portF (2 * t.val)] || domOut s.flt.ports[portF (2 * t.val + 1)])) t.val).sum +
    ((List.finRange 10).map fun n => at' (b2n (domOut s.flt.strands[n])) (48 + n.val)).sum + at' (b2n (domOut s.flt.global)) 58

/-- FLT_GLOBAL but its leaf bits. -/
def fltGlobalWord (s : State) : Nat :=
  let g := s.flt.global
  at' g.rc 32 + at' (b2n (decide (g.st = .retired))) 17 + at' (b2n (decide (g.st = .faulted))) 16

/-- FAB_ISO. -/
def fabIsoWord (s : State) : Nat :=
  at' ((List.finRange 48).filter fun t => s.flt.tiles[t].st = .retired).length 48 +
    ((List.finRange 48).map fun t => at' (b2n s.tiles[t].isolated) t.val).sum

/-- TILE_STAT but CMD_REJ. DEDUCED (log entry 72). -/
def tileStatWord (s : State) (t : Fin 48) : Nat :=
  let x := s.tiles[t]
  let d := s.flt.tiles[t]
  (match x.linkOut with
   | some (l, n) => at' l 16 + at' (netNum n) 6 + at' 1 5
   | none => 0) + at' (t.val % 12) 8 + at' (b2n x.admin) 4 + at' (b2n (decide (d.st = .retired))) 3 +
    at' (b2n (decide (d.st = .faulted))) 2 + at' (b2n (x.waved && !x.isolated)) 1 + b2n x.isolated

end Sys2Proof.Machine
end

