-- ==== Sys2Proof/Machine/Router.lean ====
section
/-! DEFINITION. One FCLK cycle of one router (R102 to R123, R165, R171, R172, R178, R179, R440, R443, R481). -/

namespace Sys2Proof.Machine

/-! ### Cycles -/

/-- Time passes to the next cycle in slot k in which this router or fabric half has not yet run. DESIGN CHOICE (log entry 12). -/
def runSlot (key : Nat) (k : Fin 128) (s : State) : State :=
  let s := advanceToSlot k s
  let s := if s.clk.cyc < spGet 0 s.rtr.ran key then advance 128 s else s
  { s with rtr := { s.rtr with ran := spSet 0 s.rtr.ran key (s.clk.cyc + 1) } }

/-! ### Buffers and credits (R108, R109) -/

def vcGet (s : State) (k : Nat) : List BufFlit := spGet [] s.rtr.vcs k
def vcPut (k : Nat) (l : List BufFlit) (s : State) : State := { s with rtr := { s.rtr with vcs := spSet [] s.rtr.vcs k l } }
def crdGet (s : State) (k : Nat) : Nat := spGet 4 s.rtr.credits k
def crdPut (k v : Nat) (s : State) : State := { s with rtr := { s.rtr with credits := spSet 4 s.rtr.credits k v } }

/-- A credit that comes back in this cycle: it returns in the next one and is used from the one after, so that the loop takes 4
cycles (R108). DEDUCED (log entries 14 and 15). -/
def crdReturn (k : Nat) (s : State) : State :=
  let c := s.clk.cyc
  crdPut k (crdGet s k + 1) { s with rtr := { s.rtr with late := (c + 2, k) :: s.rtr.late.filter fun e => decide (c < e.1) } }

/-- The credits that can be used in this cycle. DEDUCED (log entry 14). -/
def crdNow (s : State) (k : Nat) : Nat :=
  crdGet s k - (s.rtr.late.filter fun e => decide (s.clk.cyc < e.1 ∧ e.2 = k)).length

/-- Tile counter index at network n. -/
def tileEv (t : Fin 48) (base stride : Nat) (n : Net) (s : State) : State := countTile t base stride n s

/-- Drop the head of a VC; the next flit stands at the head from the next cycle. -/
def popHead (k : Nat) (s : State) : State :=
  match vcGet s k with
  | [] => s
  | _ :: r =>
    vcPut k (match r with
      | [] => []
      | b :: q => { b with since := max b.ready (s.clk.cyc + 1) } :: q) s

/-- Who holds the credits of input inp of router t: an output of the neighbour, the fabric half at an L input, or the answer queue at
input 6 (R481). -/
def creditKey (t : Nat) (n : Net) (inp vc : Nat) : Option Nat :=
  if inp < 4 then (neighbour t (rpOf inp)).map fun u => rKey u n (rpNum (opposite (rpOf inp))) vc
  else some (rKey t n inp vc)

/-- Where a credit mismatch of input inp is found: upstream. -/
def creditPlace (t : Fin 48) (n : Net) (inp : Nat) : Place :=
  if inp < 4 then
    match neighbour t.val (rpOf inp) with
    | some u => .router (tileF u) n (some (opposite (rpOf inp)))
    | none => .tile t
  else if inp < 6 then .port (portF (2 * t.val + (inp - 4)))
  else .router t n none

/-- One credit comes back; one that would pass 4 is ignored and is a mismatch (R109); one from or for an isolated tile is lost. -/
def creditIn (t : Fin 48) (n : Net) (inp vc : Nat) (s : State) : State :=
  match creditKey t.val n inp vc with
  | none => s
  | some k =>
    if s.tiles[t].isolated ∨ (inp < 4 ∧ s.tiles[tileF (k / 224)].isolated) then s
    else if crdGet s k < 4 then crdReturn k s
    else
      let s := if inp = 6 then tileEv t 138 16 n s else
        match neighbour t.val (rpOf inp) with
        | some u => if inp < 4 then tileEv (tileF u) 138 16 n s else s
        | none => s
      faultEvent (creditPlace t n inp) srcCredit s

/-- Input inp frees a flit of VC vc: its credit goes back, and an injected extra one with it (R435). -/
def creditBack (t : Fin 48) (n : Net) (inp vc : Nat) (s : State) : State :=
  let s := creditIn t n inp vc s
  let hit := fun (i : Inj) => decide (i.kind = 3 ∧ i.tile = t.val ∧ i.unit = inp ∧ i.net = n)
  if s.flt.injs.any fun i => hit i && decide (0 < i.left) then creditIn t n inp vc (injAct hit s) else s

/-! ### Refusals (R22, R114, R481) -/

/-- The answer queue of tile t has room. -/
def ansRoom (s : State) (t : Nat) : Bool := decide ((spGet [] s.rtr.ansq t).length < 8)

def ansPut (t : Nat) (l : List BufFlit) (s : State) : State := { s with rtr := { s.rtr with ansq := spSet [] s.rtr.ansq t l } }

/-- Queue ERR NOROUTE for a REQ (R481). On a tile whose L0 is a strand port its VC is TR, as of a packet that this strand port's half
injects (R67). DEDUCED (log entry 87). -/
def routerAnswer (t : Fin 48) (req : Flit) (s : State) : State :=
  let f := { answerTo req (2 * t.val) (ownDev s) rspERR errNOROUTE 0 with cls := noGt req.cls, epoch := s.epoch.active }
  let (e, s) := if f.xf then drawSeq f.dstdev.toNat 1 1 s else (0, s)
  let f := { f with e2seq := BitVec.ofNat 16 e }
  let f := { f with vc := injectVc (2 * t.val) f }
  ansPut t.val (spGet [] s.rtr.ansq t.val ++ [{ flit := f, ready := s.clk.cyc + 1, since := s.clk.cyc + 1 }]) s

/-- What a router does with a head of its input VCs. -/
inductive HeadTo where
  | out (p : RPort) (bump : Bool)
  /-- Refused: R22 (true) or R114 (false). -/
  | refuse (miss : Bool)
deriving DecidableEq, Repr

/-- The output computed for it beforehand (R102), and what that output faces now (R114). -/
def headTo (s : State) (t : Nat) (b : BufFlit) : HeadTo :=
  match b.dest.getD (routeFlit s t b.flit b.legs) with
  | .out p bump => if facesLost s t b.flit.net p then .refuse false else .out p bump
  | .noExit => .refuse false
  | .miss => .refuse true

/-- A head of an input. -/
structure Head where
  inp : Nat
  vc  : Nat
  b   : BufFlit
  dest  : HeadTo
deriving DecidableEq, Repr

/-- The heads that can act in this cycle. -/
def heads (s : State) (t : Nat) (n : Net) : List Head :=
  ((List.range 7).flatMap fun i => (List.range 8).map fun v => (i, v)).filterMap fun (i, v) =>
    match vcGet s (rKey t n i v) with
    | b :: _ => if b.ready ≤ s.clk.cyc then some ⟨i, v, b, headTo s t b⟩ else none
    | [] => none

/-- Consume a refused head. -/
def consume (t : Fin 48) (n : Net) (h : Head) (s : State) : State :=
  let s := creditBack t n h.inp h.vc (popHead (rKey t.val n h.inp h.vc) s)
  let s := if n = .req then routerAnswer t h.b.flit s else s
  match h.dest with
  | .refuse true => faultEvent (.tile t) srcRouteMiss (tileEv t 140 16 n s)
  | _ => tileEv t 102 8 n s

/-- One refused head of each input is consumed; the inputs that did so. -/
def consumeAll (t : Fin 48) (n : Net) (hs : List Head) (s : State) : List Nat × State :=
  (List.range 7).foldl (fun (acc : List Nat × State) i =>
    match hs.find? fun h => decide (h.inp = i) && (match h.dest with | .refuse _ => true | _ => false) with
    | some h => if n ≠ .req || ansRoom acc.2 t.val then (i :: acc.1, consume t n h acc.2) else acc
    | none => acc) ([], s)

/-! ### Arbitration (R116 to R118, R171) -/

/-- The credits a flit needs at output p: the next router's VC, or the unit's class (R108). -/
def hasCredit (s : State) (t : Nat) (n : Net) (p : RPort) (f : Flit) (bump : Bool) : Bool :=
  match p with
  | .l0 | .l1 => ejectRoom s (portF (2 * t + (rpNum p - 4))) n f.cls
  | _ => decide (0 < crdNow s (rKey t n (rpNum p) (nextVc f.vc bump).toNat))

def bumpOf (h : Head) : Bool := match h.dest with | .out _ b => b | _ => false
def bidsFor (p : RPort) (h : Head) : Bool := match h.dest with | .out q _ => decide (q = p) | _ => false

/-- A flow in a bead: on GT, of a flow, not displaced. -/
def inBead (h : Head) : Bool := decide (h.vc = 0) && h.b.flow.isSome && !h.b.displaced

/-- Effective QOS (R117). -/
def effQos (s : State) (t : Nat) (n : Net) (h : Head) : Nat :=
  if s.epoch.switch = .draining && decide (h.b.flit.epoch ≠ s.epoch.active) then 15
  else min 15 (h.b.flit.qos.toNat + (s.clk.cyc - h.b.since) / rtrAge s t n)

/-- The first of a non-empty choice, by a key that is least. -/
def leastBy (f : Head → Nat) (l : List Head) : Option Head :=
  match l with
  | [] => none
  | a :: r => some (r.foldl (fun b c => if f c < f b then c else b) a)

/-- Round-robin order of an input, and of a VC of it, at an output. DESIGN CHOICE (log entry 4). -/
def rrRank (s : State) (t : Nat) (n : Net) (p : Nat) (h : Head) : Nat :=
  let pi := spGet 0 s.rtr.rrIn (rKey t n p 0)
  let pv := spGet 0 s.rtr.rrVc (rKey t n p h.inp)
  ((h.inp + 7 - pi) % 7) * 8 + (h.vc + 8 - pv) % 8

/-- The winner within a class: highest effective QOS, then the round robin. -/
def classWinner (s : State) (t : Nat) (n : Net) (p : Nat) (cs : List Head) (c : Cls) : Option Head :=
  leastBy (fun h => (15 - effQos s t n h) * 64 + rrRank s t n p h) (cs.filter fun h => decide (h.b.flit.cls = c))

/-- Which rule of R116 granted. -/
inductive Rule where
  | bead | displaced | forcedBe | forcedLl | plain
deriving DecidableEq, Repr

/-- The choice of an output in this cycle. -/
structure Choice where
  win     : Option (Head × Rule)
  cands   : List Head
  /-- The slot is a bead slot of this port, and its bead is unused. -/
  unused  : Bool
  /-- The slot is a bead slot of this port. -/
  bead    : Bool
  /-- A head waits for this output without a credit. -/
  blocked : Bool

/-- Rules 2 to 4. -/
def ruleRest (s : State) (t : Nat) (n : Net) (p : Nat) (cs : List Head) : Option (Head × Rule) :=
  let disp := cs.filter fun h => decide (h.vc = 0)
  match leastBy (fun h => h.b.since * 8 + (h.inp + 7 - spGet 0 s.rtr.rrIn (rKey t n p 0)) % 7) disp with
  | some h => some (h, .displaced)
  | none =>
    let cls := fun c => classWinner s t n p cs c
    let beDue := decide (rtrBeN s t n - 1 ≤ spGet 0 s.rtr.beCnt (rKey t n p 0))
    let llDue := decide (rtrLlN s t n - 1 ≤ spGet 0 s.rtr.llCnt (rKey t n p 0))
    match beDue, cls .be, llDue, cls .ll, cls .mg with
    | true, some h, _, _, _ => some (h, .forcedBe)
    | _, _, true, some h, some _ => some (h, .forcedLl)
    | _, _, _, _, some h => some (h, .plain)
    | _, _, _, some h, none => some (h, .plain)
    | _, some h, _, none, none => some (h, .plain)
    | _, none, _, none, none => none

/-- Reclaim is enabled at an output (R173). -/
def reclaimOn (s : State) (t : Nat) (n : Net) (p : Nat) : Bool :=
  (regGet s (beadPage t + 0x40)).toNat.testBit (8 * netNum n + p)

/-- The choice of output p over the heads of inputs not yet used. -/
def choose (s : State) (t : Nat) (n : Net) (p : RPort) (hs : List Head) : Choice :=
  let mine := hs.filter (bidsFor p)
  let ok := mine.filter fun h => hasCredit s t n p h.b.flit (bumpOf h)
  let e := if n = .snp then 0 else beadOut s t n (rpNum p) s.epoch.beadActive (slotNow s)
  let ofFlow := fun (h : Head) => decide (h.vc = 0) && decide (h.b.flow = some (beadFlow e)) && decide (h.inp = beadIn e)
  let hit := if beadValid e then ok.find? fun h => inBead h && ofFlow h else none
  let unused := beadValid e && !mine.any ofFlow
  let blocked := mine.any fun h => !hasCredit s t n p h.b.flit (bumpOf h)
  match hit with
  | some h => ⟨some (h, .bead), ok, false, true, blocked⟩
  | none =>
    -- a GT flit in its bead elsewhere is no candidate here; one that meets no bead is displaced before it bids
    if unused && !reclaimOn s t n (rpNum p) then ⟨none, ok, true, true, blocked⟩
    else ⟨ruleRest s t n (rpNum p) ok, ok, unused, beadValid e, blocked⟩

/-- GT flits that do not meet their bead in this cycle are displaced (R178). -/
def displaceAll (t : Fin 48) (n : Net) (hs : List Head) (s : State) : State :=
  forEach (hs.filter inBead) (fun h s =>
    let meets := match h.dest with
      | .out p _ =>
        let e := beadOut s t.val n (rpNum p) s.epoch.beadActive (slotNow s)
        beadValid e && decide (h.b.flow = some (beadFlow e)) && decide (h.inp = beadIn e) && hasCredit s t.val n p h.b.flit (bumpOf h)
      | _ => true
    if meets then s
    else
      let k := rKey t.val n h.inp 0
      let s := vcPut k (match vcGet s k with | b :: r => { b with displaced := true } :: r | [] => []) s
      regSetBit (beadPage t.val + 0x800) 6 s) s

/-! ### Sending -/

/-- Which of an input's winners is sent (R103): the bead's, then the longest at the head, then the lower output. -/
def sendRank (x : RPort × Head × Rule) : Nat :=
  (if x.2.2 = .bead then 0 else 1 + x.2.1.b.since) * 8 + rpNum x.1

/-- The sends of a cycle: one for each input. -/
def sends (ws : List (RPort × Head × Rule)) : List (RPort × Head × Rule) :=
  ws.filter fun x => ws.all fun y => decide (y.2.1.inp ≠ x.2.1.inp) || decide (sendRank x ≤ sendRank y)

/-- The slot class of a cycle: 0 CARRIED, 1 WASTED. -/
abbrev Kept := Bool

/-- A flit arrives at an input of a router, from a neighbour, a fabric half or the answer queue, and is checked there (R71, R72, R109):
whether it was kept. DEDUCED (log entry 14). -/
def arrive (u : Fin 48) (n : Net) (inp : Nat) (b : BufFlit) (bits : List Nat) (par : Bool) (s : State) : Kept × State :=
  let (r, cor, unc) := eccArrive b.flit bits
  let at' : Place := .router u n (if inp < 4 then some (rpOf inp) else none)
  let s := if cor then faultEvent at' srcEccCor (tileEv u 136 16 n s) else s
  let s := if unc then faultEvent at' srcEccUnc (tileEv u 137 16 n s) else s
  let s := if par then faultEvent at' srcParity s else s
  match r with
  | none => (false, creditIn u n inp b.flit.vc.toNat s)
  | some f =>
    let k := rKey u.val n inp b.flit.vc.toNat
    if s.tiles[u].isolated then (false, s)
    else if 4 ≤ (vcGet s k).length then
      (false, faultEvent at' srcCredit (tileEv u 138 16 n s))
    else (true, vcPut k (vcGet s k ++ [{ b with flit := f }]) s)

/-- The answer queue of a tile gives its oldest flit to input 6 of the RSP router, where it holds a credit for its VC (R481). It bids
from the next cycle on. DEDUCED (log entry 87). -/
def ansFeed (t : Fin 48) (s : State) : State :=
  match spGet [] s.rtr.ansq t.val with
  | [] => s
  | b :: r =>
    let k := rKey t.val .rsp 6 b.flit.vc.toNat
    if s.clk.cyc < b.ready ∨ crdNow s k = 0 then s
    else
      let c := s.clk.cyc + 1
      let b := { b with ready := c, since := c, dest := some (routeFlit s t.val b.flit 0) }
      (arrive t .rsp 6 b [] false (crdPut k (crdGet s k - 1) (ansPut t.val r s))).2

/-- Starvation counters after a cycle of an output with grant c (R118). -/
def starve (t : Fin 48) (n : Net) (p : Nat) (c : Option Cls) (counted : Bool) (cs : List Head) (s : State) : State :=
  let k := rKey t.val n p 0
  let waits := fun (x : Cls) => cs.any fun h => decide (h.b.flit.cls = x) && decide (h.vc ≠ 0)
  let step := fun (x : Cls) (m : Sparse Nat) (due : Nat) =>
    if c = some x ∨ !waits x then spSet 0 m k 0
    else if counted then spSet 0 m k (min due (spGet 0 m k + 1)) else m
  { s with rtr := { s.rtr with
      beCnt := step .be s.rtr.beCnt (rtrBeN s t.val n - 1)
      llCnt := step .ll s.rtr.llCnt (rtrLlN s t.val n - 1) } }

/-- Send a winner (R102 to R104): it leaves its VC, its credit goes back, and it arrives; whether it was kept. The output's pointers
move past a winner that is sent, and not past one whose input sends another flit (R103). DEDUCED (log entry 88). -/
def sendOne (t : Fin 48) (n : Net) (errs : List LinkErr) (x : RPort × Head × Rule) (s : State) : Kept × State :=
  let (p, h, rule) := x
  let c := s.clk.cyc
  let bump := bumpOf h
  let f := h.b.flit
  let old := s.epoch.switch = .draining && decide (f.epoch ≠ s.epoch.active)
  let s := popHead (rKey t.val n h.inp h.vc) s
  let s := creditBack t n h.inp h.vc s
  let s := tileEv t (128 + clsNum f.cls) 16 n s
  let s := countN (tcOff t (132 + clsNum f.cls + 16 * netNum n)) (c - h.b.since) s
  let s := if 4 ≤ h.inp ∧ h.inp < 6 then tileEv t 141 16 n s else s
  let s := if old then tileEv t 103 8 n s else s
  let s := match rule with
    | .displaced =>
      let s := tileEv t 100 8 n s
      if s.epoch.lastMove + 128 < c then faultEvent (.router t n none) srcIntrusion (tileEv t 139 16 n s) else s
    | .forcedBe => tileEv t 98 8 n s
    | .forcedLl => tileEv t 99 8 n s
    | _ => s
  let s := { s with rtr := { s.rtr with
    rrIn := if rule = .bead then s.rtr.rrIn else spSet 0 s.rtr.rrIn (rKey t.val n (rpNum p) 0) ((h.inp + 1) % 7)
    rrVc := if rule = .bead ∨ rule = .displaced then s.rtr.rrVc else spSet 0 s.rtr.rrVc (rKey t.val n (rpNum p) h.inp) ((h.vc + 1) % 8) } }
  let flip := fun (i : Inj) => decide (i.kind = 0 ∧ i.tile = t.val ∧ i.unit = rpNum p ∧ i.net = n)
  let act := s.flt.injs.find? fun i => flip i && decide (0 < i.left)
  let s := if act.isSome then injAct flip s else s
  let bits := (match act with | some i => if i.bitA = i.bitB then [i.bitA] else [i.bitA, i.bitB] | none => []) ++
    (errs.filter fun e => decide (e.out = p)).flatMap (·.bits)
  let par := errs.any fun e => decide (e.out = p) && e.par
  let vc := nextVc f.vc bump
  let ready := if rule = .bead then c + 1 else c + 2
  let b := { h.b with
    flit := { f with vc := vc }, legs := if bump && decide (f.vc = 0) then h.b.legs + 1 else h.b.legs
    dest := none, ready := ready, since := ready, hops := h.b.hops + 1, flips := [] }
  match p with
  | .l0 | .l1 =>
    let q := portF (2 * t.val + (rpNum p - 4))
    let s := setEjCredit q n f.cls (ejCredit s q n f.cls - 1) (tileEv t 142 16 n s)
    let s := if isStrandPort q.val then smpEnd b.mark f b.hops b.displaced (rule = .bead) s else s
    let b := if isStrandPort q.val then { b with mark := none } else b
    let s := if par then faultEvent (.port q) srcParity s else s
    (true, updPort q (fun x => { x with
      ejq := spSet [] x.ejq (netNum n) (spGet [] x.ejq (netNum n) ++ [{ b with flit := f, flips := bits }]) }) s)
  | _ =>
    match neighbour t.val p with
    | none => (false, s)
    | some u =>
      let k := rKey t.val n (rpNum p) vc.toNat
      let b := { b with dest := some (routeFlit s u b.flit b.legs) }
      arrive (tileF u) n (rpNum (opposite p)) b bits par (crdPut k (crdGet s k - 1) s)

/-- Count the slot class of an output's cycle (R443, R444): 0 CARRIED, 1 WASTED, 2 STARVED, 3 BLOCKED.
DEDUCED (log entry 16). -/
def countSlot (t : Fin 48) (n : Net) (p k : Nat) (s : State) : State := countLate (tcOff t (24 * netNum n + 4 * p + k)) s

/-- The outputs of router t. -/
def outPorts (t : Nat) : List RPort := [RPort.n, .e, .s, .w, .l0, .l1].filter fun p =>
  match p with | .l0 | .l1 => true | r => (neighbour t r).isSome

/-- An isolated tile's routers, and those not yet ungated, do nothing (R373, R375). -/
def routerRuns (s : State) (t : Fin 48) : Bool := s.tiles[t].waved && !s.tiles[t].isolated && trafficOn s && s.clk.rpll

/-- A candidate's bid fails: another input wins its output, or another flit of its input is sent (R103). DEDUCED (log entry 16). -/
def bidFails (chs : List (RPort × Choice)) (out : List (RPort × Head × Rule)) (h : Head) : Bool :=
  let same := fun (g : Head) => decide (g.inp = h.inp ∧ g.vc = h.vc)
  (chs.any fun x => bidsFor x.1 h && x.2.cands.any same) && !(out.any fun x => same x.2.1) &&
    ((chs.any fun x => bidsFor x.1 h && (match x.2.win with | some (w, _) => decide (w.inp ≠ h.inp) | none => false)) ||
      (out.any fun x => decide (x.2.1.inp = h.inp)))

/-- The sends of a cycle, one output after the other, with what each put on its link (R116 to R118, R440). -/
def sendAll (t : Fin 48) (n : Net) (errs : List LinkErr) (chs : List (RPort × Choice)) (out : List (RPort × Head × Rule)) (s : State) :
    List (RPort × Kept) × State :=
  out.foldl (fun (acc : List (RPort × Kept) × State) x =>
    let ch := (chs.find? fun y => decide (y.1 = x.1)).map (·.2)
    let unused := match ch with | some c => c.unused | none => false
    let cs := match ch with | some c => c.cands | none => []
    let inSlot := match ch with | some c => c.bead | none => false
    let counted := decide (x.2.2 = .forcedBe ∨ x.2.2 = .forcedLl ∨ x.2.2 = .plain) && !inSlot
    let r := sendOne t n errs x acc.2
    (acc.1 ++ [(x.1, r.1)], whenB unused (tileEv t 97 8 n) (starve t n (rpNum x.1) (some x.2.1.b.flit.cls) counted cs r.2))) ([], s)

/-- The slot class of output p (R440): 0 CARRIED, 1 WASTED, 2 STARVED, 3 BLOCKED. DEDUCED (log entry 16). -/
def slotClass (kept : List (RPort × Kept)) (lost : List RPort) (p : RPort) (ch : Choice) : Nat :=
  if p ∈ lost then 2
  else match kept.find? fun x => decide (x.1 = p) with
    | some (_, true) => 0
    | some (_, false) => 1
    | none => if ch.unused then 1 else if ch.blocked then 3 else 2

/-- The cycle of router (t, n). DESIGN CHOICE (log entry 17). -/
def routerCycle (t : Fin 48) (n : Net) (errs : List LinkErr) (s : State) : State :=
  if !routerRuns s t then s
  else
    let s := whenB (decide (n = .rsp)) (ansFeed t) s
    let hs := heads s t.val n
    let eaten := consumeAll t n hs s
    let s := eaten.2
    let hs := hs.filter fun h => !eaten.1.contains h.inp && (match h.dest with | .out _ _ => true | _ => false)
    let lost := (outPorts t.val).filter fun p => facesLost s t.val n p
    let s := displaceAll t n hs s
    let hs := hs.map fun h => { h with b := (vcGet s (rKey t.val n h.inp h.vc)).headD h.b }
    let chs := (outPorts t.val).map fun p => (p, choose s t.val n p hs)
    let out := sends (chs.filterMap fun x => x.2.win.map fun w => (x.1, w.1, w.2))
    let s := countN (tcOff t (96 + 8 * netNum n)) (hs.filter (bidFails chs out)).length s
    let sent := sendAll t n errs chs out s
    let idle := chs.filter fun x => !out.any fun y => decide (y.1 = x.1)
    let s := forEach idle (fun x => starve t n (rpNum x.1) none false x.2.cands) sent.2
    let s := forEach chs (fun x => countSlot t n (rpNum x.1) (slotClass sent.1 lost x.1 x.2)) s
    -- FCLK cycles with DAT credits withheld (R441)
    let s := whenB (decide (n = .dat))
      (fun s => forEach ((tilePorts t.val).filter fun p => pairFull s.ports[p]) (fun p => countPort p 43) s) s
    countLate (tcOff t (143 + 16 * netNum n)) s

/-- ROUTER_GRANT. -/
def routerGrantDo (t : Fin 48) (n : Net) (k : Fin 128) (errs : List LinkErr) (s : State) : State :=
  routerCycle t n errs (runSlot (4 * t.val + netNum n) k s)

/-- TR_TO_TE_MOVE (R115): after 512 cycles at the head the flit bids on TE from the next cycle. -/
def trToTeDo (t : Fin 48) (n : Net) (inp : Fin 7) (k : Fin 128) (s : State) : State :=
  let key := rKey t.val n inp.val 4
  match vcGet s key with
  | [] => s
  | b :: _ =>
    if b.flit.vc ≠ vcTR ∨ !routerRuns s t then s
    else
      let s := advanceToSlot k (advanceTo (b.since + 512) s)
      let s := vcPut key (match vcGet s key with
        | b :: r =>
          let f := { b.flit with vc := vcTE }
          { b with flit := f, dest := some (routeFlit s t.val f b.legs), ready := s.clk.cyc + 1 } :: r
        | [] => []) s
      tileEv t 101 8 n s

end Sys2Proof.Machine
end

