-- ==== Sys2Proof/Machine/FabricHalf.lean ====
section
/-! DEFINITION. The fabric half of an attach port: what it does with a unit's packets, what it injects and delivers, its timers
and its PINGs (R84 to R97, R163, R193 to R202, R205 to R208, R387, R482, R483). -/

namespace Sys2Proof.Machine

/-! ### Small parts -/

/-- The router input a port injects into. -/
def lIn (p : Fin 96) : Nat := 4 + p.val % 2
def pTile (p : Fin 96) : Fin 48 := tileF (portTile p.val)

/-- Several events of a port counter. DEDUCED (log entry 19). -/
def countPortN (p : Fin 96) (i n : Nat) (s : State) : State :=
  if isStrandPort p.val && decide (32 < i) then s else countN (pcOff p.val i) n s

/-- DEDUCED (log entry 84). -/
def orphan (p : Fin 96) (s : State) : State := countPort p 0 s

/-- Credits follow the free places while they flow (R193). -/
def recredit (p : Fin 96) (s : State) : State :=
  if portEn s.ports[p] then regrant p s else s

/-- A unit's ejection credit that was spent for a flit the unit does not get comes back (R72, R195). -/
def freeCredit (p : Fin 96) (f : Flit) (s : State) : State :=
  if portEn s.ports[p] then setEjCredit p f.net f.cls (min 63 (ejCredit s p f.net f.cls + 1)) s else s

/-- The bits of Await for a packet. -/
def awaitBits (c : Flit) : Nat := compMask c + at' (b2n (hasMask c)) 4 + at' (b2n (dirtyFwd c)) 5
/-- The bit of an awaited packet that a DAT flit takes. -/
def awaitBit (a : Await) (d : Flit) : Nat := if a.left.testBit 5 then 5 else if d.msk then 4 else d.lidx.toNat
/-- DESIGN CHOICE (log entry 26). -/
def awaitTakes (a : Await) (d : Flit) : Bool := a.left.testBit (awaitBit a d)

/-- One companion of a packet has come; the packet leaves the list with its last. -/
def awaitDone (a : Await) (d : Flit) (l : List Await) : List Await :=
  let b := { a with left := clrBit a.left (awaitBit a d) }
  if b.left = 0 then l.erase a else l.replace a b

/-- Steps 5 to 7 and 9 of R197 for a REQ, RSP or SNP, its DST and DSTDEV known: the flit as it leaves, and its flow. -/
def stamp (p : Fin 96) (f : Flit) (s : State) : Flit × Option Nat × State :=
  let fwd := isFwd f
  let f := if fwd then f else { f with src := BitVec.ofNat 7 p.val, srcdev := ownDev s }
  let f := { f with xf := decide (f.dstdev ≠ ownDev s) }
  let f := if f.net ≠ .rsp ∧ !fwd then { f with tag := BitVec.ofNat 12 (nbits 9 0 f.tag.toNat + at' s.ports[p].gen.toNat 10) } else f
  let (f, fl, s) := gtTest p f s
  let (e, s) := if f.xf then drawSeq f.dstdev.toNat (streamNum f.net) (1 + compCount f) s else (0, s)
  let f := { f with e2seq := BitVec.ofNat 16 e }
  ({ f with vc := injectVc p.val f }, fl, s)

/-- A flit of the unit is queued for injection. -/
def offerQueue (p : Fin 96) (place : Cls) (f : Flit) (fl tid : Option Nat) (s : State) : State :=
  enqueue p { flit := f, tid := tid, place := place, flow := fl, since := s.clk.cyc } s

/-! ### FAI_OFFER (R197) -/

/-- The lowest free entry of the open-request table (R198). DESIGN CHOICE (log entry 9). -/
def freeOpen (x : PortSt) : Option Nat := (List.range 256).find? fun i => !x.opens.any fun e => decide (e.1 = i)

/-- A unit's TAG with the port's generation. -/
def withGen (s : State) (p : Fin 96) (f : Flit) : Flit :=
  if isFwd f then f else { f with tag := BitVec.ofNat 12 (nbits 9 0 f.tag.toNat + at' s.ports[p].gen.toNat 10) }

/-- The packet whose companions will come is labelled and awaited. DESIGN CHOICE (log entry 9). -/
def awaitOwn (f : Flit) (x : PortSt) : PortSt :=
  if compCount f = 0 then x else { x with rspOpen := x.rspOpen ++ [{ flit := f, left := awaitBits f, tid := some x.tids }] }

/-- A new label. -/
def nextTid (x : PortSt) : PortSt := { x with tids := x.tids + 1 }

/-- The opening of its locket that an LKSTAGE belongs to. -/
def stageOf (s : State) (f : Flit) : Nat :=
  if f.opc.toNat = opLKSTAGE then s.lock.coords[(Fin.ofNat 64 f.lkt.toNat : Fin 64)].id else 0

/-- A REQ that goes into the mesh: its entry, its companions, its queue. DEDUCED (log entry 24). -/
def acceptReq (p : Fin 96) (f : Flit) (s : State) : State :=
  let place := f.cls
  let (f, fl, s) := stamp p f s
  let tid := s.ports[p].tids
  if isFwd f then offerQueue p place f fl (some tid) (updPort p (fun x => nextTid (awaitOwn f x)) s)
  else
    match freeOpen s.ports[p] with
    | none => s
    | some i =>
      offerQueue p place f fl (some tid)
        (updPort p (fun x => nextTid { x with
          opens := spIns x.opens i { req := f, tid := tid, gen := x.gen, stage := stageOf s f } }) s)

/-- The LKOPEN, LKCOMMIT and LKABORT of a unit go to the locket block over the dedicated path (R236). -/
def toPath (p : Fin 96) (f : Flit) (s : State) : State :=
  let f := { withGen s p f with src := BitVec.ofNat 7 p.val, srcdev := ownDev s, dstdev := ownDev s }
  { s with lock := { s.lock with path := s.lock.path ++ [(p, f)] } }

/-- A REQ that this fabric half turns away is answered to its unit, and an LKSTAGE is reported to the locket block (R236, R482). -/
def refuseReq (p : Fin 96) (f : Flit) (sub : Nat) (s : State) : State :=
  stageRefused p f (errToUnit p (withGen s p f) sub 0 s)

/-- A REQ, once known well-formed. DEDUCED (log entry 83). -/
def offerReq (p : Fin 96) (f : Flit) (s : State) : State :=
  let o := f.opc.toNat
  let f := { f with attr := legalAttr p.val f }
  let mem := memAddressed o && !isFwd f
  if mem then
    match amLookup s f.addr.toNat with
    | none => refuseReq p f errNOROUTE s
    | some (dst, dev) =>
      let f := { f with dst := BitVec.ofNat 7 dst, dstdev := BitVec.ofNat 5 dev }
      let echo := fun (s : State) => countPort p 46 (emit (.echo p (BitVec.ofNat 10 (nbits 9 0 f.tag.toNat)) f.dst f.dstdev) s)
      if o = opLKSTAGE then
        match lkStage p f s with
        | (some cause, s) => errToUnit p (withGen s p f) errLOCKET cause s
        | (none, s) => acceptReq p f (echo s)
      else acceptReq p f (echo s)
  else if o = opLKOPEN ∨ o = opLKCOMMIT ∨ o = opLKABORT then toPath p f s
  else acceptReq p f s

/-- An RSP of the unit. -/
def offerRsp (p : Fin 96) (f : Flit) (s : State) : State :=
  let place := f.cls
  let s := homeNote p f s
  let (f, fl, s) := stamp p f s
  offerQueue p place f fl (some s.ports[p].tids) (updPort p (fun x => nextTid (awaitOwn f x)) s)

def offerSnp (p : Fin 96) (f : Flit) (s : State) : State :=
  let place := f.cls
  let (f, fl, s) := stamp p f s
  offerQueue p place f fl none s

/-- A DAT companion of packet c as it leaves (R67, R79, R86, R89). DESIGN CHOICE (log entry 26). -/
def companion (p : Fin 96) (c d : Flit) (tid : Option Nat) (s : State) : State :=
  let place := d.cls
  let base := { d with
    dst := c.dst, dstdev := c.dstdev, srcdev := c.srcdev, src := c.src, tag := c.tag, xf := c.xf, cls := c.cls, transit := false
    cnet := false, e2seq := 0 }
  let f := if !c.xf then base
    else { base with transit := true, cnet := decide (c.net = .rsp), src := 0, tag := 0
                     e2seq := BitVec.ofNat 16 (c.e2seq.toNat + 1 + compRank c d) }
  let (f, fl, s) := gtTest p f s
  offerQueue p place { f with vc := injectVc p.val f } fl tid s

/-- An open write whose companion d can be (step 4 of R197). -/
def openWrite (x : PortSt) (d : Flit) : Option (Nat × OEntry) :=
  x.opens.find? fun e =>
    let r := e.2.req
    e.2.ghostAt.isNone && hasLines r.opc.toNat && decide (nbits 9 0 r.tag.toNat = nbits 9 0 d.tag.toNat) &&
      (if d.msk then hasMask r && !e.2.maskTaken && decide (lowestBit r.lmask.toNat = d.lidx.toNat)
       else r.lmask.getLsbD d.lidx.toNat && !e.2.taken.getLsbD d.lidx.toNat)

/-- A ghost holds TAG[9:0] of d. -/
def ghostTag (x : PortSt) (d : Flit) : Bool :=
  x.opens.any fun e => e.2.ghostAt.isSome && decide (nbits 9 0 e.2.req.tag.toNat = nbits 9 0 d.tag.toNat)

/-- d is a companion of an own RSP or forwarded write: DST, DSTDEV and TAG, and of a forwarded write, which keeps its requester's, SRC
and SRCDEV (R87, R88). DESIGN CHOICE (log entry 26). -/
def companionOf (a : Await) (d : Flit) : Bool :=
  decide (a.flit.dst = d.dst ∧ a.flit.dstdev = d.dstdev ∧ a.flit.tag = d.tag) &&
    (!isFwd a.flit || decide (a.flit.src = d.src ∧ a.flit.srcdev = d.srcdev)) && awaitTakes a d

/-- A DAT packet of the unit. DESIGN CHOICE (log entry 26). -/
def offerDat (p : Fin 96) (d : Flit) (s : State) : State :=
  let x := s.ports[p]
  match x.rspOpen.find? fun a => companionOf a d with
  | some a =>
    companion p a.flit d a.tid (updPort p (fun x => { x with rspOpen := awaitDone a d x.rspOpen }) s)
  | none =>
    match openWrite x d with
    | some (i, e) =>
      if e.req.dst ≠ d.dst ∨ e.req.dstdev ≠ d.dstdev then countPort p 33 s
      else
        let e' := if d.msk then { e with maskTaken := true } else { e with taken := e.taken ||| (1 <<< d.lidx.toNat) }
        companion p e.req d (some e.tid) (updPort p (fun x => { x with opens := spIns x.opens i e' }) s)
    | none => if ghostTag x d then s else countPort p 33 s

/-- The CMP that answers the PING sent (R201): to the own port of this device, with the PING's TAG. -/
def isPingAnswer (s : State) (p : Fin 96) (f : Flit) : Bool :=
  decide (f.net = .rsp) && decide (f.opc.toNat = rspCMP) && decide (f.dst.toNat = p.val ∧ f.dstdev = ownDev s) &&
    decide (s.ports[p].pingOut = some f.tag)

/-- A REQ of a requester is turned away in DRAIN (R387). DEDUCED (log entry 83). -/
def drainRefuses (s : State) (p : Fin 96) (f : Flit) : Bool :=
  decide (s.ms.mode = .drain) && decide (f.net = .req) && decide (f.opc.toNat ≠ opWBD) && !isHome p.val && !isMap p.val

/-- DST above 95 in a packet whose unit gives it (R23); a FWD bit counts at a HOME only (R87). DEDUCED (log entry 21). -/
def dstBeyond (p : Fin 96) (f : Flit) : Bool :=
  decide (95 < f.dst.toNat) && !(decide (f.net = .req) && memAddressed f.opc.toNat && !(isFwd f && isHome p.val))

/-- A flit that holds a credit. -/
def offerTake (p : Fin 96) (f : Flit) (s : State) : State :=
  if isPingAnswer s p f then updPort p (fun x => { x with pingOut := none }) s
  else if malformed (ownDev s) p.val f then
    let s := countPort p 33 s
    if f.net = .req then refuseReq p f errMALFORMED s else s
  else if dstBeyond p f then
    let s := faultEvent (.tile (pTile p)) srcRouteMiss (tileEv (pTile p) 140 16 f.net s)
    if f.net = .req then refuseReq p f errNOROUTE s else s
  else if drainRefuses s p f then refuseReq p f errFENCED (countPort p 38 s)
  else
    match f.net with
    | .req => offerReq p f s
    | .rsp => offerRsp p f s
    | .snp => offerSnp p f s
    | .dat => offerDat p f s

/-- A strand port injects a packet as received but for EPOCH and VC (R88), with a DST above 95 too, which the first router then finds
(R22); buf is the receive buffer it stood in. DEDUCED (log entry 21). -/
def strandOffer (p : Fin 96) (f : Flit) (buf : Option Nat) (s : State) : State :=
  let (g, fl, s) := gtTest p f (useCredit p f.net f.cls s)
  enqueue p { flit := { g with vc := injectVc p.val g }, place := f.cls, flow := fl, since := s.clk.cyc, rxBuf := buf }
    (countPort p (1 + 8 * netNum f.net + clsNum f.cls) s)

/-- FAI_OFFER: nothing crosses while the unit's side is not in RUN (R363), and a flit without a credit is discarded (R194).
DEDUCED (log entry 19). -/
def offerDo (p : Fin 96) (f : Flit) (s : State) : State :=
  let f := { f with transit := f.transit && isStrandPort p.val }
  if s.ports[p].xu.st ≠ .run then s
  else
    let s := updPort p (xFromUnit f.net) s
    if injHeld s.ports[p] f.net f.cls = 0 then faultEvent (.port p) srcCredit s
    else if isStrandPort p.val then recredit p (strandOffer p f none s)
    else recredit p (offerTake p f (useCredit p f.net f.cls (countPort p (1 + 8 * netNum f.net + clsNum f.cls) s)))

/-! ### Injection (R135, R163, R483) -/

/-- A packet's bit in a destination mask (R135). -/
def maskBit (f : Flit) : Nat := if f.xf then 96 + f.dstdev.toNat else f.dst.toNat

/-- Held by the epoch fence. -/
def fenceHeld (x : PortSt) (f : Flit) : Bool :=
  match f.net with
  | .req => x.oldReq.getLsbD (maskBit f)
  | .rsp => x.oldRsp.getLsbD (maskBit f)
  | _ => false

/-- Held behind an earlier holder of its TAG (R85, R200). -/
def ghostHeld (x : PortSt) (q : QFlit) : Bool :=
  decide (q.flit.net = .req) && !q.fab &&
    (match q.tid with
     | some i => x.opens.any fun e => decide (e.2.tid ≠ i) && (e.2.ghostAt.isSome || e.2.reqIn) &&
         decide (nbits 9 0 e.2.req.tag.toNat = nbits 9 0 q.flit.tag.toNat)
     | none => false)

/-- Held toward a device whose stream is not open or whose window is full (R342). DEDUCED (log entry 25). -/
def winHeldNow (s : State) (p : Fin 96) (f : Flit) : Bool := !isStrandPort p.val && seqHeld s f

def qHeld (s : State) (p : Fin 96) (q : QFlit) : Bool :=
  fenceHeld s.ports[p] q.flit || ghostHeld s.ports[p] q || winHeldNow s p q.flit

/-- Not held, and with a credit for its VC. DEDUCED (log entry 25). -/
def canGo (s : State) (p : Fin 96) (q : QFlit) : Bool :=
  !qHeld s p q && decide (0 < crdNow s (rKey (pTile p).val q.flit.net (lIn p) q.flit.vc.toNat))

/-- Count what holds a head in this cycle (R441, R442). DEDUCED (log entry 18). -/
def countHeld (p : Fin 96) (q : QFlit) (s : State) : State :=
  let x := s.ports[p]
  let s := if fenceHeld x q.flit && decide (x.fenceCyc ≤ s.clk.cyc) then
      countPort p 39 (updPort p (fun x => { x with fenceCyc := s.clk.cyc + 1 }) s)
    else s
  let s := if ghostHeld x q then countPort p 45 s else s
  if winHeldNow s p q.flit && !q.winHeld then
    match trExit s s.epoch.active q.flit.dstdev.toNat with
    | some n => if h : n < 10 then countStrand ⟨n, h⟩ 21 s else s
    | none => s
  else s

/-- Mark the head of a queue as counted. DEDUCED (log entry 18). -/
def markHeld (s : State) (p : Fin 96) (l : List QFlit) : List QFlit :=
  match l with
  | [] => []
  | q :: r => { q with winHeld := winHeldNow s p q.flit } :: r

/-- A REQ or RSP that goes from GT to LL takes its companions with it: those that wait, and those still to be offered (R67, R79). -/
def demoteKin (p : Fin 96) (tid : Nat) (s : State) : State :=
  let kin := (s.ports[p].gtq.flatMap (·.2)).filter fun q => decide (q.flit.net = .dat ∧ q.tid = some tid)
  let toLl := fun (f : Flit) => { f with cls := noGt f.cls }
  let s := updPort p (fun x => { x with
    gtq := x.gtq.filterMap (fun e =>
      let r := e.2.filter fun q => !decide (q ∈ kin)
      if r.isEmpty then none else some (e.1, r))
    opens := x.opens.map (fun e => if e.2.tid = tid then (e.1, { e.2 with req := toLl e.2.req }) else e)
    rspOpen := x.rspOpen.map (fun a => if a.tid = some tid then { a with flit := toLl a.flit } else a) }) s
  forEach kin (fun q s =>
    let f := toLl q.flit
    enqueue p { q with flit := { f with vc := injectVc p.val f }, flow := none } (countPort p 40 s)) s

/-- A flow's packets whose flow has lost its entry leave as LL (R163). DEDUCED (log entry 80). -/
def rehome (p : Fin 96) (n : Net) (s : State) : State :=
  let lost := (s.ports[p].gtq.filter fun e => decide (e.1 / 256 = netNum n)).flatMap fun e =>
    e.2.filter fun q => decide (flowOf s p.val n q.flit.dst.toNat q.flit.dstdev.toNat ≠ q.flow)
  if lost.isEmpty then s
  else
    let s := updPort p (fun x => { x with gtq := x.gtq.filterMap (fun e =>
      let r := e.2.filter fun q => !decide (q ∈ lost)
      if r.isEmpty then none else some (e.1, r)) }) s
    forEach lost (fun q s =>
      let (f, fl, s) := gtTest p q.flit s
      let s := match q.tid with
        | some i => if n ≠ .dat ∧ fl.isNone then demoteKin p i s else s
        | none => s
      enqueue p { q with flit := { f with vc := injectVc p.val f }, flow := fl } s) s

/-- What injecting a packet of the unit changes at its open entry. -/
def noteInjected (s : State) (p : Fin 96) (f : Flit) (e : OEntry) : OEntry :=
  match f.net with
  | .req => if e.reqIn then e
    else { e with reqIn := true
                  retryAt := if pingCapable p.val then some (s.clk.cyc + cycUs (portRetryUs s p.val)) else none }
  | _ => if f.msk then { e with maskIn := true } else { e with linesIn := e.linesIn ||| (1 <<< f.lidx.toNat) }

/-- The in-flight counts at an injection of the unit's own (R207). -/
def noteInfl (p : Fin 96) (q : QFlit) (s : State) : State :=
  let f := q.flit
  if q.fab || isStrandPort p.val then s
  else
    match f.net with
    | .rsp => updPort p (fun x => { x with inCnt := x.inCnt - 1 }) s
    | .req => if isFwd f then updPort p (fun x => { x with inCnt := x.inCnt - 1 }) s else s
    | .snp => updPort p (fun x => { x with snpOut := (f.dst, f.dstdev, f.tag) :: x.snpOut }) s
    | .dat => s

/-- A packet enters the mesh in this cycle; bits flip on its way to the router. -/
def injectNow (p : Fin 96) (q : QFlit) (bits : List Nat) (s : State) : State :=
  let c := s.clk.cyc
  let f := { q.flit with epoch := s.epoch.active }
  let key := rKey (pTile p).val f.net (lIn p) f.vc.toNat
  let bit : BitVec 128 := 1 <<< maskBit f
  let s := updPort p (fun x =>
    match f.net with
    | .req => { x with curReq := x.curReq ||| bit }
    | .rsp => { x with curRsp := x.curRsp ||| bit }
    | _ => x) (crdPut key (crdGet s key - 1) s)
  let bw := if f.cls = .gt then c - q.since else 0
  let s := if f.cls = .gt then countPortN p 41 bw s else s
  let d := if f.xf && decide (f.dstdev ≠ ownDev s) then
      (match trExit s f.epoch f.dstdev.toNat with | some n => strandPort n | none => 96)
    else f.dst.toNat
  let (m, s) := smpInject p.val d f bw s
  let b : BufFlit := { flit := f, dest := some (routeFlit s (pTile p).val f 0), ready := c + 2, since := c + 2, flow := q.flow, mark := m }
  let s := (arrive (pTile p) f.net (lIn p) b bits false s).2
  let s := match q.tid with
    | some i => updPort p (fun x => { x with
        opens := x.opens.map (fun e => if e.2.tid = i then (e.1, noteInjected s p f e.2) else e) }) s
    | none => s
  let s := noteInfl p q s
  let s := match q.rxBuf, strandOf p.val with
    | some b, some n => rxFree n b s
    | _, _ => s
  recredit p s

/-- Drop the head of an injection queue. -/
def popQ (p : Fin 96) (k : Nat) (s : State) : State :=
  updPort p (fun x => { x with injq := spSet [] x.injq k (spGet [] x.injq k).tail }) s

/-- Drop the head of a flow queue: the next packet is the oldest from the next cycle. -/
def popGt (p : Fin 96) (k : Nat) (s : State) : State :=
  updPort p (fun x => { x with gtq := spSet [] x.gtq k (match (spGet [] x.gtq k).tail with
    | [] => []
    | q :: r => { q with since := max q.since (s.clk.cyc + 1) } :: r) }) s

/-- Starvation counters of a fabric half after a cycle with its own grant c, at profile 0: BE_N = 8, LL_N = 4 (R118, R483). -/
def injStarve (p : Fin 96) (n : Net) (c : Option Cls) (waits : Cls → Bool) (s : State) : State :=
  let k := netNum n
  let step := fun (x : Cls) (m : Sparse Nat) (due : Nat) =>
    if c = some x ∨ !waits x then spSet 0 m k 0
    else if c.isSome then spSet 0 m k (min due (spGet 0 m k + 1)) else m
  updPort p (fun y => { y with beCnt := step .be y.beCnt 7, llCnt := step .ll y.llCnt 3 }) s

/-- The class a fabric half serves (R483). -/
def injClass (x : PortSt) (n : Net) (has : Cls → Bool) : Option Cls :=
  let k := netNum n
  if decide (7 ≤ spGet 0 x.beCnt k) && has .be then some .be
  else if decide (3 ≤ spGet 0 x.llCnt k) && has .ll then some .ll
  else if has .mg then some .mg
  else if has .ll then some .ll
  else if has .be then some .be
  else none

/-- A fabric half works: its tile runs. -/
def halfRuns (s : State) (p : Fin 96) : Bool := usedPort p.val && routerRuns s (pTile p)

/-- The GT packet of this slot, where one waits: its queue key and the packet. -/
def gtWaiting (s : State) (p : Fin 96) (n : Net) : Option (Nat × QFlit) :=
  match slotFlow s p.val n (slotNow s) with
  | some fl => ((spGet [] s.ports[p].gtq (gKey n fl)).head?).map fun q => (gKey n fl, q)
  | none => none

/-- Inject the slot's GT packet. -/
def injectGt (p : Fin 96) (x : Nat × QFlit) (bits : List Nat) (s : State) : State :=
  if canGo s p x.2 then injectNow p x.2 bits (popGt p x.1 s)
  else
    let t := countHeld p x.2 s
    updPort p (fun y => { y with gtq := spSet [] y.gtq x.1 (markHeld s p (spGet [] y.gtq x.1)) }) t

/-- Inject the head of one queue. -/
def injectHead (p : Fin 96) (k : Nat) (bits : List Nat) (s : State) : State :=
  match (spGet [] s.ports[p].injq k).head? with
  | some q => injectNow p q bits (popQ p k s)
  | none => s

/-- A class has a candidate: the head of its queue is not held and has a credit (R483). -/
def injCand (s : State) (p : Fin 96) (n : Net) (c : Cls) : Bool :=
  match (spGet [] s.ports[p].injq (qKey n c)).head? with
  | some q => canGo s p q
  | none => false

/-- Inject from the class queues; re-injected packets of a failover go first (R339). -/
def injectClass (p : Fin 96) (n : Net) (bits : List Nat) (s : State) : State :=
  let q := s.ports[p].injq
  let head := fun (k : Nat) => (spGet [] q k).head?
  if (match head (reKey n) with | some x => canGo s p x | none => false) then
    let s := injStarve p n none (injCand s p n) s
    match strandOf p.val with
    | some st => countStrand st 24 (injectHead p (reKey n) bits s)
    | none => injectHead p (reKey n) bits s
  else
    let keys := [Cls.ll, .be, .mg].map (qKey n)
    let s1 := forEach (keys.filterMap head) (countHeld p) s
    let s1 := updPort p (fun x => { x with injq := keys.foldl (fun m k => spSet [] m k (markHeld s p (spGet [] m k))) x.injq }) s1
    let s2 := injStarve p n (injClass s.ports[p] n (injCand s p n)) (injCand s p n) s1
    match injClass s.ports[p] n (injCand s p n) with
    | none => s2
    | some c => injectHead p (qKey n c) bits s2

/-- The key of a fabric half's cycles on a network. -/
def halfKey (p : Fin 96) (n : Net) : Nat := 192 + 4 * p.val + netNum n

/-- FABRIC_HALF_INJECT: one FCLK cycle of one network of a fabric half. -/
def injectSlotDo (p : Fin 96) (n : Net) (k : Fin 128) (bits : List Nat) (s : State) : State :=
  let s := runSlot (halfKey p n) k s
  if !halfRuns s p then s
  else
    let s := rehome p n s
    match gtWaiting s p n with
    | some x => injectGt p x bits (injStarve p n none (injCand s p n) s)
    | none => injectClass p n bits s

/-- GT_SLOT_INJECT: in a slot whose flow has a packet waiting, that packet; otherwise nothing (R163). -/
def gtSlotDo (p : Fin 96) (n : Net) (k : Fin 128) (bits : List Nat) (s : State) : State :=
  let s := runSlot (halfKey p n) k s
  if !halfRuns s p then s
  else
    let s := rehome p n s
    match gtWaiting s p n with
    | some x => injectGt p x bits (injStarve p n none (injCand s p n) s)
    | none => s

/-! ### Delivery and the open-request table (R85, R86, R198, R200) -/

/-- The open entry an answer belongs to: a ghost of its TAG first, then an injected entry. -/
def entryFor (x : PortSt) (tag : BitVec 12) : Option (Nat × OEntry) :=
  let hit := fun (e : Nat × OEntry) => decide (nbits 9 0 e.2.req.tag.toNat = nbits 9 0 tag.toNat)
  match x.opens.find? fun e => hit e && e.2.ghostAt.isSome with
  | some e => some e
  | none => x.opens.find? fun e => hit e && e.2.reqIn

def putEntry (p : Fin 96) (i : Nat) (e : OEntry) (s : State) : State :=
  updPort p (fun x => { x with opens := spIns x.opens i e }) s
/-- An entry closes. -/
def dropEntry (p : Fin 96) (i : Nat) (s : State) : State := recredit p (updPort p (fun x => { x with opens := spDel x.opens i }) s)

/-- Every answer of an entry has come. -/
def answered (e : OEntry) : Bool := decide (e.answers = 0) && decide (e.owed ≤ e.seen)

/-- A ghost, ended where every answer has come. DEDUCED (log entry 84). -/
def keepGhost (p : Fin 96) (i : Nat) (e : OEntry) (s : State) : State := if answered e then dropEntry p i s else putEntry p i e s

/-- An entry becomes a ghost (R199, R200). -/
def toGhost (p : Fin 96) (i : Nat) (e : OEntry) (s : State) : State :=
  keepGhost p i { e with ghostAt := some s.clk.cyc, retryAt := none, rsp := none, lines := [], rspOut := false, psn := 0 } s

/-- The locket block learns the final answer of an LKSTAGE (R236, R258): an answer that is neither CMP nor an ERR, which R253 has abort
too, counts as participant lost. DESIGN CHOICE (log entry 69). -/
def reportStage (e : OEntry) (r : Flit) (s : State) : State :=
  if e.req.opc.toNat ≠ opLKSTAGE then s
  else
    let cause := if r.opc.toNat = rspCMP then none
      else if r.opc.toNat = rspERR ∧ r.sub.toNat = errLOCKET then some (nbits 3 0 r.arg.toNat)
      else some 3
    stageReport e.req.lkt e.stage cause true s

/-- A collected LINE is let go undelivered. -/
def letGo (p : Fin 96) (l : List Flit) (s : State) : State := forEach l (fun d s => freeCredit p d (orphan p s)) s

/-- A REISSUED entry delivers once its answer is whole (R200). -/
def tryCollected (p : Fin 96) (i : Nat) (e : OEntry) (s : State) : State :=
  match e.rsp with
  | none => putEntry p i e s
  | some r =>
    if e.need &&& ~~~ e.gotLines ≠ 0 then putEntry p i e s
    else
      let bad := e.psn.toNat
      let r' := if e.need = 0 then r
        else if bad = 0 then { r with opc := BitVec.ofNat 6 rspCMPDATA, sub := 0, arg := BitVec.ofNat 15 e.req.lmask.toNat }
        else { r with opc := BitVec.ofNat 6 rspERR, sub := BitVec.ofNat 4 errPOISON
                      arg := BitVec.ofNat 15 (at' e.req.lmask.toNat 4 + bad) }
      let lines := (List.range 4).filterMap fun k => e.lines.find? fun d => decide (d.lidx.toNat = k)
      toGhost p i e (forEach lines (deliver p) (if e.rspOut then s else deliver p r' s))

/-- A final RSP for an open entry. DEDUCED (log entry 84). -/
def entryRsp (p : Fin 96) (i : Nat) (e : OEntry) (r : Flit) (s : State) : State :=
  let m := compMask r
  let e := { e with answers := e.answers - 1, owed := e.owed + popCount 4 m }
  if e.ghostAt.isSome then keepGhost p i e (freeCredit p r (orphan p s))
  else if !e.reissued then
    let s := reportStage e r (deliver p r s)
    let e := { e with rsp := some r, rspOut := true, need := BitVec.ofNat 4 m }
    if e.need &&& ~~~ e.gotLines = 0 then dropEntry p i s else putEntry p i e s
  else if e.rsp.isSome then putEntry p i e (freeCredit p r (orphan p s))
  else if m = 0 && decide (r.opc.toNat = rspERR ∨ r.opc.toNat = rspRETRY) then
    toGhost p i e (letGo p e.lines (deliver p r s))
  else tryCollected p i { e with rsp := some r, need := if m = 0 then 0 else e.req.lmask } s

/-- A LINE for an open entry. -/
def entryLine (p : Fin 96) (i : Nat) (e : OEntry) (d : Flit) (s : State) : State :=
  let e := { e with seen := e.seen + 1 }
  let bit : BitVec 4 := 1 <<< d.lidx.toNat
  let psn := if d.dpsn then e.psn ||| bit else e.psn
  if e.ghostAt.isSome then keepGhost p i e (freeCredit p d (orphan p s))
  else if !e.reissued then
    let e := { e with gotLines := e.gotLines ||| bit, psn := psn }
    let s := deliver p d s
    if e.rsp.isSome && decide (e.need &&& ~~~ e.gotLines = 0) then dropEntry p i s else putEntry p i e s
  else if e.gotLines &&& bit ≠ 0 then putEntry p i e (freeCredit p d (orphan p s))
  else tryCollected p i { e with gotLines := e.gotLines ||| bit, psn := psn, lines := e.lines ++ [d] } s

/-! ### FLIT_EJECT (R72, R86, R90, R197, R205, R208, R237) -/

/-- The generation a packet carries is the port's. DEDUCED (log entry 84). -/
def genOk (s : State) (p : Fin 96) (tag : BitVec 12) : Bool := decide (nbits 11 10 tag.toNat = s.ports[p].gen.toNat)

/-- A LINE in local form, past the generation test. -/
def lineIn (p : Fin 96) (d : Flit) (s : State) : State :=
  if isMap p.val || isHome p.val then deliver p d s
  else
    match entryFor s.ports[p] d.tag with
    | some (i, e) => entryLine p i e d s
    | none => deliver p d s

/-- A transit DAT packet d paired with packet c, in local form (R90). -/
def paired (p : Fin 96) (c d : Flit) (s : State) : State :=
  lineIn p { d with transit := false, src := c.src, tag := c.tag, srcdev := c.srcdev, dstdev := 0, cnet := false, e2seq := 0 }
    (countPort p 42 s)

/-- A transit DAT packet meets its packet: delivered, or discarded with it. -/
def pairNow (p : Fin 96) (a : Await) (d : Flit) (s : State) : State :=
  let s := updPort p (fun x => { x with pairCmp := awaitDone a d x.pairCmp }) s
  if a.drop then freeCredit p d (if a.flit.net = .rsp then orphan p s else s)
  else paired p a.flit d s

/-- A DAT packet in transit form arrives. -/
def transitIn (p : Fin 96) (d : Flit) (s : State) : State :=
  match s.ports[p].pairCmp.find? fun a => pairs a.flit d && awaitTakes a d with
  | some a => pairNow p a d s
  | none => updPort p (fun x => { x with pairDat := x.pairDat ++ [(d, s.clk.cyc)] }) s

/-- A packet from another device arrived whose LINEs are to be paired, with those that came first. -/
def awaitPairs (p : Fin 96) (c : Flit) (drop : Bool) (s : State) : State :=
  if !c.xf || compCount c = 0 then s
  else
    let s := updPort p (fun x => { x with pairCmp := { flit := c, left := awaitBits c, drop := drop } :: x.pairCmp }) s
    forEach (s.ports[p].pairDat.filter fun d => pairs c d.1) (fun d s =>
      match s.ports[p].pairCmp.find? fun a => decide (a.flit = c) && awaitTakes a d.1 with
      | some a => pairNow p a d.1 (updPort p (fun x => { x with pairDat := x.pairDat.erase d }) s)
      | none => s) s

/-- A REQ answered here: its companions are discarded as they come (R205, R208). -/
def fenceReq (p : Fin 96) (f : Flit) (s : State) : State :=
  let s := freeCredit p f s
  if f.opc.toNat = opBABANDON then s
  else
    let s := answerFrom p f rspERR errFENCED 0 (countPort p 38 s)
    if compCount f = 0 then s
    else if f.xf then awaitPairs p f true s
    else
      let a : Await := { flit := f, left := awaitBits f, drop := true }
      updPort p (fun x => { x with refused := a :: (x.refused.filter (fun a =>
        !decide (a.flit.src = f.src ∧ a.flit.srcdev = f.srcdev ∧ a.flit.tag = f.tag))) }) s

/-- A REQ at a port in service. -/
def reqIn (p : Fin 96) (f : Flit) (s : State) : State :=
  if s.ports[p].st = .fencing ∧ f.opc.toNat ≠ opBABANDON then fenceReq p f s
  else if isHeld s p f then freeCredit p f (updPort p (fun x => { x with heldDec := x.heldDec ++ [f] }) s)
  else
    let s := updPort p (fun x => { x with
      refused := x.refused.filter (fun a => !decide (a.flit.src = f.src ∧ a.flit.srcdev = f.srcdev ∧ a.flit.tag = f.tag))
      stageIn := if isHome p.val && decide (f.opc.toNat = opLKSTAGE) then x.stageIn ++ [f] else x.stageIn
      lkSeen := if isHome p.val && decide (f.opc.toNat = opLKCOMMIT ∨ f.opc.toNat = opLKABORT) then seenAdd f x.lkSeen
        else x.lkSeen }) s
    awaitPairs p f false (deliver p f s)

/-- An RSP at a port in service. -/
def rspIn (p : Fin 96) (f : Flit) (s : State) : State :=
  if !genOk s p f.tag then
    let s := updPort p (fun x => { x with
      genDrops := (f.src, f.srcdev, f.tag, s.clk.cyc) :: x.genDrops.filter (fun g => s.clk.cyc ≤ g.2.2.2 + cycUs 256) }) s
    awaitPairs p f true (freeCredit p f (orphan p s))
  else if f.opc.toNat = rspSNPRSP then
    awaitPairs p f false (deliver p f (updPort p (fun x => { x with snpOut := x.snpOut.erase (f.src, f.srcdev, f.tag) }) s))
  else
    match (if isFinalRsp f then entryFor s.ports[p] f.tag else none) with
    | some (i, e) => awaitPairs p f false (entryRsp p i e f s)
    | none => awaitPairs p f false (deliver p f s)

/-- A DAT packet in local form at a port in service. -/
def datIn (p : Fin 96) (d : Flit) (s : State) : State :=
  let x := s.ports[p]
  if isMap p.val || isHome p.val then
    if x.genDrops.any fun g => decide (g.1 = d.src ∧ g.2.1 = d.srcdev ∧ g.2.2.1 = d.tag ∧ s.clk.cyc ≤ g.2.2.2 + cycUs 256) then
      freeCredit p d (orphan p s)
    else
      match x.refused.find? fun a =>
          decide (a.flit.src = d.src ∧ a.flit.srcdev = d.srcdev ∧ a.flit.tag = d.tag) && awaitTakes a d with
      | some a => freeCredit p d (updPort p (fun x => { x with refused := awaitDone a d x.refused }) s)
      | none => deliver p d s
  else if !genOk s p d.tag then freeCredit p d (orphan p s)
  else lineIn p d s

/-- SNPRSP I for the unit of a FENCED port (R208, R482). -/
def snoopAnswer (p : Fin 96) (f : Flit) (s : State) : State :=
  if f.opc.toNat = snpAGENTLOST then s
  else fabSend p (answerTo f p.val (ownDev s) rspSNPRSP 0 0) s

/-- A packet for the locket block (R237). -/
def forLocket (s : State) (p : Fin 96) (f : Flit) : Bool :=
  decide (p = locketPort s) &&
    (match f.net with
     | .rsp => decide (f.opc.toNat = rspLKVOTE ∨ f.opc.toNat = rspLKDONE)
     | .req => f.xf && decide (f.opc.toNat = opLKCOMMIT ∨ f.opc.toNat = opLKABORT)
     | _ => false)

/-- The ERR can answer an open entry of the unit's: it has its TAG, and as ERR FENCED it comes from where the entry's REQ went. -/
def errOfUnit (s : State) (p : Fin 96) (f : Flit) : Bool :=
  match entryFor s.ports[p] f.tag with
  | none => false
  | some (_, e) => decide (f.sub.toNat = errNOROUTE) || decide (e.req.dst = f.src ∧ e.req.dstdev = f.srcdev)

/-- An ERR that answers a packet of the locket block: generation 0 and a TAG the block uses; one that can answer the unit's REQ of the
same TAG is taken for the unit's. DESIGN CHOICE (log entry 69). -/
def lkErrHere (s : State) (p : Fin 96) (f : Flit) : Bool :=
  decide (p = locketPort s) && decide (f.net = .rsp ∧ f.opc.toNat = rspERR) &&
    decide (f.sub.toNat = errNOROUTE ∨ f.sub.toNat = errFENCED) && decide (f.tag.toNat < 64) && !errOfUnit s p f

/-- The cycle in which a peer down was detected (R204, R205). -/
def detectCycle (s : State) (p : Fin 96) : Bool := decide (s.ports[p].holdDown = s.clk.cyc + cycUs 100)

/-- An RSP dropped at a port in RESET: one of another generation counts (R86), and one that comes in the cycle of detection (R204). -/
def resetRsp (p : Fin 96) (f : Flit) (s : State) : State :=
  if !genOk s p f.tag then
    orphan p (updPort p (fun x => { x with
      genDrops := (f.src, f.srcdev, f.tag, s.clk.cyc) :: x.genDrops.filter (fun g => s.clk.cyc ≤ g.2.2.2 + cycUs 256) }) s)
  else if detectCycle s p then orphan p s
  else s

/-- A DAT packet dropped at a port in RESET counts as an answer's: one that comes in the cycle of detection, a transit packet of an RSP,
at a MAP or HOME a line of an RSP dropped for its generation, elsewhere one of another generation (R86). DEDUCED (log entry 84). -/
def resetDat (s : State) (p : Fin 96) (d : Flit) : Bool :=
  if d.transit then d.cnet
  else if isMap p.val || isHome p.val then
    s.ports[p].genDrops.any fun g => decide (g.1 = d.src ∧ g.2.1 = d.srcdev ∧ g.2.2.1 = d.tag ∧ s.clk.cyc ≤ g.2.2.2 + cycUs 256)
  else !genOk s p d.tag || detectCycle s p

/-- A packet reaches the fabric half of a unit. -/
def unitIn (p : Fin 96) (f : Flit) (s : State) : State :=
  let x := s.ports[p]
  if forLocket s p f then freeCredit p f { s with lock := { s.lock with inbox := s.lock.inbox ++ [f] } }
  else if lkErrHere s p f then lkErr f (freeCredit p f s)
  else if portEn x then
    match f.net with
    | .req => reqIn p f s
    | .rsp => rspIn p f s
    | .snp => deliver p f s
    | .dat => if f.transit then transitIn p f s else datIn p f s
  else
    match f.net with
    | .req => fenceReq p f s
    | .snp => if x.st = .fenced then snoopAnswer p f s else s
    | .rsp => if x.st = .reset then resetRsp p f s else s
    | .dat => if x.st = .reset && resetDat s p f then orphan p s else s

/-- A packet leaves over strand n: queued for the link, or back into the mesh where the session is not up (R339). -/
def strandIn (n : Fin 10) (b : BufFlit) (s : State) : State :=
  let f := b.flit
  if s.strands[n].lnk.link ≠ .up then reinject n [f] s
  else
    let buf := if f.vc = vcGT then 0 else if f.vc = vcTE then 2 else 1
    let k := netNum f.net * 3 + buf
    let left := b.ready - (if b.flow.isSome && !b.displaced then 1 else 2)
    updLnk n (fun x => { x with tx := spSet [] x.tx k (spGet [] x.tx k ++ [{ flit := f, left := left, since := s.clk.cyc }]) }) s

/-- FLIT_EJECT, 2 cycles after the flit came to the fabric half (R105). -/
def ejectDo (p : Fin 96) (n : Net) (flips : List Nat) (s : State) : State :=
  match spGet [] s.ports[p].ejq (netNum n) with
  | [] => s
  | b :: r =>
    let s := updPort p (fun x => { x with ejq := spSet [] x.ejq (netNum n) r }) (advanceTo (b.ready + 2) s)
    let s := if n = .req ∨ n = .snp then advanceTo s.ports[p].stallEnd s else s
    let (f?, cor, unc) := eccArrive b.flit (b.flips ++ flips)
    let s := if cor then faultEvent (.port p) srcEccCor s else s
    let s := if unc then faultEvent (.port p) srcEccUnc s else s
    match f? with
    | none => freeCredit p b.flit s
    | some f =>
      let s := smpEnd b.mark f b.hops b.displaced (decide (f.cls = .gt) && b.flow.isSome && !b.displaced) s
      match strandOf p.val with
      | some st => if portEn s.ports[p] then strandIn st { b with flit := f } s else unitIn p f s
      | none => unitIn p f s

/-! ### Credits and timers -/

/-- One ejection credit returned (R195). -/
def creditReturn (p : Fin 96) (n : Net) (c : Cls) (s : State) : State :=
  if ejCredit s p n c < 63 then setEjCredit p n c (ejCredit s p n c + 1) s else faultEvent (.port p) srcCredit s

/-- EJECT_CREDIT_RETURN: n credits of one class. SNP has no GT credit (R190). -/
def creditReturnDo (p : Fin 96) (n : Net) (c : Cls) (k : Nat) (s : State) : State :=
  if !portEn s.ports[p] || (decide (n = .snp) && decide (c = .gt)) then s
  else flushUnit p (forEach (List.range k) (fun _ => creditReturn p n c) s)

/-- PAIR_TIMEOUT: the oldest unpaired transit DAT packet (R90). -/
def pairTimeoutDo (p : Fin 96) (s : State) : State :=
  match s.ports[p].pairDat with
  | [] => s
  | (d, at') :: r =>
    freeCredit p d (orphan p (updPort p (fun x => { x with pairDat := r }) (advanceTo (at' + cycUs 100) s)))

/-- Open entries in REISSUED. -/
def reissuedCount (x : PortSt) : Nat := (x.opens.filter fun e => e.2.reissued && e.2.ghostAt.isNone).length

/-- Re-issue (R199). DEDUCED (log entry 24). -/
def reissueDo (p : Fin 96) (i : Nat) (e : OEntry) (s : State) : State :=
  let (f, fl, s) := gtTest p e.req s
  let (k, s) := if f.xf then drawSeq f.dstdev.toNat 0 1 s else (e.req.e2seq.toNat, s)
  let f := { f with e2seq := BitVec.ofNat 16 k }
  let f := { f with vc := injectVc p.val f }
  let e := { e with req := f, reissued := true, answers := e.answers + 1, retryAt := some (s.clk.cyc + cycUs (portRetryUs s p.val)) }
  enqueue p { flit := f, tid := some e.tid, fab := true, flow := fl, since := s.clk.cyc } (putEntry p i e (countPort p 34 s))

/-- RETRY_EXPIRY. -/
def retryDo (p : Fin 96) (i : Nat) (s : State) : State :=
  match s.ports[p].opens.find? fun e => e.1 = i with
  | none => s
  | some (_, e) =>
    match e.retryAt with
    | none => s
    | some at' =>
      let s := advanceTo at' s
      let o := e.req.opc.toNat
      if decide (o = opRD ∨ o = opCFGRD ∨ o = opFENCE) && !e.reissued && decide (reissuedCount s.ports[p] < 16) &&
          decide (s.ms.mode ≠ .drain) then reissueDo p i e s
      else
        let s := errToUnit p e.req errTIMEOUT 0 (countPort p 35 s)
        let s := reportStage e { net := .rsp, opc := BitVec.ofNat 6 rspERR, sub := BitVec.ofNat 4 errTIMEOUT } s
        let s := if openBurst e then abandon p e s else s
        let s := if e.reissued then forEach (e.lines ++ (if e.rspOut then [] else e.rsp.toList)) (freeCredit p) s else s
        faultEvent (.port p) srcPortTo (toGhost p i e s)

/-- GHOST_END, 256 us after the ghost began. -/
def ghostEndDo (p : Fin 96) (i : Nat) (s : State) : State :=
  match s.ports[p].opens.find? fun e => e.1 = i with
  | none => s
  | some (_, e) =>
    match e.ghostAt with
    | none => s
    | some at' => dropEntry p i (advanceTo (at' + cycUs 256) s)

/-- PING_SEND: the next PING, or the failure of the one still unanswered (R201, R202). DEDUCED (log entry 23). -/
def pingDo (p : Fin 96) (s : State) : State :=
  let x := s.ports[p]
  if !pingCapable p.val || !portEn x || regFld s (portPage p.val + 0x40) 0 0 = 0 || decide (s.ms.mode = .drain) then s
  else
    let s := advanceTo x.pingAt s
    if x.pingOut.isSome then
      faultEvent (.port p) srcPortTo (peerDownDo p 0 (countPort p 37 s))
    else
      let tag : BitVec 12 := x.gen.setWidth 12 <<< 10 ||| x.pingCnt.setWidth 12
      let f : Flit := { net := .req, dst := BitVec.ofNat 7 p.val, src := BitVec.ofNat 7 p.val, cls := .mg, vc := 3
                        tag := tag, opc := BitVec.ofNat 6 opPING, dstdev := ownDev s, srcdev := ownDev s }
      toUnit p f (countPort p 36 (updPort p (fun x =>
        { x with pingOut := some tag, pingCnt := x.pingCnt + 1
                 pingAt := s.clk.cyc + cycUs (portPingUs s p.val) }) s))

end Sys2Proof.Machine
end

