-- ==== Sys2Proof/Machine/StrandPhy.lean ====
section
/-! DEFINITION. The lanes of a strand: training, equalisation, loss, power states and widths, and the power-up schedule (R265 to
R323, R376, R459, R460). -/

namespace Sys2Proof.Machine

/-- Do f in this stage only; then send. -/
def inStage (n : Fin 10) (st : Stage) (f : State → State) (s : State) : State :=
  if (phyOf s n).stage = st then trainOut n (f s) else s

/-! ### DETECT (R290, R292) -/

def prsntUse (s : State) (n : Fin 10) : Bool := regFld s (slPage n.val 1 + 0x40) 5 5 = 1

/-- A burst may be sent. -/
def mayBurst (s : State) (n : Fin 10) : Bool := !prsntUse s n || s.pins.prsntLow[n]

/-- A 20 us burst: a MARKER and a TS on every lane, which repeat while it lasts (R292). -/
def burstNow (n : Fin 10) (s : State) : State :=
  let s := emit (.burst n) (updPhy n (fun x => { x with burstAt := s.clk.cyc + cycMs 12 }) s)
  rowSend n (tsBlock s n) (sendMarker n true s)

/-- SLn_PRSNT_n stands at a level. -/
def setPrsnt (n : Fin 10) (low : Bool) (s : State) : State := { s with pins := { s.pins with prsntLow := s.pins.prsntLow.set n low } }

/-- DETECT_BURST, with the level at which SLn_PRSNT_n stands. -/
def detectBurstDo (n : Fin 10) (low : Bool) (s : State) : State :=
  let s := setPrsnt n low s
  if (phyOf s n).stage ≠ .detect ∨ !mayBurst s n then s else burstNow n (advanceTo (phyOf s n).burstAt s)

/-- PRSNT_FALL. -/
def prsntFallDo (n : Fin 10) (s : State) : State :=
  let s := setPrsnt n true s
  if (phyOf s n).stage = .detect && prsntUse s n then burstNow n s else s

/-- DETECT_SIGNAL: signal on a lane for 1 us. -/
def detectSignalDo (n : Fin 10) (s : State) : State :=
  inStage n .detect (fun s => phyModes n (phyStage n .bitlock s)) s

/-! ### BITLOCK to DESKEW (R293 to R296) -/

/-- The end of a stage's 2 ms. -/
def stageEnd (s : State) (n : Fin 10) : Nat := (phyOf s n).stageAt + cycMs 2

/-- The symbols of a codeword as received, in either polarity: inverted, every MSB is flipped (R293). -/
def cwSyms (inv : Bool) (c : BitVec 2720) : List Nat :=
  bitsSyms 272 ((List.range 2720).map fun i => c.getLsbD i != (inv && decide (i % 2 = 0)))

/-- Four consecutive codewords with a zero syndrome. -/
def cwLock (inv : Bool) (cs : List (BitVec 2720)) : Bool :=
  decide (4 ≤ cs.length) && (cs.take 4).all fun c => (rsSyndromes (cwSyms inv c)).all (· = 0)

/-- A lane takes block lock: 64 consecutive blocks at one bit offset carry a valid header (R273); on complex B its codewords are aligned
too, in one polarity (R293). -/
def laneLocks (cxB : Bool) (x : LaneTry) : Bool :=
  decide (64 ≤ x.headers.length) && ((x.headers.take 64).all fun h => decide (h = 1 ∨ h = 2)) &&
    (!cxB || cwLock false x.codewords || cwLock true x.codewords)

/-- A mask of the physical lanes with a property. -/
def laneMask (f : Fin 8 → Bool) : BitVec 8 := BitVec.ofNat 8 ((List.finRange 8).map fun l => at' (b2n (f l)) l.val).sum

/-- The receivers hold a bit offset: the next UI begins a block, on complex B a codeword (R273, R293). -/
def rxStart (x : PhySt) : PhySt := { x with rx := x.rx.map fun y => { y with acc := 0, cnt := 0, bad := false, y := 0, hist := 0, unc := 0 } }

/-- BITLOCK_DONE: what each lane's receiver has found (R289, R290, R293). -/
def bitlockDo (n : Fin 10) (tries : List LaneTry) (ppm : Vector Int 8) (s : State) : State :=
  inStage n .bitlock (fun s =>
    let cxB := decide (8 ≤ n.val)
    let ok := tries.filter (laneLocks cxB)
    let locked := laneMask fun l => ok.any fun x => x.lane = l
    let inv := laneMask fun l => cxB && ok.any fun x => decide (x.lane = l) && !cwLock false x.codewords
    let k := popCount 8 locked.toNat
    if (phyOf s n).cr && ok.any fun x => decide (20 < ppm[x.lane].natAbs) then phyFail n 8 s
    else
      let s := if k < 8 then advanceTo (stageEnd s n) s else s
      if k < 2 then phyFail n 1 s else phyStage n .polarity (updPhy n (fun x => { rxStart x with locked := locked, polB := inv }) s)) s

/-- The lanes of a mask are each listed, and each shows what f asks. -/
def allShow {α : Type} (m : BitVec 8) (l : List (Fin 8 × α)) (f : Fin 8 → α → Bool) : Bool :=
  (List.finRange 8).all fun p => !m.getLsbD p.val || l.any fun x => decide (x.1 = p) && f p x.2

/-- POLARITY_DONE: P[71:8] of two consecutive markers of each locked lane; both SYNC, or both its complement (R294). -/
def polarityDo (n : Fin 10) (marks : List (Fin 8 × BitVec 64 × BitVec 64)) (s : State) : State :=
  inStage n .polarity (fun s =>
    let x := phyOf s n
    let sync := BitVec.ofNat 64 markerSync
    let inv := laneMask fun l => x.locked.getLsbD l.val && marks.any fun m => decide (m.1 = l ∧ m.2.1 = ~~~sync)
    let found := allShow x.locked marks fun _ m => decide (m.1 = m.2 ∧ (m.1 = sync ∨ m.1 = ~~~sync))
    if !found ∨ (8 ≤ n.val ∧ inv ≠ x.polB &&& x.locked) then s
    else phyStage n .lanemap (updPhy n (fun x => { x with polInv := inv }) s)) s

/-- Logical lanes of a mask of physical lanes. -/
def logicalMask (rev : Bool) (m : BitVec 8) : BitVec 8 := if rev then m.reverse else m

/-- The logical lane of a physical one (R295). -/
def logicalOf (x : PhySt) (p : Fin 8) : Fin 8 := if x.reversed then p.rev else p

/-- The physical lane of a logical one. -/
def physicalOf (x : PhySt) (l : Fin 8) : Fin 8 := if x.reversed then l.rev else l

/-- LANEMAP_DONE: LANE of two consecutive markers of each locked lane. -/
def lanemapDo (n : Fin 10) (marks : List (Fin 8 × BitVec 3 × BitVec 3)) (s : State) : State :=
  inStage n .lanemap (fun s =>
    let x := phyOf s n
    let go := fun (rev : Bool) =>
      phyStage n .deskew (updPhy n (fun x => { x with reversed := rev, laneGood := logicalMask rev x.locked }) s)
    if allShow x.locked marks fun p m => decide (m.1.toNat = p.val ∧ m.2.toNat = p.val) then go false
    else if allShow x.locked marks fun p m => decide (m.1.toNat = 7 - p.val ∧ m.2.toNat = 7 - p.val) then go true
    else phyFail n 3 s) s

/-- The first dwell of a training (R305). -/
def firstDwell (n : Fin 10) (s : State) : State :=
  updPhy n (fun x =>
    let stored := x.rows.lastValid && decide (regFld s (slPage n.val 2 + 0x40) 0 0 = 0)
    { x with dwell := if stored then x.rows.lastRow else 0, dwellStored := stored, dwellAt := s.clk.cyc, bestRow := 0, bestFom := 0
             swept := false }) s

/-- The MARKER a block is, with a good CRC. -/
def isMarker (b : Block) : Bool := blkGood b && decide (blkType b = tyMARKER)
def markerCnt (b : Block) : BitVec 16 := BitVec.ofNat 16 (blkFld b 111 96)

/-- A lane's waiting blocks from the marker of this count on. -/
def fromMarker (m : BitVec 16) (q : List (Block × Bool)) : List (Block × Bool) :=
  q.dropWhile fun b => !(isMarker b.1 && decide (markerCnt b.1 = m))

/-- The lanes are aligned on the markers of one count (R296). -/
def alignOn (m : BitVec 16) (x : PhySt) : PhySt := { x with aligned := true, rx := x.rx.map fun y => { y with q := fromMarker m y.q } }

/-- The marker of each lane, with when it arrived. -/
def arrivals (marks : List (Fin 8 × BitVec 16)) (times : Vector Nat 8) : List (Fin 8 × BitVec 16 × Nat) :=
  marks.map fun m => (m.1, m.2, times[m.1])

/-- DESKEW_DONE, in DESKEW or on DEEP exit (R318): the count of a marker of each locked lane and when it arrived, in 0.125 ns. The largest
skew is taken between markers of equal count, and with it the lane that arrives last. -/
def deskewDo (n : Fin 10) (arr : List (Fin 8 × BitVec 16 × Nat)) (s : State) : State :=
  let x := phyOf s n
  let mine := arr.filter fun a => x.locked.getLsbD a.1.val
  match mine with
  | [] => s
  | a :: _ =>
    let early := mine.foldl (fun m b => min m b.2.2) a.2.2
    let late := mine.foldl (fun m b => max m b.2.2) a.2.2
    let last := (mine.filter fun b => b.2.2 = late).map fun b => (logicalOf x b.1).val
    let note := updPhy n (fun x => alignOn a.2.1 { x with skew := late - early, slow := last.foldl min 7 })
    if !allShow x.locked mine fun _ b => decide (b.1 = a.2.1) then s
    else if deepExit x then (if late - early ≤ 256 then note s else s)
    else
      inStage n .deskew (fun s =>
        if 256 < late - early then phyFail n 4 s else phyStage n .preset (firstDwell n (note s))) s

/-! ### PRESET (R305) -/

/-- A row is chosen. -/
def chooseRow (n : Fin 10) (row fom : Nat) (s : State) : State :=
  if fom < phyFloor s n.val then phyFail n 5 s
  else updPhy n (fun x => { x with chosen := true, bestRow := row, bestFom := fom, rxRow := row }) s

/-- FoM of a lane from V and E (R304). -/
def fomOf (v : BitVec 6) (e : Nat) : Nat :=
  let c := if e = 0 then 0 else Nat.log2 e + 1
  min 1023 (16 * v.toNat + 15 - 64 * c)

/-- FoM of a row: the lowest among the lanes in use, from V and E of each logical lane (R304). -/
def rowFom (x : PhySt) (eyes : List (BitVec 6 × Nat)) : Nat :=
  (eyes.zipIdx.filter fun e => x.laneGood.getLsbD e.2).foldl (fun m e => min m (fomOf e.1.1 e.1.2)) 1023

/-- EQ_DWELL_END. -/
def dwellDo (n : Fin 10) (eyes : List (BitVec 6 × Nat)) (s : State) : State :=
  if (phyOf s n).chosen then s
  else
    inStage n .preset (fun s =>
      let s := advanceTo ((phyOf s n).dwellAt + cycUs 192) s
      let x := phyOf s n
      let f := rowFom x eyes
      if x.dwellStored then
        if phyAccept s n.val ≤ f then chooseRow n x.dwell f s
        else updPhy n (fun x => { x with dwell := 0, dwellStored := false, dwellAt := s.clk.cyc }) s
      else
        let better := decide (x.dwell = 0) || decide (x.bestFom < f)
        let row := if better then x.dwell else x.bestRow
        let best := if better then f else x.bestFom
        if x.dwell < 7 then
          updPhy n (fun x => { x with dwell := x.dwell + 1, bestRow := row, bestFom := best, dwellAt := s.clk.cyc }) s
        else chooseRow n row best (regClrBit (slPage n.val 2 + 0x40) 0 (updPhy n (fun x => { x with swept := true }) s))) s

/-- PRESET_DONE: both rows are chosen. -/
def presetDo (n : Fin 10) (s : State) : State :=
  if (phyOf s n).chosen && (phyOf s n).pDone then inStage n .preset (phyStage n .config) s else s

/-! ### CONFIG (R298 to R301) -/

/-- The lane set both masks allow (R300). -/
def commonSet (a b : BitVec 8) : Option (Nat × Bool) :=
  let m := (a &&& b).toNat
  [(0, false), (1, false), (1, true), (2, false), (2, true)].find? fun x => decide (laneSet x.1 x.2 &&& m = laneSet x.1 x.2)

/-- ACTIVE is reached (R290, R301, R306): FAILS clears, the rows are stored but in DRAIN, and a session starts. -/
def reachActive (n : Fin 10) (s : State) : State :=
  let keep := decide (s.ms.mode ≠ .drain)
  let s := updPhy n (fun x =>
    { x with
      stage := .active, stageAt := s.clk.cyc, fails := 0, pwr := .active, rxPwr := .active, fom := Vector.replicate 8 0, fomAt := s.clk.cyc
      fomLow := Vector.replicate 8 none, inBand := Vector.replicate 8 false
      rows := if keep then { lastRow := x.bestRow, lastFom := x.bestFom, lastValid := true, txRow := x.appRow } else x.rows }) s
  sessionStart n s

/-- The TCBs that are sent until 16 have gone with ACK = 1 (R299). -/
def ackRest (n : Fin 10) (s : State) : State := forEach (List.range (16 - (phyOf s n).ackTx)) (fun _ => trainOut n) s

/-- TS_IN_ACTIVE: the strand retrains, and it counts as a strand fault (R302), of source 10. DESIGN CHOICE (log entry 93). -/
def tsActiveDo (n : Fin 10) (s : State) : State :=
  if (phyOf s n).stage = .active && (phyOf s n).deepAt.isNone then faultEvent (.strand n) srcLos (strandDown n 5 s) else s

/-- A TS received (R297, R302, R305). -/
def tsIn (n : Fin 10) (b : Block) (s : State) : State :=
  let x := phyOf s n
  if inTraining x.stage then
    trainOut n (updPhy n (fun x =>
      { x with appRow := if blkFld b 19 19 = 1 then blkFld b 18 16 else x.appRow
               pDone := x.pDone || decide (blkFld b 23 23 = 1) }) s)
  else tsActiveDo n s

/-- The fields CONFIG reads. -/
def tcbOf (b : Block) : TcbInfo :=
  { serial := BitVec.ofNat 64 (blkFld b 71 8), cr := blkFld b 72 72 = 1, precodeOk := blkFld b 73 73 = 1, express := blkFld b 74 74 = 1
    ack := blkFld b 75 75 = 1, rxGood := BitVec.ofNat 8 (blkFld b 83 76), devId := BitVec.ofNat 5 (blkFld b 88 84)
    idv := blkFld b 89 89 = 1, cap := BitVec.ofNat 16 (blkFld b 111 96) }

/-- A TCB is that received before it, but for ACK (R299). -/
def tcbRepeats (last : Option TcbInfo) (t : TcbInfo) : Bool :=
  match last with | some u => decide ({ u with ack := t.ack } = t) | none => false

/-- A TCB received in CONFIG (R289, R291, R299). -/
def tcbIn (n : Fin 10) (b : Block) (s : State) : State :=
  inStage n .config (fun s =>
    let t := tcbOf b
    if t.express ≠ decide (8 ≤ n.val) ∨ blkFld b 115 112 ≠ 0 then phyFail n 9 s
    else if t.cr ≠ (phyOf s n).cr then phyFail n 6 s
    else
      updLnk n (fun l => { l with tcbSerial := t.serial }) (updPhy n (fun x =>
        { x with tcb := some t, same := if tcbRepeats x.tcb t then min 2 (x.same + 1) else 1
                 ackOn := x.ackOn || (tcbRepeats x.tcb t && decide (1 ≤ x.same))
                 ackRx := if t.ack then min 8 (x.ackRx + 1) else 0 }) s)) s

/-- TS_OR_TCB_RECEIVE: a bad block breaks a run of valid TCBs. DEDUCED (log entry 62). -/
def tsTcbDo (n : Fin 10) (b : Block) (s : State) : State :=
  if !blkGood b then countStrand n 13 (updPhy n (fun x => { x with same := 0, ackRx := 0 }) s)
  else if blkType b = tyTS then tsIn n b s
  else if blkType b = tyTCB then tcbIn n b s
  else s

/-! ### Failures (R291) -/

/-- FAILWHY of a stage whose 2 ms run out. -/
def timeoutWhy (st : Stage) : Nat :=
  match st with | .bitlock => 1 | .polarity => 2 | .lanemap => 3 | .deskew => 4 | .preset => 5 | _ => 7

/-- TRAIN_STAGE_TIMEOUT. -/
def stageTimeoutDo (n : Fin 10) (s : State) : State :=
  let st := (phyOf s n).stage
  if inTraining st then phyFail n (timeoutWhy st) (advanceTo (stageEnd s n) s) else s

/-- ABSENT_EXPIRE. -/
def absentDo (n : Fin 10) (s : State) : State :=
  if (phyOf s n).stage ≠ .absent then s
  else phyStage n .detect (updPhy n (fun x => { x with fails := 0 }) (advanceTo ((phyOf s n).stageAt + cycMs 100) s))

/-! ### Loss in ACTIVE (R302, R310, R311, R337) -/

/-- The strand drops as at a loss of signal. -/
def losDrop (n : Fin 10) (s : State) : State := faultEvent (.strand n) srcLos (strandDown n 3 s)

/-- The physical lanes of a mask have lost their signal. In ACTIVE the lanes of the current width are watched, and none in DEEP. -/
def losMask (n : Fin 10) (m : Nat) (s : State) : State :=
  let x := phyOf s n
  if x.stage = .active then
    (if x.rxPwr ≠ .deep ∧ laneSet x.rxWidth x.rxGroup &&& (logicalMask x.reversed (BitVec.ofNat 8 m)).toNat ≠ 0 then losDrop n s else s)
  else if inTraining x.stage && (decide (x.stage = .bitlock) || decide (x.locked.toNat &&& m ≠ 0)) then phyFail n 0xA s
  else s

def losDo (n : Fin 10) (lane : BitVec 3) (s : State) : State := losMask n (2 ^ lane.toNat) s

/-- LOSS_OF_BLOCK_LOCK in ACTIVE (R273). -/
def lockLossDo (n : Fin 10) (lane : BitVec 3) (s : State) : State :=
  if (phyOf s n).stage = .active then losDo n lane s else s

/-- A FoM between FLOOR and RECENTRE (R309). -/
def midBand (fl rc f : Nat) : Bool := decide (fl ≤ f) && decide (f < rc)

/-- A lane is re-centred (R308, R309): the search finds a CDR phase and a DFE trim. -/
def recentre (n : Fin 10) (p : Fin 8) (s : State) : State :=
  updPhy n (fun x => { x with rx := x.rx.set p { x.rx[p] with phase := Config.cdrPhase s.freeCtr, trim := Config.dfeTrim s.freeCtr } })
    (useFree s)

/-- FOM_UPDATE (R304, R309, R310): V and E of each logical lane, 1,024 ns after the last. A lane whose FoM comes to stand between FLOOR and
RECENTRE is re-centred, and counted. -/
def fomDo (n : Fin 10) (eyes : List (BitVec 6 × Nat)) (s : State) : State :=
  let x := phyOf s n
  if x.stage ≠ .active ∨ x.rxPwr ≠ .active then s
  else
    let s := advanceTo (x.fomAt + cycNs 1024) s
    let used := fun (i : Fin 8) => (laneSet x.rxWidth x.rxGroup).testBit i.val
    let new := Vector.ofFn fun (i : Fin 8) =>
      if used i then (match eyes[i.val]? with | some (v, e) => fomOf v e | none => x.fom[i]) else 0
    let fl := phyFloor s n.val
    let mid := fun (i : Fin 8) => used i && midBand fl (phyRecentre s n.val) new[i]
    let again := (List.finRange 8).filter fun i => mid i && !x.inBand[i]
    let s := updPhy n (fun x => { x with
      fom := new, fomAt := s.clk.cyc, inBand := Vector.ofFn mid
      fomLow := Vector.ofFn fun i => if used i && decide (new[i] < fl) then some (x.fomLow[i].getD s.clk.cyc) else none }) s
    forEach again (fun i s => countStrand n 17 (recentre n (physicalOf x i) s)) s

/-- Since when the lane has been below FLOOR that has been so longest (R310). -/
def fomLowest (x : PhySt) : Option Nat :=
  x.fomLow.toList.foldl (fun m f => match m, f with | some a, some b => some (min a b) | none, f => f | m, none => m) none

/-- FOM_FLOOR. -/
def fomFloorDo (n : Fin 10) (s : State) : State :=
  let x := phyOf s n
  match fomLowest x with
  | some t => if x.stage = .active then faultEvent (.strand n) srcFom (strandDown n 4 (advanceTo (t + cycUs 10) s)) else s
  | none => s

/-- The next position of R286 from a position on, in a period that has one left. -/
def localPos (p : Nat) : Option Nat := [512, 1536, 2560, 3584].find? fun q => p ≤ q

/-- CAL_SEND (R308): at the next lane-local position, in place of the FILLER or the stream block; past the last of a period the next
period's marker comes first. -/
def calDo (n : Fin 10) (s : State) : State :=
  let x := phyOf s n
  if x.stage ≠ .active ∨ x.pwr ≠ .active ∨ deepExit x then s
  else
    let s := advanceTo (x.lastCal + cycUs 64) s
    let p := x.tx.toList.foldl (fun m y => max m y.pos) 0
    let s := match localPos p with
      | some q => alignLanes n q s
      | none => alignLanes n 512 (sendMarker n false (alignLanes n 4096 s))
    rowSend n (fun _ => patBlock tyCAL) (updPhy n (fun x => { x with lastCal := s.clk.cyc }) s)

/-! ### Power and width (R312 to R318) -/

/-- Nothing queued and nothing unacknowledged. -/
def linkIdle (x : LinkSt) : Bool := x.replay.isEmpty && x.msgs.isEmpty && x.tx.all fun e => e.2.isEmpty

/-- Send an LCTL REQ. -/
def lctlSend (n : Fin 10) (w : LctlWhat) (s : State) : State :=
  let rid := (phyOf s n).rid
  let r : LctlReq := { what := w, rid := rid, endAt := s.clk.cyc + cycUs 100, idv := s.pool.idv, devId := s.pool.devId }
  controlSend n (lctlBlock s 1 (whatNum w) rid.toNat 0) (updPhy n (fun x => { x with lctlOut := some r, rid := rid + 1 }) s)

/-- What a WIDTH_REQ asks (R314, R319): 0b00 is the widest set trained; none where the strand has that width. -/
def widthWhat (x : PhySt) (v : Nat) : Option LctlWhat :=
  let w := if v = 0 then x.trainedW else v
  if w = x.width ∨ 2 < w then none else some (if w = 0 then .x8 else if w = 1 then .x4 else .x2)

/-- A WIDTH_REQ that asks for the width the strand has asks for nothing. -/
def dropWidth (x : PhySt) : PhySt := { x with wantWidth := x.wantWidth.filter fun v => (widthWhat x v).isSome }

/-- Send the request that waits, where one may be sent (R314). DEDUCED (log entry 77). -/
def lctlPump (n : Fin 10) (s : State) : State :=
  let x := phyOf s n
  if x.stage ≠ .active ∨ x.pwr ≠ .active ∨ x.deepAt.isSome ∨ x.lctlOut.isSome ∨ x.armed.isSome then s
  else
    let s := updPhy n dropWidth s
    match x.wantWidth.bind (widthWhat x), x.wantPwr with
    | some w, _ => lctlSend n w (updPhy n (fun x => { x with wantWidth := none }) s)
    | none, some p => if linkIdle s.strands[n].lnk then lctlSend n p (updPhy n (fun x => { x with wantPwr := none }) s) else s
    | none, none => s

/-- The width a request names, and the set it leads to (R316). -/
def whatWidth (w : LctlWhat) : Option Nat := match w with | .x8 => some 0 | .x4 => some 1 | .x2 => some 2 | _ => none
def nextGroup (x : PhySt) (w : Nat) : Bool := if w = 0 ∨ x.width = 0 then false else x.group

/-- CAUSE of a NAK, 0 for ACK (R314). DEDUCED (log entry 77). -/
def lctlJudge (s : State) (n : Fin 10) (w : LctlWhat) : Nat :=
  let x := phyOf s n
  if w = .deep ∧ regFld s (slPage n.val 0 + 0x40) 6 6 = 0 then 3
  else
    let bad := match whatWidth w with
      | some k => decide (k < x.trainedW) || decide (laneSet k (nextGroup x k) &&& x.laneGood.toNat ≠ laneSet k (nextGroup x k))
      | none => false
    if bad then 2 else if x.armed.isSome then 1 else 0

/-- Answer a REQ. -/
def lctlAnswer (n : Fin 10) (w : LctlWhat) (rid : Nat) (s : State) : State :=
  let c := lctlJudge s n w
  if c = 0 then controlSend n (lctlBlock s 2 (whatNum w) rid 0) (updPhy n (fun x => { x with armed := some w }) s)
  else controlSend n (lctlBlock s 3 (whatNum w) rid c) s

/-- This end, whose REQ is r, wins a collision with the REQ b (R315). -/
def lctlWins (s : State) (r : LctlReq) (b : Block) : Bool :=
  if r.idv && decide (blkFld b 29 29 = 1) then decide (r.devId.toNat < blkFld b 28 24)
  else decide (s.ident.serial.toNat < blkFld b 127 64)

/-- LCTL_REQ_RECEIVE. -/
def lctlReqDo (n : Fin 10) (b : Block) (s : State) : State :=
  takeBlock n tyLCTL b s fun s =>
    match whatOf (blkFld b 15 12) with
    | none => s
    | some w =>
      let rid := blkFld b 19 16
      if blkFld b 11 8 ≠ 1 ∨ (phyOf s n).stage ≠ .active then s
      else
        match (phyOf s n).lctlOut with
        | some r =>
          if lctlWins s r b then controlSend n (lctlBlock s 3 (whatNum w) rid 4) s
          else lctlAnswer n w rid (reqLost n (updPhy n (fun x => { x with lctlOut := none }) s))
        | none => lctlAnswer n w rid s

/-- LCTL_ANSWER_RECEIVE. -/
def lctlAnswerDo (n : Fin 10) (b : Block) (s : State) : State :=
  takeBlock n tyLCTL b s fun s =>
    match (phyOf s n).lctlOut with
    | none => s
    | some r =>
      if blkFld b 19 16 ≠ r.rid.toNat then s
      else if blkFld b 11 8 = 2 then updPhy n (fun x => { x with lctlOut := none, armed := some r.what }) s
      else if blkFld b 11 8 = 3 then lctlPump n (reqLost n (updPhy n (fun x => { x with lctlOut := none }) s))
      else s

/-- LCTL_TIMEOUT. -/
def lctlTimeoutDo (n : Fin 10) (s : State) : State :=
  match (phyOf s n).lctlOut with
  | none => s
  | some r => lctlPump n (reqLost n (updPhy n (fun x => { x with lctlOut := none }) (advanceTo r.endAt s)))

/-- The transmitter changes as agreed (R316). -/
def applyWhat (w : LctlWhat) (x : PhySt) : PhySt :=
  match w with
  | .standby => { x with pwr := .standby }
  | .deep => { x with pwr := .deep }
  | .x8 => { x with width := 0, group := nextGroup x 0 }
  | .x4 => { x with width := 1, group := nextGroup x 1 }
  | .x2 => { x with width := 2, group := nextGroup x 2 }

/-- A parent strand that goes to rest or comes back changes the time block (R145, R312). -/
def setPwr (n : Fin 10) (p : StrandPwr) (s : State) : State := timeRefresh (updPhy n (fun x => { x with pwr := p }) s)

/-- A MARKER out of period that leaves STANDBY (R317). -/
def standbyLeave (n : Fin 10) (s : State) : State :=
  if (phyOf s n).stage = .active && decide ((phyOf s n).pwr = .standby) then lctlPump n (sendMarker n false (setPwr n .active s)) else s

/-- The lanes come back from electrical idle: the run counters and codewords start afresh, and the lanes are to be aligned again. -/
def laneWake (x : PhySt) : PhySt :=
  { rxStart x with
    aligned := false, frame := []
    tx := x.tx.map fun y => { y with run := {}, cw := [], pre := false, y := 0 }
    rx := (rxStart x).rx.map fun y => { y with run := {}, q := [] } }

/-- WAKE_n has fallen: the DEEP exit begins (R318). -/
def deepFall (n : Fin 10) (s : State) : State :=
  let x := phyOf s n
  if x.stage = .active && decide (x.pwr = .deep) && x.deepAt.isNone then
    updPhy n (fun x => { laneWake x with deepAt := some s.clk.cyc }) s
  else s

/-- This end leaves DEEP: it pulls WAKE_n low for 1 us (R318). -/
def deepLeave (n : Fin 10) (s : State) : State :=
  let x := phyOf s n
  if x.stage = .active && decide (x.pwr = .deep) && x.deepAt.isNone then emit (.wake n) (deepFall n s) else s

/-- DEEP_EXIT_TIMEOUT: down, and training from DETECT. DEDUCED (log entry 62). -/
def deepTimeoutDo (n : Fin 10) (s : State) : State :=
  match (phyOf s n).deepAt with
  | none => s
  | some t => phyIdle n (sessionDown n 5 (advanceTo (t + cycUs 100) s))

/-- On DEEP exit (R318): from 10 us TS and markers with TRAIN = 1, from 16 us the marker with TRAIN = 0 and PS = 0b00. The strand stays at
rest until the partner's. -/
def deepMarker (n : Fin 10) (t : Nat) (s : State) : State :=
  let s := advanceTo (t + cycUs 10) s
  if s.clk.cyc < t + cycUs 16 then rowSend n (tsBlock s n) (sendMarker n true (alignLanes n 0 s))
  else
    let s := sendMarker n false (updPhy n (fun x => { x with pwr := .active }) s)
    updPhy n (fun x => { x with pwr := .deep }) s

/-- MARKER_SEND (R284, R316, R318): the marker after the rest of its period; an agreed change takes hold with it. -/
def markerSendDo (n : Fin 10) (s : State) : State :=
  let x := phyOf s n
  let full := alignLanes n (markerPeriod x) s
  if inTraining x.stage then sendMarker n (!x.cfgDone) full
  else if x.stage ≠ .active then s
  else
    match x.deepAt, x.armed with
    | some t, _ => deepMarker n t s
    | none, some w => lctlPump n (timeRefresh (sendMarker n false (updPhy n (fun x => { applyWhat w x with armed := none }) full)))
    | none, none => if x.pwr = .deep then s else sendMarker n false full

/-- The state of the lane after a marker (R283). -/
def pwrOf (ps : Nat) (p : StrandPwr) : StrandPwr := match ps with | 0 => .active | 1 => .standby | 2 => .deep | _ => p

/-- A MARKER with TRAIN = 0 received in ACTIVE (R273, R316 to R318): the receiver changes at it. -/
def markerActive (n : Fin 10) (b : Block) (s : State) : State :=
  let x := phyOf s n
  let mc := markerCnt b
  let ps := blkFld b 81 80
  let seen := fun (x : PhySt) =>
    { x with rxMcnt := if ps = 2 then none else some mc, rxPwr := pwrOf ps x.rxPwr
             rxWidth := blkFld b 77 76, rxGroup := decide (blkFld b 78 78 = 1) }
  if x.deepAt.isSome then
    if ps = 0 then
      let s := sendMarker n false (updPhy n (fun x => { x with pwr := .active }) s)
      lctlPump n (timeRefresh (updPhy n (fun x => { seen x with deepAt := none }) s))
    else s
  else if (match x.rxMcnt with | some m => decide (mc ≠ m + 1) | none => false) then
    losDo n (BitVec.ofNat 3 (physicalOf x (Fin.ofNat 8 (blkFld b 74 72))).val) s
  else
    let s := updPhy n seen s
    if ps = 0 && x.armed.isNone then standbyLeave n s else s

/-- MARKER_RECEIVE: the first marker with TRAIN = 0 brings ACTIVE (R301), where this end's own handshake is not yet complete as it
completes. -/
def markerDo (n : Fin 10) (b : Block) (s : State) : State :=
  takeBlock n tyMARKER b s fun s =>
    let x := phyOf s n
    if blkFld b 75 75 = 1 then s
    else if x.stage = .config then
      let s := updPhy n (fun x => { x with rxMcnt := some (markerCnt b), early := true }) s
      if x.cfgDone then lctlPump n (reachActive n s) else s
    else if x.stage = .active then markerActive n b s
    else s

/-- CONFIG_HANDSHAKE_DONE (R299 to R301): the lane set is chosen and the MARKER with TRAIN = 0 goes out; precoding takes effect with the
first codeword after it. -/
def configDo (n : Fin 10) (s : State) : State :=
  let x := phyOf s n
  match x.tcb with
  | none => s
  | some t =>
    if x.stage ≠ .config ∨ x.ackRx < 8 ∨ !x.ackOn ∨ x.cfgDone then s
    else
      match commonSet x.laneGood t.rxGood with
      | none => phyFail n 3 s
      | some (w, g) =>
        let s := updPhy n (fun x =>
          { x with cfgDone := true, width := w, group := g, rxWidth := w, rxGroup := g, trainedW := w, crAgreed := x.cr }) (ackRest n s)
        let s := updPhy n (fun x => { x with precode := decide (8 ≤ n.val) && x.preOk && t.precodeOk }) (sendMarker n false s)
        if x.early then lctlPump n (reachActive n s) else s

/-! ### SL_CTRL (R314, R317 to R319) -/

/-- A write of PWR_REQ. DEDUCED (log entry 77). -/
def pwrReqDo (n : Fin 10) (v : Nat) (s : State) : State :=
  match v with
  | 0 =>
    let s := updPhy n (fun x => { x with wantPwr := none }) s
    if (phyOf s n).pwr = .standby then standbyLeave n s else deepLeave n s
  | 1 => if (phyOf s n).pwr = .standby then s else lctlPump n (updPhy n (fun x => { x with wantPwr := some .standby }) s)
  | 2 => if (phyOf s n).pwr = .deep then s else lctlPump n (updPhy n (fun x => { x with wantPwr := some .deep }) s)
  | _ => s

/-- A change of width is asked of the partner, or agreed and about to take hold. -/
def widthPending (x : PhySt) : Bool :=
  (match x.lctlOut with | some r => (whatWidth r.what).isSome | none => false) ||
    (match x.armed with | some w => (whatWidth w).isSome | none => false)

/-- A WIDTH_REQ is taken: the width the strand has, or will train to, asks for nothing. -/
def askWidth (v : Nat) (x : PhySt) : PhySt :=
  if x.stage ≠ .active then { x with wantWidth := if v = 0 then none else some v }
  else if widthPending x then { x with wantWidth := some v }
  else dropWidth { x with wantWidth := some v }

/-- A write of WIDTH_REQ (R314, R319). DEDUCED (log entry 77). -/
def widthReqDo (n : Fin 10) (v : Nat) (s : State) : State := lctlPump n (updPhy n (askWidth v) s)

/-- The strand is disabled (R290, R336). DEDUCED (log entry 62). -/
def disableDo (n : Fin 10) (s : State) : State := phyIdle n (sessionDown n 7 s)

/-- RETRAIN written (R302): from ACTIVE, or from a training afresh. -/
def retrainDo (n : Fin 10) (s : State) : State :=
  let st := (phyOf s n).stage
  if st = .active then strandDown n 5 s
  else if inTraining st then phyRetrain n s
  else s

/-- What a write of SL_CTRL does, given the word before it and the data written. DEDUCED (log entry 60). -/
def slCtrlWritten (n : Fin 10) (old data : Nat) (s : State) : State :=
  let en := regFld s (slPage n.val 0 + 0x40) 0 0 = 1
  let s := if en && !old.testBit 0 then phyIdle n s else if !en && old.testBit 0 then disableDo n s else s
  let s := if data.testBit 16 then strandReset n s else if data.testBit 12 then retrainDo n s else s
  let s := if nbits 5 4 data = 3 then s else pwrReqDo n (nbits 5 4 data) s
  if nbits 9 8 data = 3 then s else widthReqDo n (nbits 9 8 data) s

/-! ### PLLs and lane groups (R376, R459, R460) -/

def strandsOf (c : StrandComplex) : List (Fin 10) :=
  (List.finRange 10).filter fun n => match c with | .a => n.val < 8 | .b => 8 ≤ n.val

/-- A complex PLL starts (again): it takes its reference (R459). -/
def pllStart (c : StrandComplex) (pair0 : Bool) (s : State) : State :=
  { s with power :=
      match c with
      | .a => { s.power with pllAOn := true, pllA := false, refA1 := !pair0 }
      | .b => { s.power with pllBOn := true, pllB := false, refB1 := !pair0 } }

/-- COMPLEX_PLL_LOCKED: its powered strands train. -/
def pllLockedDo (c : StrandComplex) (s : State) : State :=
  let on := match c with | .a => s.power.pllAOn && !s.power.pllA | .b => s.power.pllBOn && !s.power.pllB
  if !on then s
  else
    let s := { s with power := match c with | .a => { s.power with pllA := true } | .b => { s.power with pllB := true } }
    forEach ((strandsOf c).filter fun n => (phyOf s n).stage = .disabled) phyIdle s

/-- REFCLK_LOSS. DEDUCED (log entry 63). -/
def refclkDo (c : StrandComplex) (pair0 : Bool) (s : State) : State :=
  let on := match c with | .a => s.power.pllAOn | .b => s.power.pllBOn
  if !on then s
  else
    let s := pllStart c pair0 s
    forEach (strandsOf c) (fun n s =>
      let s := if (phyOf s n).stage = .active then losDrop n s else s
      if (phyOf s n).stage = .disabled then s else phyIdle n s) s

/-- The strand of lane group k (R376). -/
def groupStrand (k : Nat) : Fin 10 := strandF (k / 2)

/-- Lane group k is powered: lanes 0 to 3 of its strand when k is even, 4 to 7 when it is odd. DEDUCED (log entry 82). -/
def groupOn (k : Nat) (s : State) : State :=
  let n := groupStrand k
  let s := updPhy n (fun x => { x with groups := max x.groups (k % 2 + 1) }) s
  if (phyOf s n).groups = 2 && decide ((phyOf s n).stage = .disabled) then phyIdle n s else s

/-- The next 20 us boundary of the schedule that is free. DEDUCED (log entry 82). -/
def freeBoundary (s : State) : Nat :=
  let step := cycUs 20
  let b := s.power.schedAt + (s.clk.cyc - s.power.schedAt + step - 1) / step * step
  if b ≤ s.power.owedAt then s.power.owedAt + step else b

/-- LANE_GROUP_POWERUP: the next action of the schedule, then groups owed to strands enabled since. DEDUCED (log entry 82). -/
def powerupDo (pair0 : Bool) (s : State) : State :=
  let w := s.power
  let next := fun (s : State) => { s with power := { s.power with done := w.done + 1 } }
  if s.ms.heldReset.isSome ∨ s.ms.mode = .keep then s
  else if w.done = 0 then next (whenB (!w.pllAOn) (pllStart .a pair0) (advanceTo w.schedAt s))
  else if w.done = 1 then next (whenB (!w.pllBOn) (pllStart .b pair0) (advanceTo (w.schedAt + cycUs 40) s))
  else if w.done < 22 then
    let k := w.done - 2
    let n := groupStrand k
    let s := next (advanceTo (w.schedAt + cycUs (80 + 20 * k)) s)
    let s := { s with power := { s.power with owedAt := s.clk.cyc } }
    if strandEn s n then groupOn k s else { s with power := { s.power with owed := s.power.owed ++ [k] } }
  else
    match w.owed.find? fun k => strandEn s (groupStrand k) with
    | none => s
    | some k =>
      let s := advanceTo (freeBoundary s) s
      groupOn k { s with power := { s.power with owed := w.owed.erase k, owedAt := s.clk.cyc } }

/-! ### Registers (R321, R322) -/

def phyStatWord (s : State) (n : Fin 10) : Nat :=
  let x := phyOf s n
  at' x.failWhy 24 + at' x.polInv.toNat 16 + at' (pwrNum x.pwr) 14 + at' (b2n x.precode) 13 + at' (b2n x.crAgreed) 12 +
    at' (b2n x.reversed) 11 + at' (b2n x.group) 10 + at' x.width 8 + at' x.fails 5 + stageNum x.stage
def phyFomWord (s : State) (n : Fin 10) (k : Nat) : Nat :=
  let x := phyOf s n
  let f := fun i => if (laneSet x.rxWidth x.rxGroup).testBit i then x.fom[i]?.getD 0 else 0
  at' (f (2 * k + 1)) 16 + f (2 * k)
def phySkewWord (s : State) (n : Fin 10) : Nat :=
  let x := phyOf s n
  at' x.laneGood.toNat 16 + at' x.slow 9 + x.skew
def eqStatWord (s : State) (n : Fin 10) : Nat :=
  let x := phyOf s n
  at' (b2n x.swept) 22 + at' x.rows.lastFom 12 + at' (b2n x.rows.lastValid) 11 + at' x.rows.lastRow 8 + at' x.rows.txRow 4 + x.rxRow

end Sys2Proof.Machine
end

