-- ==== Sys2Proof/Machine/Modes.lean ====
section
/-! DEFINITION. Modes, resets, power failure and the keepsake (R157, R158, R255, R356, R365 to R371, R375, R379 to R400, R430, R469,
R474). -/

namespace Sys2Proof.Machine

/-! ### Resets of the whole fabric (R365 to R369) -/

/-- The registers a reset of a kind leaves (kinds numbered as in Field.surv). -/
def regsSurvive (kind : Nat) (m : Store) : Store :=
  m.filterMap fun e =>
    match pageOf e.1 with
    | some pg =>
      let w := word (surviveFields (fieldsAt pg (inPage pg e.1)) kind e.2.toNat)
      if w = regReset e.1 then none else some (e.1, w)
    | none => none

def kindC : Nat := 1
def kindF : Nat := 2
def kindK : Nat := 6

/-- What a domain keeps over C and F: RC, and RETIRED with what it holds out (R369, R427). DEDUCED (log entry 43). -/
def domSurvive (x : DomSt) : DomSt :=
  if x.st = .retired then { rc := x.rc, st := .retired, byLink := x.byLink, done := true } else { rc := x.rc }

/-- A tile after C or F: ISOLATED stays (R438), and a link its RETIRED domain has removed (R427). DEDUCED (log entry 43). -/
def tileSurvive (x : TileSt) (d : DomSt) : TileSt :=
  { isolated := x.isolated, linkOut := if d.st = .retired ∧ d.byLink then x.linkOut else none }

/-- A strand keeps the rows it has stored (R369). DEDUCED (log entry 43). -/
def strandSurvive (x : StrandSt) : StrandSt := { phy := { rows := x.phy.rows } }

/-- The unit's side of a port over an F reset, which does not reset the unit (R365). DEDUCED (log entry 43). -/
def portSurvive (unit : Bool) (x : PortSt) : PortSt := if unit then {} else { rstN := x.rstN, xu := x.xu }

/-- The state a C or F reset holds the fabric in. DESIGN CHOICE (log entry 13). DEDUCED (log entry 43). -/
def fabricReset (k : HeldReset) (s : State) : State :=
  let kind := match k with | .c => kindC | .f => kindF
  { pending := s.pending, out := s.out, freeCtr := s.freeCtr, ident := s.ident, straps := s.straps, pins := s.pins
    ks := { s.ks with calcCrc := 0 }
    ms := { heldReset := some k, resetAt := s.clk.cyc }
    clk := { cyc := s.clk.cyc, rpll := s.clk.rpll }
    tiles := Vector.ofFn fun t => tileSurvive s.tiles[t] s.flt.tiles[t]
    ports := s.ports.map (portSurvive (decide (k = .c)))
    strands := s.strands.map strandSurvive
    pool := { idv := s.pool.idv, devId := s.pool.devId }
    flt := { tiles := s.flt.tiles.map domSurvive, strands := s.flt.strands.map domSurvive, ports := s.flt.ports.map domSurvive
             global := domSurvive s.flt.global }
    regs := regsSurvive kind s.regs }

/-- C and F are ignored in DRAIN and KEEP (R367); F is absorbed by a C in progress (R366). -/
def resetTaken (k : HeldReset) (s : State) : Bool :=
  decide (s.ms.mode ≠ .drain ∧ s.ms.mode ≠ .keep) &&
    (match s.ms.heldReset with | none => true | some .c => false | some .f => decide (k = .c))

/-- WARM_RESET. -/
def warmResetDo (s : State) : State := if resetTaken .c s then fabricReset .c s else s
/-- F reset by a clasp. DEDUCED (log entry 57). -/
def softResetDo (s : State) : State := if resetTaken .f s then fabricReset .f s else s

/-- RESET_RELEASE: HOLD, and the strand schedule starts (R376, R379). -/
def resetReleaseDo (s : State) : State :=
  match s.ms.heldReset with
  | none => s
  | some k =>
    let s := match k with | .f => advanceTo (s.ms.resetAt + cycUs 1) s | .c => s
    { s with ms := { s.ms with heldReset := none, mode := .hold, why := .noImage }
             power := { s.power with schedAt := s.clk.cyc } }

/-! ### HOLD and RUN -/

/-- Traffic stops: routers, tiles and ports (R373, R379, R388). -/
def stopTraffic (s : State) : State :=
  let s := forEach (allPorts.map portF) portDisable s
  { s with
    rtr := {}
    tiles := s.tiles.map (fun x => { x with waved := false })
    epoch := { s.epoch with switch := .idle } }

/-- HOLD is entered with a reason (R379, R385), and every port is DISABLED there (R203). DEDUCED (log entry 29). -/
def enterHold (why : HoldWhy) (s : State) : State :=
  forEach (allPorts.map portF) portDisable
    { s with ms := { s.ms with mode := .hold, why := why, loadEnd := none, checking := none } }

/-- Tile waves start (R375). -/
def startWaves (s : State) : State := { s with power := { s.power with waves := 0, waveAt := s.clk.cyc } }

/-- RETIRED domains are held out at entry to RUN (R430). -/
def holdRetired (s : State) : State :=
  let s := forEach ((List.finRange 96).filter fun p => s.flt.ports[p].st = .retired) (fun p =>
    updPort p (fun x => { x with faultHeld := true })) s
  forEach ((List.finRange 48).filter fun t => s.tiles[t].isolated || (s.flt.tiles[t].st = .retired && !s.flt.tiles[t].byLink))
    (fun t s => forEach (tilePorts t.val) portIsolate (updTile t (fun x => { x with isolated := true }) s)) s

/-- What the planner finds at entry to RUN (R395, R430): the plan in the active bank stands while its element is out, and an element
back in service is treated as re-admitted; without a plan, a single RETIRED tile brings one. DEDUCED (log entry 71). -/
def planAtRun (s : State) : State :=
  let lost := lostNow s
  let p : PlannerSt := {}
  match s.epoch.planned with
  | some l =>
    { s with planner := { p with plan := some l, job := if lost.isEmpty then some .back else none } }
  | none =>
    match lost with
    | [.tile t] => if s.flt.tiles[tileF t].st = .retired then plannerLoss (.tile t) { s with planner := p } else { s with planner := p }
    | _ => { s with planner := p }

/-- RUN is entered (R375, R379, R430). -/
def enterRun (s : State) : State :=
  let s := startWaves { s with ms := { s.ms with mode := .run, why := .none, loadEnd := none, checking := none } }
  planAtRun (holdRetired s)

/-! ### Power returning (R394, R395) -/

/-- The keepsake is whole (R393, R394). -/
def keepsakeGood (s : State) : Bool := s.ks.valid && !s.ks.lost

/-- FAB_RESUME refuses an automatic restore. -/
def resumeRefuses (s : State) : Bool :=
  let r := regGet s 0x58
  (s.ks.incomplete && decide (fld 0 0 r = 0)) || (s.ks.doubt && decide (fld 1 1 r = 0)) ||
    (decide (s.ks.attempts = fld 11 8 r) && decide (fld 11 8 r ≠ 0))

/-- Where LOCAL time starts in RESTORE, in ns (R158). DEDUCED (log entry 45). -/
def restoreTime (s : State) : Nat := (s.ks.ftime.toNat + 2 ^ 24 + 63) / 64 * 64 % 2 ^ 64

/-- Time counts LOCAL from the restored value: at once, or when the time block starts. DEDUCED (log entry 45). -/
def seedTime (s : State) : State :=
  let t := restoreTime s
  if s.time.state = .unsynced then { s with time := { s.time with seed := some t } }
  else
    let s := if s.time.state = .synced then timeLocal s else s
    setSlots { s with clk := { s.clk with ftime := t * 65536, trim := 0 }
                      time := { s.time with state := .loc, holdover := false, step := none, root := false, forward := false } }

/-- RESTORE is entered (R395 step 1), with KS_FTIME as the keepsake holds it (R390); ATTEMPTS has four bits. DEDUCED (log entry 41). -/
def restoreEnter (s : State) : State :=
  seedTime { s with
    ms := { s.ms with mode := .restore, why := .none, joinAt := s.clk.cyc, checking := none }
    ks := { s.ks with attempts := min 15 (s.ks.attempts + 1), ftime := s.ks.image.ftime }
    power := { s.power with schedAt := s.clk.cyc, done := 0, owed := [] } }

/-- The power-on decision (R394). -/
def powerDecision (s : State) : State :=
  if !keepsakeGood s then enterHold .noImage s
  else if s.straps.test ∨ s.straps ≠ s.ks.straps then enterHold .strap s
  else if !s.ks.auto then enterHold .noImage s
  else if s.pins.pfWarnLow then enterHold .power s
  else if resumeRefuses s then enterHold .resume s
  else restoreEnter s

/-- The core as power leaves it: only what VDD_KEEP, the board and the build hold stays (R369, R372). DESIGN CHOICE (log entry 13). -/
def coreOff (s : State) : State :=
  { pending := s.pending, out := s.out, freeCtr := s.freeCtr, ident := s.ident, straps := s.straps, pins := s.pins, ks := s.ks
    clk := { cyc := s.clk.cyc } }

/-- What segment 0 and the strand segments of a valid keepsake give at P without a restore (R369, R398). -/
def powerKept (s : State) : State :=
  if !keepsakeGood s then s
  else
    let im := s.ks.image
    let take := fun off (s : State) => regSet off (spGet (regReset off) im.regs off) s
    take 0x58 (take 0x6048 { s with
      pool := { s.pool with idv := im.idv, devId := im.devId }
      strands := Vector.ofFn fun n => { phy := { rows := im.rows[n] } } })

/-- POWER_ON. -/
def powerOnDo (test confHost0 low : Bool) (s : State) : State :=
  let s := coreOff s
  let s : State := { s with
    straps := { test := test, confHost0 := confHost0 }
    -- KS_FTIME and KS_CRC.CALC do not survive P (R158, R399)
    ks := { s.ks with ftime := 0, calcCrc := 0 }
    pins := { s.pins with pfWarnLow := low, pfDone := false, keepEn := false, keepGone := false }
    power := { schedAt := s.clk.cyc } }
  powerDecision (powerKept s)

/-- PF_WARN_RISE. -/
def pfRiseDo (s : State) : State :=
  let s := { s with pins := { s.pins with pfWarnLow := false } }
  if s.ms.mode = .hold ∧ s.ms.why = .power ∧ s.ms.heldReset = none then powerDecision s else s

/-! ### FAB_CMD (R379) -/

/-- A FAB_CMD write that is ignored. DEDUCED (log entry 40). -/
def cmdRej (s : State) : State := regSetBit 0x800 16 s

/-- The LOAD timer (R383). -/
def loadTimer (s : State) : Option Nat :=
  match fld 3 0 (selWord s 0 0x40) with
  | 1 => some (s.clk.cyc + cycMs 100)
  | 2 => some (s.clk.cyc + cycMs 1000)
  | _ => none

def cmdLoad (s : State) : State :=
  if s.ms.mode ≠ .hold ∨ s.ms.checking.isSome then cmdRej s
  else { s with ms := { s.ms with mode := .load, why := .none, crcReg := 0xFFFFFFFF, records := 0, loadEnd := loadTimer s } }

def cmdAbort (s : State) : State := if s.ms.mode ≠ .load then cmdRej s else enterHold .noImage s

/-- DEDUCED (log entry 40). -/
def cmdRestore (s : State) : State :=
  if s.ms.mode ≠ .hold ∨ !keepsakeGood s ∨ s.straps.test ∨ s.pins.pfWarnLow then cmdRej s else restoreEnter s

/-! ### Seal and checker (R383, R384) -/

/-- FAB_CHK.RUNCRC (R381). -/
def runCrc (s : State) : BitVec 32 := if s.ms.records = 0 then 0 else s.ms.crcReg ^^^ 0xFFFFFFFF

/-- A check ends with a finding. DEDUCED (log entry 40). -/
def checkFails (why : HoldWhy) (off : Nat) (s : State) : State :=
  { s with ms := { s.ms with chkResult := 3, chkWhy := why, chkOffset := BitVec.ofNat 24 off } }

/-- FAB_SEAL written with its WORD: the seal checks, then the checker runs. DEDUCED (log entry 40). -/
def sealDo (crc : BitVec 32) (s : State) : State :=
  if s.ms.mode ≠ .load ∨ s.ms.checking.isSome then s
  else if s.clasp.state ≠ .idle then enterHold .clasp (checkFails .clasp 0 s)
  else if crc ≠ runCrc s then enterHold .crc (checkFails .crc 0 s)
  else { s with ms := { s.ms with checking := some .seal, loadEnd := none, chkResult := 1, chkWhy := .none, chkOffset := 0 } }

/-- TEST asked for by a clasp (R398). DEDUCED (log entry 40). -/
def testAsk (s : State) : State :=
  if s.ms.mode ≠ .hold ∨ !s.straps.test ∨ s.ms.checking.isSome then cmdRej s
  else { s with ms := { s.ms with checking := some .test, chkResult := 1, chkWhy := .none, chkOffset := 0 } }

/-- RUN after RESTORE (R380, R395, R396): the keepsake is consumed. -/
def restoreRun (s : State) : State :=
  let s := enterRun { s with ks := { s.ks with valid := false } }
  let s := { s with ms := { s.ms with gtHold := true } }
  if mustDegrade s then { s with ms := { s.ms with mode := .degraded } } else s

/-- CONFIGURATION_CHECKER_DONE. -/
def checkerDo (s : State) : State :=
  match s.ms.checking with
  | none => s
  | some what =>
    match checkConfig s with
    | some (why, off) => enterHold why (checkFails why off (noteMap s (some (why, off))))
    | none =>
      let s := fillBoth { s with ms := { s.ms with checking := none, chkResult := 2, chkWhy := .none, chkOffset := 0 } }
      match what with
      | .seal => enterRun s
      | .test =>
        holdRetired (startWaves { s with ms := { s.ms with mode := .test, why := .none }, ks := { s.ks with valid := false }
                                         planner := {} })
      | .restore => restoreRun s

/-- LOAD_TIMEOUT. -/
def loadTimeoutDo (s : State) : State :=
  match s.ms.loadEnd with
  | some t => if s.ms.mode = .load then enterHold .loadTimeout (advanceTo t s) else s
  | none => s

/-! ### DRAIN (R260, R386 to R390) -/

/-- Quiet timers stop (R428), and go on. -/
def quietHold (s : State) : State :=
  forEach allDomains (fun d s =>
    if (getDom s d).st = .faulted then updDom d (fun x => { x with quietLeft := some (x.quietAt - s.clk.cyc) }) s else s) s
def quietGoOn (s : State) : State :=
  forEach allDomains (fun d s =>
    match (getDom s d).quietLeft with
    | some q => updDom d (fun x => { x with quietAt := s.clk.cyc + q, quietLeft := none }) s
    | none => s) s

/-- DRAIN entry (R386). DEDUCED (log entry 71). -/
def drainEnter (src : DrainSrc) (keep : Bool) (s : State) : State :=
  let from' := s.ms.mode
  let full := isRunning from'
  let s := claspDiscard 0xB (hmDiscardAll 3 (quietHold s))
  -- a write that a clasp set has held back comes too late (R386)
  let s := { s with withheld := s.withheld.filter fun a => !a.wr }
  let s : State := { s with
    ms := { s.ms with mode := .drain, why := .none, drainSrc := src, drainKeep := keep, drainShort := !full
                      drainTest := decide (from' = .test), drainRpll := decide (src = .rpll), drainAt := s.clk.cyc
                      loadEnd := none, checking := none }
    planner := { s.planner with suspended := true, unqueued := false }
    clk := { s.clk with pfclk := true }
    ks := { s.ks with valid := s.ks.valid && !(full && keep) } }
  lkDrain s

/-- FAB_CMD.DRAIN. -/
def cmdDrain (keep : Bool) (s : State) : State := if isRunning s.ms.mode then drainEnter .command keep s else cmdRej s

/-- A drain to HOLD turns toward KEEP (R386). DEDUCED (log entries 38 and 39). -/
def drainToKeep (s : State) : State :=
  if s.ms.drainKeep then s else { s with ms := { s.ms with drainKeep := true }, ks := { s.ks with valid := false } }

/-- PF_WARN_FALL. DEDUCED (log entry 38). -/
def pfFallDo (s : State) : State :=
  let s := { s with pins := { s.pins with pfWarnLow := true } }
  if s.ms.heldReset.isSome ∨ s.ms.mode = .keep then s
  else if s.ms.mode = .drain then drainToKeep s
  else drainEnter .pfWarn true s

/-- RPLL_LOSS (R356, R389). DEDUCED (log entry 38). -/
def rpllLossDo (s : State) : State :=
  let s := { s with clk := { s.clk with rpll := false, pfclk := true } }
  if s.ms.heldReset.isSome ∨ s.ms.mode = .keep then s
  else if s.ms.mode = .drain then drainToKeep { s with ms := { s.ms with drainRpll := true } }
  else drainEnter .rpll true s

/-- Nothing is in flight at the end of carriage (R388). -/
def quiescent (s : State) : Bool :=
  (allPorts.all fun p => decide (portInflWord s.ports[portF p] = 0)) && (s.rtr.vcs.all fun e => e.2.isEmpty) &&
    (s.strands.toList.all fun x => x.lnk.replay.isEmpty) && (s.lock.coords.toList.all fun c => c.state = .free) &&
    s.lock.relays.toList.all fun r => r.state = .free

/-- KS_CRC of save n (R391): CRC-32C over the segment CRCs in order. DESIGN CHOICE (log entry 6). -/
def ksCrcOf (n : Nat) : BitVec 32 :=
  BitVec.ofNat 32 (crc32c ((List.range 59).map fun i => at' (Config.segCrc n i).toNat (32 * i)).sum (32 * 59))

def rcOf (x : DomSt) : Nat × Bool := (x.rc, decide (x.st = .retired))

/-- The image of every setting restored under K (R369, R390). -/
def saveImage (s : State) : Image :=
  { regs := regsSurvive kindK s.regs, tbls := s.tbls, views := s.views, selHeld := s.selHeld, changes := s.changes
    counters := if regFld s 0x7048 0 0 = 1 then s.cnt.val else []
    epoch := s.epoch.active, beadBank := s.epoch.beadActive, planned := s.epoch.planned, plannedOther := s.epoch.plannedOther
    beadPlanned := s.epoch.beadPlanned, beadPlannedOther := s.epoch.beadPlannedOther
    gens := s.ports.map (·.gen), pwrs := s.ports.map (·.pwr), tileRc := s.flt.tiles.map rcOf, strandRc := s.flt.strands.map rcOf
    portRc := s.flt.ports.map rcOf, globalRc := rcOf s.flt.global, rows := s.strands.map (·.phy.rows), devId := s.pool.devId
    idv := s.pool.idv, version := s.pool.version, steps := s.time.steps, ftime := BitVec.ofNat 64 (ftimeNs s) }

/-- The save (R388 to R392). DEDUCED (log entries 39 and 42). -/
def saveDo (incomplete : Bool) (s : State) : State :=
  let n := s.ks.saves + 1
  { s with ks := { s.ks with
      valid := true, incomplete := incomplete, cnt := regFld s 0x7048 0 0 = 1, doubt := regFld s 0x4808 33 33 = 1
      drainSrc := s.ms.drainSrc, attempts := 0, build := s.ident.build, stored := ksCrcOf n, ftime := BitVec.ofNat 64 (ftimeNs s)
      straps := s.straps, written := true, saves := n, bad := [], image := saveImage s } }

/-- KEEP: the core goes off, KEEP_EN and then PF_DONE rise (R372, R392, R474). DEDUCED (log entry 39). -/
def enterKeep (s : State) : State :=
  let s := coreOff s
  { s with ms := { mode := .keep, why := .none }, clk := { s.clk with rpll := false }
           pins := { s.pins with keepEn := true, pfDone := true } }

/-- DRAIN_FINAL (R388, R389). DEDUCED (log entry 37). -/
def drainFinalDo (s : State) : State :=
  if s.ms.mode ≠ .drain then s
  else if s.ms.drainShort then
    enterKeep (if s.ms.drainTest then { s with ks := { s.ks with valid := false } } else s)
  else
    let s := if s.ms.drainRpll then s else lkDoubt (advanceTo (s.ms.drainAt + cycUs 16) s)
    let quiet := quiescent s && !s.ms.drainRpll
    let s := stopTraffic s
    if s.ms.drainKeep then enterKeep (saveDo (!quiet) { s with cnt := { s.cnt with frozen := true } })
    else
      let s := enterHold .quiesced s
      quietGoOn { s with planner := { s.planner with suspended := false }, clk := { s.clk with pfclk := false } }

/-- DOUBT_ABORT (R260). -/
def doubtDo (s : State) : State :=
  if s.ms.mode = .drain && !s.ms.drainShort && !s.ms.drainRpll then lkDoubt (advanceTo (s.ms.drainAt + cycUs 16) s) else s

/-! ### RESTORE (R395 to R397) -/

/-- A domain as the image gives it. -/
def domRestore (x : Nat × Bool) : DomSt := if x.2 then { rc := x.1, st := .retired, done := true } else { rc := x.1 }

/-- A port as K leaves it: generation and power state from the image; its unit's side is not the fabric's. -/
def portRestore (x : PortSt) (gen pwr : BitVec 2) : PortSt := { gen := gen, pwr := pwr, faiPwr := pwr, rstN := x.rstN, xu := x.xu }

/-- Step 3 and 4: every page takes its saved values, and RETIRED tiles are held isolated. -/
def reload (s : State) : State :=
  let im := s.ks.image
  let tiles : Vector DomSt 48 := im.tileRc.map domRestore
  let s : State := { s with
    regs := im.regs, tbls := im.tbls, views := im.views, selHeld := im.selHeld, changes := im.changes, halves := [], withheld := []
    cnt := { val := im.counters }, hm := {}, clasp := {}, lock := {}, rtr := {}, planner := {}
    epoch := { active := im.epoch, beadActive := im.beadBank, planned := im.planned, plannedOther := im.plannedOther
               beadPlanned := im.beadPlanned, beadPlannedOther := im.beadPlannedOther }
    ports := Vector.ofFn fun p => portRestore s.ports[p] im.gens[p] im.pwrs[p]
    tiles := tiles.map (fun d => { isolated := decide (d.st = .retired) })
    flt := { tiles := tiles, strands := im.strandRc.map domRestore, ports := im.portRc.map domRestore, global := domRestore im.globalRc }
    strands := Vector.ofFn fun n => { s.strands[n] with phy := { s.strands[n].phy with rows := im.rows[n] } }
    time := { s.time with steps := im.steps }
    pool := { s.pool with idv := im.idv, devId := im.devId, version := im.version } }
  let s := forEach ((List.finRange 10).filter fun (n : Fin 10) =>
      decide (s.flt.strands[n].st = .retired) || s.tiles[tileF (strandTile n.val)].isolated) (fun n => disableDo n) s
  poolAround id { s with ports := Vector.ofFn fun p =>
    if s.tiles[tileF (portTile p.val)].isolated && usedPort p.val then { s.ports[p] with st := .fenced } else s.ports[p] }

/-- RESTORE_RELOAD_DONE: bad are the segments whose bytes no longer match their CRC. DESIGN CHOICE (log entry 6). -/
def reloadDo (bad : List (Fin 59)) (s : State) : State :=
  if s.ms.mode ≠ .restore ∨ s.ms.checking.isSome then s
  else
    let l := bad.map (·.val)
    let found := if l.isEmpty then s.ks.stored else Config.badCrc s.freeCtr
    let s := if l.isEmpty then s else useFree s
    let wrong := if s.ks.lost ∨ s.ks.build ≠ s.ident.build then 3 else if l.isEmpty then 1 else 2
    let s := { s with ks := { s.ks with check := wrong, calcCrc := found, bad := l
                                        segBad := if l.isEmpty then 0xFF else BitVec.ofNat 8 (l.foldl min 58) } }
    if wrong ≠ 1 then enterHold .keepsake { s with ks := { s.ks with valid := false } }
    else
      let s := reload s
      { s with ms := { s.ms with checking := some .restore, chkResult := 1, chkWhy := .none, chkOffset := 0 } }

/-- The first frame boundary at or after cycle c. DEDUCED (log entry 44). -/
def frameFrom (c : Nat) (s : State) : State := advanceToFrame (advanceTo c s)

/-- GT_HOLD_CLEAR (R396): 2,000 ns after its conditions are found to hold, or when JOIN_MS has passed, whichever is first. DEDUCED (log entry 44). -/
def gtHoldClearDo (s : State) : State :=
  if !s.ms.gtHold then s
  else
    let join := s.ms.joinAt + cycMs (regFld s 0x58 23 16)
    let met := isRunning s.ms.mode && decide (s.time.state = .synced) && s.time.step.isNone
    let s := frameFrom (if met then min join (s.clk.cyc + cycNs 2000) else join) s
    { s with ms := { s.ms with gtHold := false } }

/-! ### VDD_KEEP (R393, R469, R474) -/

/-- DEDUCED (log entry 42). -/
def keepLostDo (s : State) : State := { s with ks := { s.ks with lost := true } }
/-- VDD_KEEP_LOSS: the number of saves made goes on, as the key of free values. DEDUCED (log entry 42). -/
def keepGoneDo (s : State) : State := { s with ks := { saves := s.ks.saves }, pins := { s.pins with keepGone := true } }

/-! ### EPOCH_DRAIN_OVERDUE (R132) -/

/-- 4 us after the launch, the routers that still hold old flits report epoch mismatch. -/
def drainOverdueDo (s : State) : State :=
  if s.epoch.switch ≠ .draining ∨ s.epoch.overdue then s
  else
    let s := advanceTo (s.epoch.launchAt + cycUs 4) s
    let s := { s with epoch := { s.epoch with overdue := true } }
    forEach ((List.finRange 48).flatMap fun t => (allNets.filter fun n => decide (0 < oldCount s t.val n)).map fun n => (t, n))
      (fun x => faultEvent (.router x.1 x.2 none) srcEpoch) s

/-! ### Register words (R398 to R400) -/

def whyNum (w : HoldWhy) : Nat :=
  match w with
  | .none => 0 | .noImage => 1 | .crc => 2 | .route => 3 | .detour => 4 | .bead => 5 | .addrmap => 6 | .value => 7 | .clasp => 8
  | .devid => 9 | .strap => 0xA | .keepsake => 0xB | .resume => 0xC | .quiesced => 0xD | .power => 0xE | .loadTimeout => 0xF

/-- HOLD_WHY as read (R385). -/
def holdWhy (s : State) : HoldWhy :=
  if s.ms.mode ≠ .hold then .none
  else if s.pool.disc = .collide ∧ (s.ms.why = .noImage ∨ s.ms.why = .quiesced) then .devid
  else s.ms.why

def srcNum (d : DrainSrc) : Nat := match d with | .none => 0 | .pfWarn => 1 | .command => 2 | .rpll => 3

/-- FAB_STAT but its sticky bits. -/
def fabStatWord (s : State) : Nat :=
  at' (b2n s.pins.pfWarnLow) 31 + at' (srcNum s.ms.drainSrc) 26 + at' (b2n s.ms.gtHold) 25 + at' (whyNum (holdWhy s)) 8 +
    modeNum s.ms.mode
def fabChkWord (s : State) : Nat :=
  at' (runCrc s).toNat 32 + at' s.ms.chkOffset.toNat 8 + at' (whyNum s.ms.chkWhy) 4 + s.ms.chkResult

def ksStatWord (s : State) : Nat :=
  at' s.ks.build.toNat 32 + at' s.ks.segBad.toNat 16 + at' s.ks.attempts 12 + at' s.ks.check 10 + at' (srcNum s.ks.drainSrc) 8 +
    at' (b2n s.ks.doubt) 4 + at' (b2n s.ks.cnt) 3 + at' (b2n s.ks.incomplete) 2 + at' (b2n s.ks.lost) 1 + b2n s.ks.valid
def ksCrcWord (s : State) : Nat := at' s.ks.calcCrc.toNat 32 + s.ks.stored.toNat

/-- KS_VIEW: the header of segment i (R400). DESIGN CHOICE (log entry 6). -/
def ksViewWord (s : State) (i half : Nat) : Nat :=
  if 59 ≤ i ∨ !s.ks.written then 0
  else if half = 0 then at' (b2n (s.ks.bad.contains i)) 17 + at' 1 16 + (Config.segLen s.ks.saves i).toNat
  else (Config.segCrc s.ks.saves i).toNat

/-- FAB_PWR (R378). DEDUCED (log entry 61). -/
def fabPwrWord (s : State) : Nat :=
  let on := (List.range 20).filter fun k => strandEn s (groupStrand k)
  let up := on.all fun k => decide (k % 2 + 1 ≤ (phyOf s (groupStrand k)).groups)
  at' (b2n s.power.pllB) 63 + at' (b2n s.power.pllA) 62 + at' (b2n up) 61 + at' s.power.waves 57 + portOffWord s

end Sys2Proof.Machine
end

