-- ==== Sys2Proof/Machine/Flags.lean ====
section
/-! DEFINITION. What the registers of a page read (R42 to R52, R57, R63, R156, R188, R351, R407, R418, R438, R456, R480): the status
and flag words that are computed from the state, and the words of every tables region. -/

namespace Sys2Proof.Machine

/-! ### Views (R46, R47) -/

/-- The key of a master's view of a page. -/
def viewKey (m : Master) (base : Nat) : Nat := masterNum m * 2 ^ 24 + base

/-- A master's TBL_SEL and TBL_BANK on a page. -/
def viewSel (s : State) (m : Master) (base : Nat) : Nat := spGet 0 s.views (viewKey m base) % 256
def viewBank (s : State) (m : Master) (base : Nat) : Bool := (spGet 0 s.views (viewKey m base)).testBit 8

/-- Take TBL_SEL and TBL_BANK into a master's view: TBL_SEL on pages with tables, TBL_BANK on BANKED pages (R46). DEDUCED (log entry 49). -/
def setView (m : Master) (pg : Page) (sel : Nat) (bank : Bool) (s : State) : State :=
  let sel := if hasTables pg.kind then sel % 256 else 0
  let v := sel + at' (b2n (bank && isBanked pg.kind)) 8
  { s with views := spSet 0 s.views (viewKey m pg.base) v }

/-! ### Dark pages (R39, R40, R203) -/

/-- The tile that holds a page's block, where a tile does (R37, R365). -/
def pageTile (pg : Page) : Option Nat :=
  match pg.kind with
  | .tile | .rtr _ | .bead | .tileCnt => some pg.inst
  | .port | .portCnt => some (portTile pg.inst)
  | .slLink | .slPhy | .slEq | .slCnt => some (strandTile pg.inst)
  | _ => none

/-- The block is in reset, isolated, fenced or powered down (R39, R203). A strand is powered down until both its lane groups are powered
(R376), and in DEEP (R312, R318). DESIGN CHOICE (log entry 51). -/
def dark (s : State) (pg : Page) : Bool :=
  (match pageTile pg with
   | some t => s.tiles[tileF t].isolated
   | none => false) ||
    (match pg.kind with
     | .port | .portCnt =>
       let x := s.ports[portF pg.inst]
       decide (x.st = .fenced ∨ x.st = .reset) || decide (x.pwr = 2)
     | .slLink | .slPhy | .slEq | .slCnt =>
       let x := (phyOf s (strandF pg.inst))
       decide (x.groups < 2 ∨ x.pwr = .deep)
     | _ => false)

/-- The registers above the header that are held in the register matrix (R40). DESIGN CHOICE (log entry 51). -/
def matrixHeld (pg : Page) (o : Nat) : Bool :=
  match pg.kind with
  | .tile => decide (o = 0x40 ∨ o = 0x800 ∨ o = 0x804 ∨ o = 0x808)
  | .port => decide (o = 0x40 ∨ o = 0x44 ∨ o = 0x48 ∨ o = 0x800 ∨ o = 0x808 ∨ o = 0x80C)
  | .slLink => decide (o = 0x40 ∨ o = 0x800 ∨ o = 0x810 ∨ o = 0x814)
  | .slPhy => decide (o = 0x40 ∨ o = 0x800)
  | .slEq => decide (o = 0x40 ∨ o = 0x800 ∨ 0xC00 ≤ o)
  | _ => false

/-- The register at o answers (R39). DESIGN CHOICE (log entry 51). -/
def answers (s : State) (pg : Page) (o : Nat) : Bool := decide (o < 0x40) || !dark s pg || matrixHeld pg o

/-! ### The header (R42 to R49) -/

/-- The instance a page reads in PG_ID (R43). -/
def pgId (s : State) (pg : Page) : Nat := at' (kindCode pg.kind) 24 + at' pg.inst 16 + s.ident.build.toNat

def pgCap (k : Kind) : Nat :=
  at' (b2n (hasMirror k)) 5 + at' (b2n (kindWide k)) 4 + at' (b2n (hasCounters k)) 3 + at' (b2n (isBanked k)) 2 +
    at' (b2n (hasTables k)) 1 + b2n (hasExpert k)

def pgAccess (k : Kind) : Nat := at' (classNum (tblClass k)) 2 + classNum (kindClass k)

/-- The switch or swap of a page's banks is armed (R48, R352). -/
def swapArmed (s : State) (k : Kind) : Bool :=
  match k with
  | .rtr _ | .devroute => gqHas s 1
  | .bead => beadSwapPending s
  | _ => false

/-- Both banks of a page are read-only (R53, R127, R134, R176, R352). -/
def bankLocked (s : State) (k : Kind) : Bool :=
  match k with
  | .rtr _ | .devroute => routeLocked s || plannerHolds s
  | .bead => beadLocked s || plannerHolds s
  | _ => false

/-- The active bank of a BANKED page. -/
def activeBank (s : State) (k : Kind) : Bool :=
  match k with
  | .rtr _ | .devroute => s.epoch.active
  | .bead => s.epoch.beadActive
  | _ => false

/-- The page a staged write lies on. -/
def stagedBase (x : Staged) : Nat := match pageOf x.off with | some pg => pg.base | none => 0

/-- A confirmed clasp set writes the page (R48). -/
def claspPend (s : State) (base : Nat) : Bool :=
  decide (s.clasp.state = .confirmed ∨ s.clasp.state = .armed) && s.clasp.recs.any fun x => stagedBase x = base

def pgStat (s : State) (pg : Page) : Nat :=
  (regGet s (pg.base + 0x14)).toNat + at' (b2n (swapArmed s pg.kind)) 4 + at' (b2n (claspPend s pg.base)) 3 +
    at' (b2n (hasExpert pg.kind && expertEn s pg.base)) 1 + b2n (!dark s pg)

/-- The domain that owns a page (R49); of the pages of blocks whose events R419 counts in the global domain, the FAULT page alone, which
holds its leaf register. DESIGN CHOICE (log entry 50). -/
def pageDomain (pg : Page) : Option Domain :=
  match pg.kind with
  | .tile | .rtr _ | .bead | .tileCnt => some (.tile (tileF pg.inst))
  | .port | .portCnt => if isStrandPort pg.inst then none else some (.port (portF pg.inst))
  | .slLink | .slPhy | .slEq | .slCnt => some (.strand (strandF pg.inst))
  | .fault => some .global
  | _ => none

/-- The leaf register of a page, as an offset within it (R422). -/
def leafReg (k : Kind) : Option Nat :=
  match k with
  | .tile => some 0x804
  | .rtr _ | .port => some 0x808
  | .slLink => some 0x810
  | .fault => some 0x800
  | _ => none

def pgFault (s : State) (pg : Page) : Nat :=
  (match pageDomain pg with
   | some d =>
     let x := getDom s d
     at' x.rc 24 + at' (b2n (decide (x.st = .retired))) 17 + at' (b2n (decide (x.st = .faulted))) 16
   | none => 0) +
    (match leafReg pg.kind with
     | some o => fld 14 0 (regGet s (pg.base + o))
     | none => 0)

def pgEpoch (s : State) (pg : Page) : Nat := at' (spGet 0 s.changes pg.base) 16 + b2n (activeBank s pg.kind)

/-- PG_CTRL as a master reads it: its own view (R47). -/
def pgCtrl (s : State) (m : Master) (pg : Page) : Nat :=
  at' (viewSel s m pg.base) 16 + at' (b2n (viewBank s m pg.base)) 8 + b2n (expertEn s pg.base)

/-- DESIGN CHOICE (log entry 76). -/
def headerWord (s : State) (m : Master) (pg : Page) (o : Nat) : Nat :=
  match o with
  | 0x00 => pgId s pg
  | 0x04 => s.ident.rev.toNat
  | 0x08 => pgCap pg.kind
  | 0x0C => pgAccess pg.kind
  | 0x10 => pgCtrl s m pg
  | 0x14 => pgStat s pg
  | 0x18 => pgFault s pg
  | 0x1C => pgEpoch s pg
  | _ => 0

/-! ### Status words -/

/-- HM_STAT (R155). -/
def hmStatWord (s : State) : Nat :=
  at' s.hm.discCnt.toNat 32 + at' s.hm.lastDisc 24 + at' (gqEntries s).length 16 + at' s.hm.lastId 4 + s.hm.result

/-- The control word of a queued hallmark (R156). -/
def hmCtrlWord (e : HmEntry) : Nat :=
  at' (b2n e.sent) 26 + at' 1 25 + at' (b2n e.xdev) 24 + at' e.arg 16 + at' e.target 8 + e.act

/-- An entry's 16 bytes as one number: launch time, then control word. -/
def hmEntryWord (e : Option HmEntry) : Nat :=
  match e with
  | none => 0
  | some e => at' (hmCtrlWord e) 64 + e.time % 2 ^ 64

/-- TILE_HMQ (R156): the launch buffer holds the global entries sent. -/
def tileHmqWord (s : State) (t : Fin 48) : Nat :=
  at' ((gqEntries s).filter fun e => e.2.sent).length 8 + (tqEntries s t).length

def claspNum (c : CState) : Nat :=
  match c with | .idle => 0 | .staging => 1 | .closed => 2 | .checking => 3 | .confirmed => 4 | .armed => 5

/-- CLASP_STAT (R418). -/
def claspStatWord (s : State) : Nat :=
  let c := s.clasp
  at' c.offset 40 + at' (b2n c.late) 31 + at' (b2n c.seqRej) 30 + at' (whyNum c.chkWhy) 24 + at' c.cause 20 +
    at' c.count 8 + claspNum c.state

/-- The 12 bytes of a record (R381, R413) as a number. -/
def recordWord (off width data : Nat) : Nat := at' data 32 + at' width 24 + off

/-- The CRC-32C register over a list of records. -/
def recordsRun (l : List Staged) (c : Nat) : Nat :=
  l.foldl (fun a x => crc32cRun a (recordWord x.off x.width x.data.toNat) 96) c

/-- CLASP_DIGEST (R413). -/
def claspDigest (s : State) : Nat :=
  match s.clasp.state with
  | .idle | .staging => 0
  | _ => recordsRun s.clasp.recs 0xFFFFFFFF ^^^ 0xFFFFFFFF

/-- A word of CLASP_SET (R480). -/
def claspSetWord (s : State) (i half : Nat) : Nat :=
  match s.clasp.recs[i]? with
  | none => 0
  | some x => if half = 0 then at' 1 31 + at' x.width 24 + x.off else x.data.toNat

/-- AM_STAT.VALID_CNT (R351). -/
def amValidCnt (s : State) : Nat := ((List.range 64).filter fun r => amValid (amGet s r)).length

/-- The valid entries of an output table (R188). -/
def beadFill (s : State) (t : Nat) (n : Net) (p : Nat) : Nat :=
  ((List.range 128).filter fun k => beadValid (beadOut s t n p s.epoch.beadActive k)).length

def beadNets : List Net := [.req, .rsp, .dat]

/-- Valid injection entries of the active bank on a tile, with their port. -/
def tileInjs (s : State) (t : Nat) : List (Nat × Nat) :=
  [2 * t, 2 * t + 1].flatMap fun p => beadNets.flatMap fun n =>
    ((List.range 128).map fun k => (p, beadInj s p n s.epoch.beadActive k)).filter fun x => beadValid x.2

/-- The active bank holds a valid entry on the page. -/
def beadAny (s : State) (t : Nat) : Bool :=
  !(tileInjs s t).isEmpty || beadNets.any fun n => (List.range 6).any fun p => decide (0 < beadFill s t n p)

/-- XDEV_OFF: no cross-device entry of the tile is in force (R184). DEDUCED (log entry 56). -/
def xdevOff (s : State) (t : Nat) : Bool :=
  let l := (tileInjs s t).filter fun x => decide (beadDev x.2 ≠ (ownDev s).toNat) || isStrandPort x.1
  l.isEmpty || !(l.all fun x => injInForce { s with ms := { s.ms with gtHold := false } } x.1 x.2)

/-- BEAD_STAT but its sticky bits (R188). -/
def beadStatWord (s : State) (t : Nat) : Nat :=
  let lmax := (beadNets.flatMap fun n => [beadFill s t n 4, beadFill s t n 5]).foldl max 0
  at' lmax 8 + at' (b2n (xdevOff s t)) 5 + at' (b2n (!beadAny s t)) 4 + at' (b2n (s.epoch.beadActive != s.epoch.active)) 3 +
    at' (b2n s.epoch.beadPlanned) 2 + at' (b2n (beadSwapPending s)) 1 + b2n s.epoch.beadActive

/-- BEAD_FILLp (R188). -/
def beadFillWord (s : State) (t p : Nat) : Nat :=
  if (neighbour t (rpOf p)).isNone then 0
  else at' (beadFill s t .dat p) 24 + at' (beadFill s t .rsp p) 8 + beadFill s t .req p

/-- SMP_STAT (R456). -/
def smpStatWord (x : SampSt) : Nat :=
  at' x.lost.toNat 32 + at' x.next 16 + at' (b2n x.flight.isSome) 13 + at' (b2n x.full) 12 + at' (b2n x.wrap) 11 + x.held

/-- The recovery counter of a page's domain (R438). -/
def pageRc (s : State) (pg : Page) : Nat := match pageDomain pg with | some d => (getDom s d).rc | none => 0

/-- Part k of a 64-bit word split in two. -/
def half (k w : Nat) : Nat := if k = 0 then w % 2 ^ 32 else w / 2 ^ 32 % 2 ^ 32

/-- The register at o of a status region, counters apart. DESIGN CHOICE (log entry 76). -/
def statusWord (s : State) (pg : Page) (o : Nat) : Nat :=
  let r := (regGet s (pg.base + o)).toNat
  match pg.kind with
  | .global =>
    (match o with
     | 0x800 => fabStatWord s + r
     | 0x808 => fabChkWord s
     | 0x810 => at' (b2n s.straps.confHost0) 1 + b2n s.straps.test
     | 0x818 => fabIsoWord s
     | 0x820 => fabPwrWord s
     | _ => 0)
  | .time =>
    (match o with
     | 0x800 => ftimeNs s
     | 0x808 => ftimeFracWord s
     | 0x810 => timeStatWord s
     | 0x818 => hmStatWord s
     | _ => 0)
  | .clasp =>
    (match o with
     | 0x800 => claspStatWord s
     | 0x808 => claspDigest s
     | _ => 0)
  | .fault =>
    (match o with
     | 0x800 => fltGlobalWord s + r
     | 0x808 => fltFaultedWord s
     | 0x818 => r
     | _ => 0)
  | .locket =>
    (match o with
     | 0x800 => lkOpenWord s
     | 0x808 => lkStatWord s
     | _ => 0)
  | .addrmap => if o = 0x800 then r + amValidCnt s else 0
  | .devroute =>
    (match o with
     | 0x800 => drStatWord s + r
     | 0x808 => s.ident.serial.toNat
     | 0x810 => s.pool.rootSerial.toNat
     | _ => 0)
  | .keepsake =>
    (match o with
     | 0x800 => ksStatWord s
     | 0x808 => ksCrcWord s
     | 0x810 => s.ks.ftime.toNat
     | _ => 0)
  | .sampler => if o = 0x800 then smpStatWord s.samps[Fin.ofNat 4 pg.inst] else 0
  | .tile =>
    (match o with
     | 0x800 => tileStatWord s (tileF pg.inst) + r
     | 0x804 => r
     | 0x808 => pageRc s pg
     | 0x80C => tileHmqWord s (tileF pg.inst)
     | _ => 0)
  | .rtr n =>
    (match o with
     | 0x800 => rtrStatWord s n + r
     | 0x804 => rtrOldWord s pg.inst n
     | 0x808 => r
     | _ => 0)
  | .bead =>
    if o = 0x800 then beadStatWord s pg.inst + r
    else if 0x804 ≤ o ∧ o ≤ 0x810 then beadFillWord s pg.inst ((o - 0x804) / 4) else 0
  | .port =>
    (match o with
     | 0x800 => portStatWord s.ports[portF pg.inst] + r
     | 0x804 => if dark s pg then 0 else portInflWord s.ports[portF pg.inst]
     | 0x808 => r
     | 0x80C => pageRc s pg
     | _ => 0)
  | .slLink =>
    (match o with
     | 0x800 => slStatWord s (strandF pg.inst)
     | 0x804 => slSeqWord s (strandF pg.inst)
     | 0x808 => half 0 (slPartner s (strandF pg.inst))
     | 0x80C => half 1 (slPartner s (strandF pg.inst))
     | 0x810 => r
     | 0x814 => pageRc s pg
     | _ => 0)
  | .slPhy =>
    if o = 0x800 then phyStatWord s (strandF pg.inst) + r
    else if 0x804 ≤ o ∧ o ≤ 0x810 then phyFomWord s (strandF pg.inst) ((o - 0x804) / 4)
    else if o = 0x814 then phySkewWord s (strandF pg.inst) else 0
  | .slEq => if o = 0x800 then eqStatWord s (strandF pg.inst) else 0
  | .tileCnt | .portCnt | .slCnt | .mirror => 0

/-! ### Tables (R52) -/

/-- TBL_SEL of an output table of a BEAD page, of an injection table; none where the view shows zeros (R166). -/
def beadViewOk (t sel : Nat) : Bool :=
  if sel < 0x20 then
    decide (sel / 8 ≠ 2) && decide (sel % 8 < 6) && (decide (4 ≤ sel % 8) || (neighbour t (rpOf (sel % 8))).isSome)
  else if sel < 0x30 then
    decide (sel % 8 < 4) && decide (sel % 8 ≠ 2) && usedPort (2 * t + (sel - 0x20) / 8)
  else false

/-- A sampler record's word (R455). -/
def recWord (r : Record) (j : Nat) : Nat := match j with | 0 => r.w0.toNat | 1 => r.w1.toNat | 2 => r.w2.toNat | _ => r.w3.toNat

/-- The fields of a table entry that a write can change; none where the view shows no such entry (R113, R166 to R168, R323, R351, R352,
R435). DEDUCED (log entry 49). -/
def tblFields (pg : Page) (sel o : Nat) : Option (List Field) :=
  let within := fun (n : Nat) => decide (0xC40 ≤ o ∧ o < 0xC40 + n)
  match pg.kind with
  | .rtr _ =>
    if sel = 0 && within 192 then
      some [⟨7, 5, .cl, 0, 0, .any⟩, ⟨4, 4, .cl, 0, 0, .any⟩, ⟨3, 1, .cl, 0, 0, .le 3⟩, ⟨0, 0, .cl, 0, 0, .any⟩]
    else none
  | .bead =>
    if beadViewOk pg.inst sel && within 512 then
      some (⟨8, 0, .cl, 0, 0, .any⟩ :: (if sel < 0x20 then [] else [⟨31, 20, .cl, 0, 0, .any⟩]))
    else none
  | .devroute =>
    if sel = 0 && within 256 then
      some [⟨24, 24, .cl, 0, 0, .any⟩, ⟨19, 16, .cl, 0, 0, .any⟩, ⟨13, 0, .cl, 0, 0, .any⟩]
    else none
  | .addrmap => if sel = 0 && within 512 then some [⟨63, 51, .cl, 0, 0, .any⟩, ⟨43, 0, .cl, 0, 0, .any⟩] else none
  | .slEq =>
    if sel = 0 && within 64 then
      some (if o / 4 % 2 = 0 then [⟨21, 16, .cl, 0, 0, .any⟩, ⟨13, 8, .cl, 0, 0, .any⟩, ⟨4, 0, .cl, 0, 0, .any⟩]
        else [⟨20, 16, .cl, 0, 0, .any⟩, ⟨13, 8, .cl, 0, 0, .any⟩, ⟨3, 0, .cl, 0, 0, .any⟩])
    else none
  | .fault =>
    if sel = 0 && within 512 then
      some [⟨63, 63, .fx, 0, 0, .any⟩, ⟨62, 60, .fx, 0, 0, .le 4⟩, ⟨59, 58, .fx, 0, 0, .any⟩, ⟨57, 50, .fx, 0, 0, .any⟩,
        ⟨49, 3, .fx, 0, 0, .any⟩]
    else none
  | _ => none

/-- The key of a stored table entry as a view shows it: only a BEAD page keeps one table for each TBL_SEL. -/
def viewTblKey (pg : Page) (o sel : Nat) (bank : Bool) : Nat :=
  tblKey pg.base o (b2n (bank && isBanked pg.kind)) (if pg.kind = .bead then sel else 0)

/-- The register at o of a tables region under a view, counters apart. DEDUCED (log entry 49). -/
def tableWord (s : State) (pg : Page) (sel : Nat) (bank : Bool) (o : Nat) : Nat :=
  let r := o - 0xC40
  if o < 0xC40 then 0
  else
    match tblFields pg sel o with
    | some _ => (tblGet s (viewTblKey pg o sel bank)).toNat
    | none =>
      match pg.kind with
      | .time => if sel = 0 ∧ r < 512 then half64 (r / 8 % 2) (hmEntryWord s.hm.gq[Fin.ofNat 32 (r / 16)]) else 0
      | .clasp => if sel < 8 ∧ r < 512 then claspSetWord s (32 * sel + r / 16) (r / 8 % 2) else 0
      | .locket =>
        if 512 ≤ r then 0
        else if sel < 4 then coordWord s (Fin.ofNat 64 (16 * sel + r / 32)) (r / 8 % 4)
        else if sel < 8 then relayWord s (Fin.ofNat 64 (16 * (sel - 4) + r / 32)) (r / 8 % 4)
        else 0
      | .keepsake => if sel < 59 ∧ r < 16 then ksViewWord s sel (r / 8) else 0
      | .sampler => if sel < 64 ∧ r < 512 then recWord (smpView s (Fin.ofNat 4 pg.inst) (16 * sel + r / 32)) (r / 8 % 4) else 0
      | .tile =>
        if sel = 0 ∧ r < 128 then
          hmEntryWord (s.hm.tq[tileF pg.inst])[Fin.ofNat 8 (r / 16)] / 2 ^ (32 * (r / 4 % 4)) % 2 ^ 32
        else 0
      | .port =>
        if sel < 4 ∧ r < 256 then portOpenWord s.ports[portF pg.inst] (64 * sel + r / 4)
        else if sel = 4 ∧ r < 8 then half (r / 4) (lkOpenMask s (portF pg.inst)) else 0
      | _ => 0
where
  /-- Word k of a 128-bit number. -/
  half64 (k w : Nat) : Nat := w / 2 ^ (64 * k) % 2 ^ 64

/-! ### Any register -/

/-- The register at page offset o, aligned to its width, as master m reads it; counters and mirror words apart. DESIGN CHOICE (log entry 76). -/
def readWord (s : State) (m : Master) (pg : Page) (o : Nat) : Nat :=
  if !answers s pg o then 0
  else
    match regionOf o with
    | .header => headerWord s m pg o
    | .reserved | .mirror => 0
    | .basic => if pg.kind = .keepsake ∧ o = 0x40 then b2n s.ks.auto else (regGet s (pg.base + o)).toNat
    | .expert => if hasExpert pg.kind then expertWord s pg o else 0
    | .status => statusWord s pg o
    | .tables => tableWord s pg (viewSel s m pg.base) (viewBank s m pg.base) o

/-- The width in bytes of the register at page offset o (R37). -/
def regWidth (pg : Page) (o : Nat) : Nat := if kindWide pg.kind && decide (0x40 ≤ o) then 8 else 4

end Sys2Proof.Machine
end

