-- ==== Sys2Proof/Machine/StrandLink.lean ====
section
/-! DEFINITION. The link layer of a strand: containers, acknowledgement, replay, credits, windows and time blocks (R324 to R337, R442,
R445). -/

namespace Sys2Proof.Machine

def lnkOf (s : State) (n : Fin 10) : LinkSt := s.strands[n].lnk

/-! ### Items (R326, R327) -/

/-- An item of a container. -/
inductive Item where
  | pkt (f : Flit) (gt : Bool) (wait : Nat)
  | credit (net buf freed : Nat)
  | msg (m : Msg)
deriving DecidableEq, Repr

/-- Body bits of a kind. -/
def kindBits (k : Nat) : Nat :=
  match k with | 1 => 183 | 2 => 88 | 3 => 120 | 4 => 568 | 5 => 12 | 6 => 224 | _ => 0

def kindOf (n : Net) : Nat := netNum n + 1

/-- An item's bits from its header up, and their number. -/
def itemBits (i : Item) : Nat × Nat :=
  match i with
  | .pkt f gt w => (kindOf f.net + at' (b2n gt) 3 + at' (w % 16) 4 + at' (packFlit f) 8, 8 + kindBits (kindOf f.net))
  | .credit net buf freed => (5 + at' (net % 4 + at' (buf % 4) 2 + at' (freed % 256) 4) 8, 20)
  | .msg m => (6 + at' m.toNat 8, 232)

/-- The item at bit pos of the 704. -/
def itemAt (kind pos body : Nat) : Item :=
  let v := nbits (pos + 7 + kindBits kind) (pos + 8) body
  let gt := body.testBit (pos + 3)
  let w := if gt then nbits (pos + 7) (pos + 4) body else 0
  match kind with
  | 1 => .pkt (unpackFlit .req v) gt w
  | 2 => .pkt (unpackFlit .rsp v) gt w
  | 3 => .pkt (unpackFlit .snp v) gt w
  | 4 => .pkt (unpackFlit .dat v) gt w
  | 5 => .credit (nbits 1 0 v) (nbits 3 2 v) (nbits 11 4 v)
  | _ => .msg (BitVec.ofNat 224 v)

/-- The items from bit pos on: none where a KIND is reserved or an item overruns (R327). An item has at least 20 bits, so 36 steps
reach the end. -/
def parseItems (fuel pos body : Nat) : Option (List Item) :=
  match fuel with
  | 0 => some []
  | k + 1 =>
    let kind := nbits (pos + 2) pos body
    if 704 < pos + 8 ∨ kind = 0 then some []
    else if kind = 7 ∨ 704 < pos + 8 + kindBits kind then none
    else (parseItems k (pos + 8 + kindBits kind) body).map (itemAt kind pos body :: ·)

/-! ### Containers (R324, R325) -/

def rawContainer (x : LinkSt) (nak : Bool) (ty seq body : Nat) : RawContainer :=
  let v := b2n nak + at' (x.exp + 0xFFF).toNat 4 + at' seq 16 + at' ty 28 + at' body 32
  BitVec.ofNat 768 (v + at' (crc32c v 736) 736)

def crcGood (c : RawContainer) : Bool := decide (crc32c (c.toNat % 2 ^ 736) 736 = nbits 767 736 c.toNat)

/-- The transmitter can launch a container. -/
def txReady (s : State) (n : Fin 10) : Bool :=
  let x := phyOf s n
  decide (x.stage = .active) && decide (x.pwr = .active) && !deepExit x && inSession s n

/-- Launch one: three positions of the stream. -/
def launchCtnr (n : Fin 10) (nak : Bool) (ty seq body : Nat) (s : State) : State :=
  let s := emit (.container n (rawContainer (lnkOf s n) nak ty seq body)) s
  let s := updLnk n (fun x => { x with lastTx := s.clk.cyc, nakAt := if nak then some s.clk.cyc else x.nakAt }) s
  let s := containerBlocks n (rawContainer (lnkOf s n) nak ty seq body) (updPhy n (fun x => { x with lastCal := s.clk.cyc }) s)
  countN (scOff n.val 4) 3 (if nak then countStrand n 8 s else s)

/-! ### Filling a container (R328, R332 to R334) -/

/-- A GT packet may go as GT (R184, R333). -/
def gtCarried (s : State) (n : Fin 10) (f : Flit) : Bool :=
  let x := phyOf s n
  let d := f.dstdev.toNat
  decide (x.width = 0) && decide ((lnkOf s n).gtLat ≠ 0) && decide (s.time.state = .synced) && strandCr s n.val &&
    decide (drPri (drGet s s.epoch.active d) = n.val) && decide (trExit s s.epoch.active d = some n.val)

/-- GT packets that may not go as GT go as LL on TR. DEDUCED (log entry 65). -/
def gtDemote (n : Fin 10) (s : State) : State :=
  forEach [Net.req, .rsp, .dat] (fun net s =>
    let k := netNum net * 3
    let out := (txQ (lnkOf s n) k).filter fun q => !gtCarried s n q.flit
    if out.isEmpty then s
    else
      let ll := out.map fun q => { q with flit := { q.flit with cls := .ll, vc := vcTR }, since := s.clk.cyc }
      updLnk n (fun x => { x with tx := spSet [] (spSet [] x.tx k ((txQ x k).filter (fun q => gtCarried s n q.flit)))
                                    (k + 1) (txQ x (k + 1) ++ ll) }) s) s

/-- What has been packed so far: bits used, their value, the packets. -/
structure Fill where
  used : Nat := 0
  body : Nat := 0
  pkts : List Flit := []
deriving DecidableEq, Repr

def fits (a : Fill) (i : Item) : Bool := decide (a.used + (itemBits i).2 ≤ 704)
def addItem (a : Fill) (i : Item) : Fill :=
  { used := a.used + (itemBits i).2, body := a.body + at' (itemBits i).1 a.used
    pkts := match i with | .pkt f _ _ => a.pkts ++ [f] | _ => a.pkts }

/-- Take the head of queue k as an item. -/
def takeTx (n : Fin 10) (k : Nat) (s : State) : State :=
  let s := updLnk n (fun x =>
    { x with
      tx := spSet [] x.tx k (match (txQ x k).tail with | [] => [] | q :: r => { q with since := s.clk.cyc } :: r)
      sent := spSet 0 x.sent k ((spGet 0 x.sent k + 1) % 256) }) s
  countStrand n (25 + 2 * (k / 3)) s

/-- The GT head that came first among those with a credit (R328). -/
def gtHead (s : State) (n : Fin 10) : Option (Nat × TxFlit) :=
  let hs := [0, 3, 9].filterMap fun k =>
    match txQ (lnkOf s n) k with
    | q :: _ => if txCredit n (lnkOf s n) k then some (k, q) else none
    | [] => none
  match hs with
  | [] => none
  | a :: r => some (r.foldl (fun b c => if c.2.left < b.2.left then c else b) a)

/-- DEDUCED (log entry 65). -/
def fillGt (fuel : Nat) (n : Fin 10) (a : Fill × State) : Fill × State :=
  match fuel with
  | 0 => a
  | k + 1 =>
    match gtHead a.2 n with
    | none => a
    | some (q, t) =>
      let i := Item.pkt t.flit true (min 15 (a.2.clk.cyc - t.left))
      if fits a.1 i then fillGt k n (addItem a.1 i, takeTx n q a.2) else a

/-- CREDIT is due for buffer k (R332). -/
def creditDue (x : LinkSt) (k : Nat) : Bool :=
  decide (spGet 0 x.freedOut k ≠ spGet 0 x.freedSent k) || x.credDue.contains k

def fillCredits (n : Fin 10) (a : Fill × State) : Fill × State :=
  bufKeys.foldl (fun (a : Fill × State) k =>
    let x := lnkOf a.2 n
    let i := Item.credit (k / 3) (k % 3) (spGet 0 x.freedOut k)
    if creditDue x k && fits a.1 i then
      (addItem a.1 i, updLnk n (fun x => { x with
        freedSent := spSet 0 x.freedSent k (spGet 0 x.freedOut k), credDue := x.credDue.erase k }) a.2)
    else a) a

def fillMsgs (fuel : Nat) (n : Fin 10) (a : Fill × State) : Fill × State :=
  match fuel with
  | 0 => a
  | k + 1 =>
    match (lnkOf a.2 n).msgs with
    | m :: r => if fits a.1 (.msg m) then fillMsgs k n (addItem a.1 (.msg m), updLnk n (fun x => { x with msgs := r }) a.2) else a
    | [] => a

/-- Effective QOS of a waiting packet under profile 0 (R117). -/
def txQos (s : State) (q : TxFlit) : Nat :=
  if s.epoch.switch = .draining && decide (q.flit.epoch ≠ s.epoch.active) then 15
  else min 15 (q.flit.qos.toNat + (s.clk.cyc - q.since) / 64)

/-- The TR and TE heads that hold a credit and fit. -/
def txCands (a : Fill × State) (n : Fin 10) : List (Nat × TxFlit) :=
  (bufKeys.filter (· % 3 ≠ 0)).filterMap fun k =>
    match txQ (lnkOf a.2 n) k with
    | q :: _ => if txCredit n (lnkOf a.2 n) k && fits a.1 (.pkt q.flit false 0) then some (k, q) else none
    | [] => none

/-- The winner of a class: effective QOS, then the round robin over the queues. -/
def txClassWin (s : State) (rr : Nat) (cs : List (Nat × TxFlit)) (c : Cls) : Option (Nat × TxFlit) :=
  let key := fun (x : Nat × TxFlit) => (15 - txQos s x.2) * 16 + (x.1 + 12 - rr) % 12
  match cs.filter fun x => decide (x.2.flit.cls = c) with
  | [] => none
  | a :: r => some (r.foldl (fun b d => if key d < key b then d else b) a)

/-- R116 rules 3 and 4 under profile 0, with the BE and LL counters of R118. DEDUCED (log entry 65). -/
def txPick (s : State) (x : LinkSt) (cs : List (Nat × TxFlit)) : Option (Nat × TxFlit) :=
  let win := txClassWin s x.rrIn cs
  match decide (7 ≤ x.beCnt), win .be, decide (3 ≤ x.llCnt), win .ll, win .mg with
  | true, some h, _, _, _ => some h
  | _, _, true, some h, _ => some h
  | _, _, _, _, some h => some h
  | _, _, _, some h, none => some h
  | _, b, _, none, none => b

/-- The starvation counters after a pick of class c among cs (R118). -/
def txStarve (cs : List (Nat × TxFlit)) (c : Cls) (x : LinkSt) : LinkSt :=
  let waits := fun (d : Cls) => cs.any fun y => decide (y.2.flit.cls = d)
  let next := fun (d : Cls) (v due : Nat) => if c = d ∨ !waits d then 0 else min due (v + 1)
  { x with beCnt := next .be x.beCnt 7, llCnt := next .ll x.llCnt 3 }

/-- DEDUCED (log entry 65). -/
def fillRest (fuel : Nat) (n : Fin 10) (a : Fill × State) : Fill × State :=
  match fuel with
  | 0 => a
  | k + 1 =>
    let cs := txCands a n
    match txPick a.2 (lnkOf a.2 n) cs with
    | none => a
    | some (q, t) =>
      let s := updLnk n (fun x => { txStarve cs t.flit.cls x with rrIn := (q + 1) % 12 }) (takeTx n q a.2)
      fillRest k n (addItem a.1 (.pkt t.flit false 0), s)

/-- R328. DEDUCED (log entry 65). -/
def fillCtnr (n : Fin 10) (s : State) : Fill × State :=
  let pk := txPackets s n
  let s := if pk then gtDemote n s else s
  let a := if pk then fillGt 8 n ({}, s) else ({}, s)
  let a := fillMsgs 4 n (fillCredits n a)
  if pk then fillRest 8 n a else a

/-- Something waits for the transmitter. -/
def txWork (s : State) (n : Fin 10) : Bool :=
  let x := lnkOf s n
  txWaits s n || !x.msgs.isEmpty || bufKeys.any (creditDue x) || x.replay.any (·.resend)

/-! ### Sending (R328 to R331) -/

/-- A NAK is due again: REPLAY_TO has passed since the last (R330). DEDUCED (log entry 64). -/
def nakAgain (s : State) (n : Fin 10) : Bool :=
  match (lnkOf s n).nakAt with
  | some t => decide (t + cycUs (slReplayTo s n.val) ≤ s.clk.cyc)
  | none => false

/-- An ACKC with the CREDIT items that are due; no SEQC takes its positions (R445). DEDUCED (log entry 64). -/
def sendAckc (n : Fin 10) (nak : Bool) (s : State) : State :=
  let (a, s) := fillCredits n ({}, s)
  countN (scOff n.val (idleClass s n)) 3 (countStrand n 7 (launchCtnr n nak 2 0 a.body s))

/-- The oldest SEQC named for replay is sent again. -/
def sendReplay (n : Fin 10) (c : Stored) (s : State) : State :=
  let s := launchCtnr n false 1 c.seq.toNat c.body.toNat s
  countStrand n 6 (updLnk n (fun x => { x with replay := x.replay.map (fun d =>
    if d.seq = c.seq then { d with resend := false, replays := d.replays + 1, sentAt := s.clk.cyc } else d) }) s)

/-- CONTAINER_SEND. Outside the modes of R336 a stored SEQC that holds packets waits. DEDUCED (log entry 64). -/
def sendDo (n : Fin 10) (s : State) : State :=
  let s := if txWork s n then deepLeave n (standbyLeave n s) else s
  if !txReady s n then s
  else
    match (lnkOf s n).replay.find? (·.resend) with
    | some c => if c.pkts.isEmpty || txPackets s n then sendReplay n c s else sendAckc n false s
    | none =>
      if 1024 ≤ (lnkOf s n).replay.length then sendAckc n false s
      else
        let (a, s) := fillCtnr n s
        if a.used = 0 then s
        else
          let q := (lnkOf s n).next
          let s := countStrand n 5 (launchCtnr n false 1 q.toNat a.body s)
          updLnk n (fun x => { x with
            next := q + 1
            replay := x.replay ++ [{ seq := q, body := BitVec.ofNat 704 a.body, pkts := a.pkts, sentAt := s.clk.cyc }] }) s

/-- ACKC_SEND. DEDUCED (log entry 64). -/
def ackcDo (n : Fin 10) (s : State) : State :=
  if !txReady s n then s
  else
    let s := advanceTo ((lnkOf s n).lastTx + cycNs (slAckInt s n.val)) s
    sendAckc n (nakAgain s n) s

/-- CREDIT_REFRESH: the buffers whose count has changed; where there is none, every buffer, 4 us after the last time. -/
def creditDo (n : Fin 10) (s : State) : State :=
  if !txReady s n then s
  else if bufKeys.any (creditDue (lnkOf s n)) then sendDo n s
  else
    let s := advanceTo ((lnkOf s n).credAt + cycUs 4) s
    sendDo n (updLnk n (fun x => { x with credDue := bufKeys, credAt := s.clk.cyc }) s)

/-! ### Acknowledgement and replay (R329 to R331) -/

/-- Everything stored is named for replay; a ninth time is replay exhaustion. DEDUCED (log entry 64). -/
def nameReplay (n : Fin 10) (s : State) : State :=
  if (lnkOf s n).replay.any fun c => !c.resend && decide (8 ≤ c.replays) then
    faultEvent (.strand n) srcReplay (strandDown n 2 s)
  else updLnk n (fun x => { x with replay := x.replay.map (fun c => { c with resend := true }) }) (wasteUnacked n s)

/-- REPLAY_TIMEOUT. -/
def replayDo (n : Fin 10) (s : State) : State :=
  match (lnkOf s n).replay with
  | [] => s
  | c :: _ => nameReplay n (advanceTo (c.sentAt + cycUs (slReplayTo s n.val)) s)

/-- An ACK releases every stored SEQC up to a; the positions of each last send are CARRIED (R331, R445). -/
def takeAck (n : Fin 10) (a : BitVec 12) (s : State) : State :=
  match (lnkOf s n).replay.findIdx? fun c => decide (c.seq = a) with
  | none => s
  | some i =>
    let gone := (lnkOf s n).replay.take (i + 1)
    let s := updLnk n (fun x => { x with replay := x.replay.drop (i + 1), acked := a }) s
    countN (scOff n.val 0) (3 * (gone.filter fun c => !c.resend).length) s

/-- A CREDIT item: FREED beyond SENT is a credit-mismatch event (R332, R419). DEDUCED (log entry 65). -/
def takeCredit (n : Fin 10) (net buf freed : Nat) (s : State) : State :=
  let k := net * 3 + buf
  if 3 ≤ buf ∨ k = 6 then s
  else
    let x := lnkOf s n
    let out := (spGet 0 x.sent k + 256 - spGet 0 x.freedIn k) % 256
    if out < (freed + 256 - spGet 0 x.freedIn k) % 256 then faultEvent (.strand n) srcCredit s
    else updLnk n (fun x => { x with freedIn := spSet 0 x.freedIn k freed }) s

/-! ### Windows (R337) -/

/-- The window clock, which runs free: windows that have gone by end. DEDUCED (log entry 70). -/
def winRoll (n : Fin 10) (s : State) : State :=
  let x := lnkOf s n
  let w := cycUs (slWinUs s n.val)
  if w = 0 ∨ s.clk.cyc < x.winAt + w then s
  else updLnk n (fun x => { x with winAt := x.winAt + (s.clk.cyc - x.winAt) / w * w, winCnt := 0, crcCnt := 0, firstWin := false }) s

/-- CRC_WINDOW_END. DEDUCED (log entry 70). -/
def winEndDo (n : Fin 10) (s : State) : State := winRoll n (advanceTo ((lnkOf s n).winAt + cycUs (slWinUs s n.val)) s)

/-- A container counts toward the end of the window. DEDUCED (log entry 70). -/
def winCount (n : Fin 10) (s : State) : State :=
  let x := lnkOf s n
  if 2 ^ slWinExp s n.val ≤ x.winCnt + 1 then
    updLnk n (fun x => { x with winCnt := 0, crcCnt := 0, firstWin := false, winAt := s.clk.cyc + 1 }) s
  else updLnk n (fun x => { x with winCnt := x.winCnt + 1 }) s

/-- Ask for every SEQC from EXP on, unless a NAK is out (R330). -/
def askAgain (n : Fin 10) (s : State) : State :=
  if txReady s n && ((lnkOf s n).nakAt.isNone || nakAgain s n) then sendAckc n true s else s

/-- A CRC error: the window's threshold takes the strand down; otherwise it is NAKed as a SEQC one ahead (R325, R329, R337). -/
def crcError (n : Fin 10) (s : State) : State :=
  let s := countStrand n 11 (updLnk n (fun x => { x with crcCnt := x.crcCnt + 1 }) s)
  let x := lnkOf s n
  let thr := if x.firstWin then slFirstThr s n.val else slCrcThr s n.val
  let s := faultEvent (.strand n) srcCrc s
  if !inSession s n then s
  else if thr ≤ x.crcCnt then strandDown n 1 s
  else askAgain n s

/-! ### Receiving (R329, R334, R340) -/

/-- A GT flit that can be injected from cycle c waits more than 32 cycles for its flow's slot: it came after its slot (R186).
DEDUCED (log entry 65). -/
def gtLate (s : State) (n : Fin 10) (f : Flit) (c : Nat) : Bool :=
  let p := strandPort n.val
  match flowOf s p f.net f.dst.toNat f.dstdev.toNat with
  | none => false
  | some fl =>
    let now := (c + s.clk.phase) % 128
    let waits := ((List.range 128).filter fun k => slotFlow s p f.net k = some fl).map fun k => (k + 128 - now) % 128
    decide (32 < waits.foldl min 128)

/-- A packet comes into its receive buffer. -/
def takePkt (n : Fin 10) (f : Flit) (gt : Bool) (wait : Nat) (s : State) : State :=
  let k := netNum f.net * 3 + (if gt && decide (f.net ≠ .snp) then 0 else if f.vc = vcTE then 2 else 1)
  let c := s.clk.cyc + (if gt then 15 - wait else 0)
  let s := updLnk n (fun x => { x with rx := spSet [] x.rx k (spGet [] x.rx k ++ [{ flit := f, arrived := c }]) }) s
  let s := if gt && gtLate s n f c then countStrand n 22 s else s
  countStrand n (26 + 2 * netNum f.net) s

/-- The items of an accepted SEQC. -/
def takeItem (n : Fin 10) (i : Item) (s : State) : State :=
  match i with
  | .pkt f gt w => takePkt n f gt w s
  | .msg m => poolDeliver n.val m s
  | .credit _ _ _ => s

/-- DEDUCED (log entry 66). -/
def takeSeqc (n : Fin 10) (seq : Nat) (items : List Item) (s : State) : State :=
  let d := (seq + 4096 - (lnkOf s n).exp.toNat) % 4096
  if d = 0 then
    let s := countStrand n 10 (updLnk n (fun x => { x with exp := x.exp + 1, nakAt := none }) s)
    forEach items (takeItem n) s
  else if d ≤ 2047 then askAgain n s
  else countStrand n 12 s

/-- CONTAINER_RECEIVE. A container that a CORRUPT injection names is a CRC error (R435). DEDUCED (log entry 66). -/
def receiveDo (n : Fin 10) (c : RawContainer) (bad : Bool) (s : State) : State :=
  if (phyOf s n).stage ≠ .active ∨ !inSession s n then s
  else
    let corrupt := fun (i : Inj) => decide (i.kind = 1 ∧ i.dom = some (.strand n))
    let bad := bad || s.flt.injs.any fun i => corrupt i && decide (0 < i.left)
    let s := winRoll n (injAct corrupt s)
    let v := c.toNat
    match (if bad || !crcGood c then none else parseItems 36 0 (nbits 735 32 v)) with
    | none =>
      let s := crcError n s
      if inSession s n then winCount n s else s
    | some items =>
      let s := winCount n s
      let s := takeAck n (BitVec.ofNat 12 (nbits 15 4 v)) s
      let s := forEach items (fun i s => match i with | .credit a b f => takeCredit n a b f s | _ => s) s
      let s := if v.testBit 0 then nameReplay n (countStrand n 9 s) else s
      if !inSession s n then s
      else lctlPump n (if nbits 31 28 v = 1 then takeSeqc n (nbits 27 16 v) items s else s)

/-! ### Sessions (R336, R346) -/

/-- HELLO_SEND. -/
def helloSendDo (n : Fin 10) (s : State) : State :=
  if inSession s n then sendHello n (advanceTo (lnkOf s n).helloAt s) else s

/-- HELLO_TIMEOUT: the strand retrains, and it counts as a strand fault (R302), of source 10. DESIGN CHOICE (log entry 93). -/
def helloTimeoutDo (n : Fin 10) (s : State) : State :=
  if (lnkOf s n).link = .hello then
    faultEvent (.strand n) srcLos (strandDown n 6 (advanceTo ((lnkOf s n).startAt + cycUs 100) s))
  else s

/-! ### Time blocks (R144, R335) -/

/-- The strand carries time exchanges: every strand in ACTIVE that does not rest (R144, R312). -/
def exchReady (s : State) (n : Fin 10) : Bool := decide ((phyOf s n).stage = .active) && decide ((phyOf s n).pwr = .active)

/-- FTIME at the next TSYNC of a strand: the next multiple of 16,384 ns after its last (R144, R335). -/
def tsyncDue (s : State) (n : Fin 10) : Nat :=
  let t := nextMultiple s 16384
  if (lnkOf s n).tsyncAt = some t then t + 16384 else t

/-- What this end reports of its time: SYNCED, and with SYNC_EN = 0 never (R143, R148). DESIGN CHOICE (log entry 20). -/
def syncReport (s : State) : Bool := syncEn s && decide (s.time.state = .synced)

/-- TSYNC_SEND. -/
def tsyncSendDo (n : Fin 10) (s : State) : State :=
  if !exchReady s n || !isUpper s n || !timeRuns s then s
  else
    let t := tsyncDue s n
    let s := advanceToTime t s
    let e := (lnkOf s n).exch + 1
    let s := updLnk n (fun x => { x with exch := e, exchOpen := true, t1 := timeCap s, tsyncAt := some t }) s
    controlSend n (tsyncBlock e) (emit (.timeState n (syncReport s)) s)

/-- The partner reports whether its time is SYNCED (R143). DESIGN CHOICE (log entry 20). -/
def partnerReport (n : Fin 10) (synced : Bool) (s : State) : State :=
  if (lnkOf s n).pSync = synced then s else timeRefresh (updLnk n (fun x => { x with pSync := synced }) s)

/-- TSYNC_RECEIVE: the lower end answers TREQ. -/
def tsyncDo (n : Fin 10) (b : Block) (synced : Bool) (s : State) : State :=
  takeBlock n tyTSYNC b s fun s =>
    if !exchReady s n || isUpper s n then s
    else
      let s := partnerReport n synced s
      let e := BitVec.ofNat 8 (blkFld b 15 8)
      let t := timeCap s
      let s := updLnk n (fun x => { x with exch := e, exchOpen := true, t2 := t, t3 := t }) s
      controlSend n (treqBlock e ((lnkOf s n).delay16.getD 0xFFFF) t) s

/-- TREQ_RECEIVE: the upper end takes t4 and the partner's delay, and answers TRESP. -/
def treqDo (n : Fin 10) (b : Block) (s : State) : State :=
  takeBlock n tyTREQ b s fun s =>
    let x := lnkOf s n
    if !exchReady s n || !isUpper s n || !x.exchOpen || decide (blkFld b 15 8 ≠ x.exch.toNat) then s
    else
      let t4 := timeCap s
      let prev := blkFld b 31 16
      let s := controlSend n (trespBlock x.exch x.t1 t4) (updLnk n (fun x => { x with exchOpen := false }) s)
      if prev = 0xFFFF then s
      else
        let delay : Int := 16 * (prev : Int)
        let s := exchangeDone n delay s
        if s.time.forward && decide (foreignStrand s = some n) then forwardAlign ((blkFld b 103 32 : Int) - (x.t1 : Int) - delay) s
        else s

/-- TRESP_RECEIVE: the lower end completes the exchange. -/
def trespDo (n : Fin 10) (b : Block) (s : State) : State :=
  takeBlock n tyTRESP b s fun s =>
    let x := lnkOf s n
    if !exchReady s n || isUpper s n || !x.exchOpen || decide (blkFld b 15 8 ≠ x.exch.toNat) then s
    else
      let t1 : Int := (blkFld b 87 16 : Int)
      let t4 : Int := (blkFld b 159 88 : Int)
      let t2 : Int := (x.t2 : Int)
      let t3 : Int := (x.t3 : Int)
      let s := updLnk n (fun x => { x with exchOpen := false }) s
      lowerExchange n (((t2 - t1) + (t4 - t3)) / 2) (((t2 - t1) - (t4 - t3)) / 2) s

end Sys2Proof.Machine
end

