-- ==== Sys2Proof/Machine/Writes.lean ====
section
/-! DEFINITION. What a performed write of a register, a table entry or a counter does (R5 to R8, R53, R57 to R60, R446 to R448), direct or
by a clasp: first the stored fields, then the effect of the register. -/

namespace Sys2Proof.Machine

/-! ### Expert mode (R57 to R60) -/

/-- The expert registers of a page (R63). -/
def expertRegs (k : Kind) : List Nat :=
  match k with
  | .time | .slPhy => [0x400]
  | .fault => (List.range 17).map fun i => 0x400 + 8 * i
  | .locket => [0x400, 0x408]
  | .rtr _ | .port | .slLink => [0x400, 0x404]
  | _ => []

/-- Profile selectors stand on the page, and no expert field (R57). -/
def barePage (k : Kind) : Bool := match k with | .global | .addrmap => true | _ => false

/-- The selectors of a page without expert fields are held as they take effect, or follow their register again (R58, R59). -/
def holdSel (pg : Page) (on : Bool) (s : State) : State :=
  if barePage pg.kind then
    { s with selHeld := spSet 0 s.selHeld pg.base (if on then (regGet s (pg.base + 0x40)).toNat + 1 else 0) }
  else s

/-- EXPERT_EN changes to 1: every expert field keeps the value its profile implies, and the hardware setting stays (R58). -/
def expertOn (pg : Page) (s : State) : State :=
  let t := holdSel pg true (regPut (pg.base + 0x10) 0 0 1 s)
  forEach (expertRegs pg.kind) (fun o => regSet (pg.base + o) (word (impliedWord s pg o))) t

/-- EXPERT_EN changes to 0: the expert values are discarded and PROFILE_STALE clears (R59). -/
def expertOff (pg : Page) (s : State) : State :=
  let t := holdSel pg false (regClrBit (pg.base + 0x14) 2 (regPut (pg.base + 0x10) 0 0 0 s))
  forEach (expertRegs pg.kind) (fun o => regSet (pg.base + o) (regReset (pg.base + o))) t

/-- EXPERT_EN written. -/
def setExpert (pg : Page) (v : Bool) (s : State) : State :=
  if v == expertEn s pg.base then s else if v then expertOn pg s else expertOff pg s

/-- The bits of the profile selectors at offset o of a page (R56, R58). DESIGN CHOICE (log entry 50). -/
def selectorBits (k : Kind) (o : Nat) : Nat :=
  match k, o with
  | .time, 0x40 => 0xF
  | .fault, 0x40 => 0xFFF
  | .locket, 0x40 => 0xFF
  | .rtr _, 0x40 => 0xF
  | .port, 0x48 => 0xFF
  | .slPhy, 0x40 => 0xF00
  | .global, 0x40 => 0xFF
  | .addrmap, 0x40 => 0xF
  | _, _ => 0

/-! ### Stored fields -/

/-- Store a write of the register at offset o of a page, field by field (R6 to R8). DESIGN CHOICE (log entry 50). -/
def storeReg (pg : Page) (o : Nat) (clOk : Bool) (mask data : Nat) (s : State) : State :=
  let off := pg.base + o
  let old := (regGet s off).toNat
  let new := mergeFields (fieldsAt pg o) clOk mask old data
  let stale := expertEn s pg.base && decide ((old ^^^ new) &&& selectorBits pg.kind o ≠ 0)
  let s := regSet off (word new) s
  if stale then regSetBit (pg.base + 0x14) 2 s else s

/-! ### Commands written to registers -/

/-- How many commands a FAB_CMD write names. -/
def cmdCount (byClasp : Bool) (d : Nat) : Nat :=
  let drain := nbits 5 4 d
  b2n (d.testBit 0) + b2n (d.testBit 1) + b2n (d.testBit 2) + b2n (decide (drain = 1 ∨ drain = 2)) + b2n (byClasp && d.testBit 9) +
    b2n (byClasp && d.testBit 8)

/-- FAB_CMD (R379): a write that names more than one command is ignored; TEST and FRESET act only by a clasp (R398). DEDUCED (log entry 55). -/
def fabCmd (byClasp : Bool) (d : Nat) (s : State) : State :=
  let drain := nbits 5 4 d
  let test := byClasp && d.testBit 9
  let freset := byClasp && d.testBit 8
  let n := cmdCount byClasp d
  if n = 0 then s
  else if 1 < n then cmdRej s
  else if d.testBit 0 then cmdLoad s
  else if d.testBit 1 then cmdAbort s
  else if d.testBit 2 then cmdRestore s
  else if test then testAsk s
  else if freset then softResetDo s
  else cmdDrain (decide (drain = 2)) s

/-- HM_SUBMIT (R149, R151, R155). -/
def hmSubmitWrite (d : Nat) (s : State) : State :=
  let a := regGet s 0x1048
  let act := fld 7 0 a
  let target := fld 15 8 a
  let arg := fld 23 16 a
  let xdev := fld 24 24 a = 1
  match nbits 1 0 d with
  | 1 => hmSubmitTile .software act target arg xdev (some (regGet s 0x1050).toNat) s
  | 2 => hmSubmitTile .software act target arg xdev none s
  | 3 => hmCancel (nbits 16 8 d) s
  | _ => s

/-- FLT_ACK (R427, R437). -/
def fltAckWrite (d : Nat) (s : State) : State :=
  match domNamed (nbits 5 4 d) (nbits 14 8 d) with
  | none => s
  | some dm => match nbits 1 0 d with | 1 => fltAckDo dm s | 2 => fltReadmitDo dm s | _ => s

/-- TILE_CTRL (R433). DEDUCED (log entry 55). -/
def tileCtrlWrite (t : Fin 48) (d : Nat) (s : State) : State :=
  let s := if d.testBit 0 then tileIsolateDo t s else s
  if d.testBit 1 then tileReadmitDo t s else s

/-- CLKMODE is one value for a complex (R285). -/
def clkModeShare (n : Nat) (s : State) : State :=
  let v := regFld s (slPage n 1 + 0x40) 0 0
  forEach ((List.range 10).filter fun k => decide (8 ≤ k) == decide (8 ≤ n)) (fun k => regPut (slPage k 1 + 0x40) 0 0 v) s

/-- FAB_SEAL written whole (R383). -/
def fabSealWrite (d : Nat) (s : State) : State :=
  if nbits 47 32 d = 0x5EA1 then sealDo (BitVec.ofNat 32 d) s else s

/-- What the write of a register in the basic region does beside its stored fields, given the word before it. FAB_CMD, FAB_SEAL,
PORT_FENCE, KS_CTRL and the CLASP page are written elsewhere. -/
def regEffect (pg : Page) (o mask data old : Nat) (s : State) : State :=
  let low := mask.testBit 0
  let d := data &&& mask
  match pg.kind, o with
  | .time, 0x40 => if old.testBit 4 && !syncEn s then syncOff s else if !old.testBit 4 && syncEn s then timeRefresh s else s
  | .time, 0x58 => if low then hmSubmitWrite d s else s
  | .fault, 0x48 => if low then fltAckWrite d s else s
  | .sampler, 0x68 => if d.testBit 3 then smpClear (Fin.ofNat 4 pg.inst) s else s
  | .tile, 0x40 => tileCtrlWrite (tileF pg.inst) d s
  | .port, 0x40 => if d.testBit 8 then peerDownDo (portF pg.inst) 1 s else s
  | .slLink, 0x40 => slCtrlWritten (strandF pg.inst) old d s
  | .slPhy, 0x40 => clkModeShare pg.inst s
  | _, _ => s

/-- A write of a register below the tables region, by a direct write (clOk: of the proposer in LOAD to a CLASP-class page) or a clasp;
only the settings it stores. -/
def regSettings (pg : Page) (o : Nat) (clOk : Bool) (mask data : Nat) (s : State) : State :=
  if pg.kind = .keepsake ∧ o = 0x40 then
    if clOk && mask.testBit 0 then { s with ks := { s.ks with auto := data.testBit 0 } } else s
  else storeReg pg o clOk mask data s

/-- A write of a register in the basic region. -/
def writeBasic (pg : Page) (o : Nat) (clOk byClasp : Bool) (mask data : Nat) (s : State) : State :=
  let old := (regGet s (pg.base + o)).toNat
  match pg.kind, o with
  | .global, 0x48 => if mask.testBit 0 then fabCmd byClasp (data &&& mask) s else s
  | .global, 0x50 => fabSealWrite (data &&& mask) s
  | .port, 0x44 => fenceWrite (portF pg.inst) (old.testBit 0) (data.testBit 0) s
  | .devroute, _ => poolAround (regSettings pg o clOk mask data) s
  | _, _ => regEffect pg o mask data old (regSettings pg o clOk mask data s)

/-- A write of a register in the expert region (R57). DESIGN CHOICE (log entry 50). -/
def writeExpert (pg : Page) (o : Nat) (clOk : Bool) (mask data : Nat) (s : State) : State :=
  if hasExpert pg.kind && expertEn s pg.base then storeReg pg o clOk mask data s
  else regSetBit (pg.base + 0x14) 6 s

/-! ### Tables (R53) -/

/-- Software has written the inactive bank of a page (R127, R182, R347). -/
def noteSoftWrite (pg : Page) (s : State) : State :=
  match pg.kind with
  | .rtr _ =>
    let l := s.epoch.wroteRoute
    { s with epoch := { s.epoch with wroteRoute := if pg.base ∈ l then l else pg.base :: l, plannedOther := none } }
  | .bead => beadWritten { s with epoch := { s.epoch with beadPlannedOther := false } }
  | .devroute => { s with epoch := { s.epoch with wroteDr := true } }
  | _ => s

/-- What a write leaves in a table entry; IN of an output entry is 0 where VALID is 0 (R167). DEDUCED (log entry 56). -/
def entryAfter (pg : Page) (sel : Nat) (fs : List Field) (mask old data : Nat) : Nat :=
  let v := mergeFields fs true mask old data
  if pg.kind = .bead && decide (sel < 0x20) && !v.testBit 8 then putBits 11 9 v 0 else v

/-- RESOLVE in a relay entry (R259, R263). DEDUCED (log entry 59). -/
def resolveWrite (sel o mask data : Nat) (s : State) : State :=
  let r := o - 0xC40
  if 0xC40 ≤ o ∧ r < 512 ∧ 4 ≤ sel ∧ sel < 8 ∧ r / 8 % 4 = 0 ∧ mask.testBit 63 then
    let e := Fin.ofNat 64 (16 * (sel - 4) + r / 32)
    match nbits 63 62 data with
    | 1 => relayResolveDo e true s
    | 2 => relayResolveDo e false s
    | _ => s
  else s

/-- A write to the tables region under a view, counters apart. DESIGN CHOICE (log entry 50). -/
def writeTable (pg : Page) (sel : Nat) (bank : Bool) (o mask data : Nat) (s : State) : State :=
  if isBanked pg.kind && (bank == activeBank s pg.kind || bankLocked s pg.kind) then regSetBit (pg.base + 0x14) 5 s
  else
    match tblFields pg sel o with
    | none => if pg.kind = .locket then resolveWrite sel o mask data s else s
    | some fs =>
      let k := viewTblKey pg o sel bank
      noteSoftWrite pg (tblSet k (word (entryAfter pg sel fs mask (tblGet s k).toNat data)) s)

/-! ### Counters (R446 to R448) -/

/-- A write to a counter under a view, of `size` bytes at offset o of its page. -/
def writeCounter (m : Master) (pg : Page) (sel c o size data : Nat) (s : State) : State :=
  let high := size = 4 && decide (o % 8 = 4)
  if sel = 0xFE then s
  else if sel = 0xFF then (if data.testBit 0 && !high then clearOvf c s else s)
  else if size = 8 then preset c data s
  else presetHalf m pg c high data s

/-- The field beside a counter's count (R406, R410). -/
def counterSide (s : State) (c : Nat) : Nat :=
  if isViol c ∨ c = toOff then (regGet s c).toNat else 0

/-- What a counter shows under a view. -/
def counterShown (s : State) (sel c : Nat) : Nat :=
  if sel = 0xFE then spGet 0 s.cnt.shadow c
  else if sel = 0xFF then spGet 0 s.cnt.ovf c
  else cntVal s c

/-- A read of a counter under a view, of `size` bytes at offset o of its page. -/
def readCounter (m : Master) (pg : Page) (sel c o size : Nat) (s : State) : Nat × State :=
  let v := counterShown s sel c
  let side := if sel = 0xFE ∨ sel = 0xFF then 0 else counterSide s c
  if size = 8 then (v + side, s)
  else if sel = 0xFF then (if o % 8 = 4 then 0 else v, s)
  else
    let (r, s) := readHalf m pg c (decide (o % 8 = 4)) v s
    (if o % 8 = 4 then r + side / 2 ^ 32 else r, s)

/-! ### Any write -/

/-- The written bits of a register of a page for an access of `size` bytes at offset o, and the data in place. -/
def maskOf (pg : Page) (o size : Nat) : Nat := (2 ^ (8 * size) - 1) <<< (8 * (o % regWidth pg o))
def dataOf (pg : Page) (o data : Nat) : Nat := data <<< (8 * (o % regWidth pg o))

/-- A performed write to the basic, expert or tables region of a page, at offset o, of `size` bytes; the CLASP page's basic region and
the halves of FAB_SEAL are taken by the matrix. A write to a dark page is ignored (R39) and leaves EXP_REJ and TBL_REJ of R57 and R53 as
they are. DESIGN CHOICE (log entry 51). -/
def performWrite (m : Master) (pg : Page) (sel : Nat) (bank clOk byClasp : Bool) (o size data : Nat) (s : State) : State :=
  let ro := o / regWidth pg o * regWidth pg o
  let mask := maskOf pg o size
  let d := dataOf pg o (data % 2 ^ (8 * size))
  if !answers s pg ro then s
  else
    match regionOf o with
    | .basic => writeBasic pg ro clOk byClasp mask d s
    | .expert => writeExpert pg ro clOk mask d s
    | .tables =>
      (match counterAt pg o with
       | some c => writeCounter m pg sel c o size (data % 2 ^ (8 * size)) s
       | none => writeTable pg sel bank ro mask d s)
    | _ => s

end Sys2Proof.Machine
end

