-- ==== Sys2Proof/Machine/Clasp.lean ====
section
/-! DEFINITION. The clasp (R411 to R418): staging, digest, confirmation, check, arming, cancel and apply. -/

namespace Sys2Proof.Machine

def updClasp (f : ClaspSt → ClaspSt) (s : State) : State := { s with clasp := f s.clasp }

/-- A clasp write that does not fit the state (R411). -/
def claspRej (s : State) : State := updClasp (fun c => { c with seqRej := true }) s

/-- The confirmer (R407). -/
def confirmer (s : State) : Master := if s.straps.confHost0 then .host0 else .sec

/-! ### CLASP_OPEN (R411) -/

/-- Modes in which a set may be opened. -/
def claspModes (m : Mode) : Bool := decide (m = .hold ∨ m = .load ∨ m = .run ∨ m = .degraded ∨ m = .test)

/-- OP = 0b01. -/
def claspOpenDo (s : State) : State :=
  if s.clasp.state = .idle && claspModes s.ms.mode then updClasp (fun c => { c with state := .staging, recs := [], count := 0, cause := 0 }) s
  else claspRej s

/-- OP = 0b10: CLASP_DIGEST is valid and the 50 ms timer starts. -/
def claspCloseDo (s : State) : State :=
  if s.clasp.state = .staging && !s.clasp.recs.isEmpty then
    updClasp (fun c => { c with state := .closed, timer := s.clk.cyc + cycMs 50 }) s
  else claspRej s

def claspOpenWrite (d : Nat) (s : State) : State :=
  match nbits 1 0 d with | 1 => claspOpenDo s | 2 => claspCloseDo s | _ => s

/-! ### Staging (R412, R415) -/

/-- A staging is refused with ADDR (R412). -/
def claspAddrBad (s : State) (off width : Nat) : Bool :=
  match pageOf off with
  | none => true
  | some pg =>
    let o := inPage pg off
    let r := regionOf o
    let cls := if r = .tables then tblClass pg.kind else kindClass pg.kind
    decide (pg.kind = .clasp) || decide (r = .status) || (decide (cls = .factory) && decide (s.ms.mode ≠ .test)) ||
      (decide (r = .header) && decide (o ≠ 0x10)) || decide (r = .reserved) || decide (r = .mirror) ||
      decide (width ≠ regWidth pg o) || decide (off % width ≠ 0)

/-- The view a staged write to a page is staged under: that of the last staged PG_CTRL, or TBL_SEL 0 and the inactive bank (R415).
DEDUCED (log entry 53). -/
def stagedView (s : State) (pg : Page) : Nat × Bool :=
  match s.clasp.recs.reverse.find? fun x => x.off = pg.base + 0x10 with
  | some x => (fld 23 16 x.data, fld 8 8 x.data = 1)
  | none => (0, !activeBank s pg.kind)

/-- CLASP_DATA written. DEDUCED (log entry 53). -/
def claspStageDo (d : Nat) (s : State) : State :=
  let a := regGet s 0x2048
  let off := fld 23 0 a
  let width := fld 27 24 a
  if s.clasp.state ≠ .staging then claspRej s
  else if 256 ≤ s.clasp.recs.length then claspDiscard 0x5 s
  else if claspAddrBad s off width then claspDiscard 0x6 (updClasp (fun c => { c with offset := off }) s)
  else
    match pageOf off with
    | none => s
    | some pg =>
      let (sel, bank) := stagedView s pg
      let x : Staged := { off := off, width := width, data := word (d % 2 ^ (8 * width)), sel := sel, bank := bank }
      updClasp (fun c => { c with recs := c.recs ++ [x], count := c.count + 1 }) s

/-! ### Applying a set (R60, R415, R418) -/

/-- A staged write names PG_CTRL. -/
def isCtrl (x : Staged) : Bool := match pageOf x.off with | some pg => decide (inPage pg x.off = 0x10) | none => false
/-- A staged write names FAB_CMD. DEDUCED (log entry 55). -/
def isFabCmd (x : Staged) : Bool := decide (x.off = 0x48)
/-- It names FRESET alone (R379). -/
def isFreset (x : Staged) : Bool := isFabCmd x && x.data.toNat.testBit 8 && decide (cmdCount true x.data.toNat = 1)

/-- The pages a set writes. -/
def setPages (l : List Staged) : List Nat := (l.map stagedBase).eraseDups

/-- The last staged EXPERT_EN of each page takes effect first (R60, R415). -/
def applyExpert (l : List Staged) (s : State) : State :=
  forEach (setPages l) (fun b s =>
    match (l.reverse.find? fun x => x.off = b + 0x10), pageOf b with
    | some x, some pg => setExpert pg (x.data.toNat.testBit 0) s
    | _, _ => s) s

/-- One staged write takes effect (R418). -/
def applyOne (x : Staged) (s : State) : State :=
  match pageOf x.off with
  | none => s
  | some pg =>
    if isCtrl x then s
    else if isFabCmd x then fabCmd true (if isFreset x then clrBit x.data.toNat 8 else x.data.toNat) s
    else performWrite .mgt pg x.sel x.bank true true (inPage pg x.off) x.width x.data.toNat s

/-- The settings alone that one staged write leaves, for the checker (R414). -/
def settleOne (x : Staged) (s : State) : State :=
  match pageOf x.off with
  | none => s
  | some pg =>
    let o := inPage pg x.off
    if isCtrl x then s
    else
      match regionOf o with
      | .basic => regSettings pg o true (maskOf pg o x.width) (dataOf pg o x.data.toNat) s
      | .expert => writeExpert pg o true (maskOf pg o x.width) (dataOf pg o x.data.toNat) s
      | .tables =>
        (match tblFields pg x.sel o with
         | some fs =>
           let k := viewTblKey pg o x.sel x.bank
           tblSet k (word (entryAfter pg x.sel fs (maskOf pg o x.width) (tblGet s k).toNat (dataOf pg o x.data.toNat))) s
         | none => s)
      | _ => s

/-- The configuration the device would hold if the set applied at once (R414). DEDUCED (log entry 53). -/
def settled (s : State) : State := forEach s.clasp.recs settleOne (applyExpert s.clasp.recs s)

/-- A staged table write names a bank that is active, or whose swap or switch is armed or draining (R53, R134, R415). -/
def claspBankLocked (s : State) : Bool :=
  s.clasp.recs.any fun x =>
    match pageOf x.off with
    | some pg =>
      decide (regionOf (inPage pg x.off) = .tables) && isBanked pg.kind &&
        (x.bank == activeBank s pg.kind || bankLocked s pg.kind)
    | none => false

/-- Pages whose settings the checks of R384 judge together (R418 check 3). -/
def judgedPages : List Nat := [0x5000, 0x6000] ++ allRtrPages ++ allBeadPages

/-- The pages on which the verdict depends (R418 check 3). -/
def dependPages (l : List Staged) : List Nat :=
  let w := setPages l
  if w.any fun b => b ∈ judgedPages then (w.filter fun b => b ∉ judgedPages) ++ judgedPages else w

/-- A page has changed since the checker began. DEDUCED (log entry 54). -/
def claspStale (s : State) : Bool :=
  (dependPages s.clasp.recs).any fun b => spGet 0 s.changes b ≠ spGet 0 s.clasp.snap b

/-! ### Confirmation and check (R413, R414) -/

/-- CLASP_CONFIRM written by the confirmer. DEDUCED (log entry 54). -/
def claspConfirmDo (d : Nat) (s : State) : State :=
  if s.clasp.state ≠ .closed then claspRej s
  else if d % 2 ^ 32 = claspDigest s then updClasp (fun c => { c with state := .checking, snap := s.changes }) s
  else claspDiscard 0x3 s

/-- CLASP_CHECK_DONE: the checker's verdict; FAB_CHK is not touched. DEDUCED (log entry 54). -/
def claspCheckDo (s : State) : State :=
  if s.clasp.state ≠ .checking then s
  else if claspBankLocked s then claspDiscard 0x8 s
  else
    match checkConfig (settled s) with
    | some (why, off) =>
      let s := noteMapOf (settled s) (some (why, off)) s
      claspDiscard 0x7 (updClasp (fun c => { c with chkWhy := why, offset := off }) s)
    | none => updClasp (fun c => { c with state := .confirmed }) s
where
  /-- A map finding over another configuration leaves its range and reason in AM_STAT (R351). -/
  noteMapOf (t : State) (r : Option (HoldWhy × Nat)) (s : State) : State :=
    match r, amFinding t with
    | some (.addrmap, _), some (n, w) => regPut 0x5800 15 10 n (regPut 0x5800 9 7 w s)
    | _, _ => s

/-- CLASP_TIMEOUT. -/
def claspTimeoutDo (s : State) : State :=
  match s.clasp.state with
  | .closed | .checking | .confirmed => claspDiscard 0x4 (advanceTo s.clasp.timer s)
  | _ => s

/-! ### Arming and cancel (R416, R417) -/

/-- CLASP_ARM: 0 means next frame. -/
def claspArmDo (t : Nat) (s : State) : State :=
  if s.clasp.state ≠ .confirmed then claspRej s
  else
    let s := hmSubmit .clasp 9 0 0 false (if t = 0 then none else some t) s
    if s.hm.result = 1 then updClasp (fun c => { c with state := .armed }) s else s

/-- The queued clasp entry. -/
def claspEntry (s : State) : Option (Nat × HmEntry) := (gqEntries s).find? fun x => x.2.act = 9

/-- CLASP_CANCEL by a clasp party, with the cause that names it. -/
def claspCancelDo (cause : Nat) (s : State) : State :=
  match s.clasp.state with
  | .idle => claspRej s
  | .armed =>
    (match claspEntry s with
     | some (id, e) =>
       if cancellable s e then claspDiscard cause (hmRemove id s) else updClasp (fun c => { c with late := true }) s
     | none => claspDiscard cause s)
  | _ => claspDiscard cause s

/-! ### Launch (R418) -/

/-- The set applies: every write in this cycle, in staged order after the EXPERT_EN of each page (R60, R418), then CHANGES of each page. IN
of every bead is as the checker filled it (R167). An F reset that the set stages resets what the set has written (R365).
DEDUCED (log entry 53). -/
def claspApplyAll (s : State) : State :=
  let l := s.clasp.recs
  let s := updClasp (fun c => { c with state := .idle, recs := [], cause := 0 }) s
  let s := forEach l applyOne (applyExpert l s)
  let s := if (setPages l).any fun b => b ∈ judgedPages then fillBoth s else s
  let s := bumpAll (setPages l) s
  if l.any isFreset then softResetDo s else s

/-- A clasp-apply entry launches. -/
def claspLaunch (s : State) : State :=
  if s.clasp.state ≠ .armed then s
  else if !actModeOk 9 s.ms.mode then claspDiscard 0xC s
  else if claspBankLocked s then claspDiscard 0x8 s
  else if claspStale s then claspDiscard 0x9 s
  else claspApplyAll s

/-- The matrix withholds an access to this offset: the entry of an armed set that writes its page has been sent and has not launched
(R55, R418). -/
def claspHolds (s : State) (off : Nat) : Bool :=
  decide (s.clasp.state = .armed) && ((claspEntry s).any fun x => x.2.sent) &&
    (match pageOf off with | some pg => decide (pg.base ∈ setPages s.clasp.recs) | none => false)

end Sys2Proof.Machine
end

