-- ==== Sys2Proof/Machine/Launch.lean ====
section
/-! DEFINITION. The launch of hallmarks and of locket commits held for a stated time, in the one order of R154. -/

namespace Sys2Proof.Machine

/-- No queued entry launches before e, and no locket commit that its HOME can take is due before it (R154). -/
def entryFirst (s : State) (e : HmEntry) : Bool :=
  ((allEntries s).all fun y => !launchesBefore s y.2 e) && (commitKeys s).all fun k => decide (launchKey s e ≤ k)

/-- Global entry ready to launch as action `act`: sent, and nothing launches before it. -/
def nextGlobal (s : State) (act : Nat) : Option (Nat × HmEntry) :=
  (gqEntries s).find? fun x => decide (x.2.act = act) && x.2.sent && entryFirst s x.2

/-- Entry of tile t's queue ready to launch as action `act`. -/
def nextTile (s : State) (t : Fin 48) (act : Nat) : Option (Nat × HmEntry) :=
  (tqEntries s t).find? fun x => decide (x.2.act = act) && entryFirst s x.2

/-- Time passes to the launch of an entry: to its cycle, and for a frame-aligned action whose cycle is past to the next boundary. -/
def advanceToLaunch (e : HmEntry) (s : State) : State :=
  let s := advanceTo (launchCyc s e) s
  if frameAligned e.act then advanceToFrame s else s

/-- Launch an entry (R152, R155): time passes to its launch, it leaves its queue, and it takes effect, or is discarded where
its action is no longer permitted. A clasp apply is judged by R418 instead. -/
def launch (x : Option (Nat × HmEntry)) (effect : HmEntry → State → State) (s : State) : State :=
  match x with
  | none => s
  | some (id, e) =>
    if !timeRuns s then s
    else
      let s := advanceToLaunch e s
      if e.act ≠ 9 ∧ !actModeOk e.act s.ms.mode then hmDiscardOne 0x6 id e s
      else effect e (hmRemove id s)

/-- The held decision that is due first is delivered at T by the copy of FTIME of the HOME's tile, where the HOME holds a credit of its
class, in its place among the hallmarks and the other commits (R149, R154, R251). -/
def decisionDeliverDo (p : Fin 96) (s : State) : State :=
  match nextDecision s p with
  | none => s
  | some f =>
    let k := commitKey s p f
    if !timeRuns s || decide (ejCredit s p .req f.cls = 0) || (allEntries s).any (fun y => decide (launchKey s y.2 < k)) ||
        (commitKeys s).any (fun j => decide (j < k)) then s
    else
      let s := advanceTo (2 * tbReach s (portOff s p) (commitT f).toNat) s
      decisionOut p f (updPort p (fun x => { x with heldDec := x.heldDec.erase f }) s)

end Sys2Proof.Machine
end

