-- ==== Sys2Proof/Machine/Matrix.lean ====
section
/-! DEFINITION. The register matrix (R36, R38, R47, R51 to R54, R368, R381, R383, R386, R403, R406 to R410, R421, R457): the judgement of an access,
and what a performed access does. -/

namespace Sys2Proof.Machine

/-! ### Rights (R407, R408) -/

/-- VIOL_CNT0 to VIOL_CNT7 (R408). -/
def isViolReg (pg : Page) (o : Nat) : Bool := decide (pg.kind = .clasp ∧ 0x810 ≤ o ∧ o < 0x850)

/-- HOSTh of a master. -/
def hostOf (m : Master) : Option Nat :=
  match m with | .host0 => some 0 | .host1 => some 1 | .host2 => some 2 | .host3 => some 3 | _ => none

/-- The master may read the page (R408). -/
def mayReadPage (s : State) (m : Master) (pg : Page) : Bool :=
  match pg.kind, hostOf m with
  | .mirror, some h => decide (m = confirmer s) || decide (h = pg.inst)
  | _, _ => true

def mayRead (s : State) (m : Master) (pg : Page) (o : Nat) : Bool :=
  mayReadPage s m pg && (!isViolReg pg o || decide (m = .mgt))

/-- The class that governs an offset of a page (R51). -/
def classAt (pg : Page) (o : Nat) : PClass := if regionOf o = .tables then tblClass pg.kind else kindClass pg.kind

/-- The master may write an offset of the basic, expert, tables or mirror region (R408, R54). -/
def mayWrite (s : State) (m : Master) (pg : Page) (o : Nat) : Bool :=
  let cls := classAt pg o
  let reg := fun (b : Nat) => decide (pg.kind = .clasp) && decide (b ≤ o ∧ o < b + 8)
  if reg 0x68 then decide (m = confirmer s)
  else
    (decide (m = .mgt) &&
      (match cls with
       | .opn | .proposer => true
       | .clasp => decide (s.ms.mode = .load)
       | .factory => decide (s.ms.mode = .test))) ||
      (decide (m = confirmer s) && reg 0x60) ||
      (decide (m = .dbg ∧ cls = .factory ∧ s.ms.mode = .test)) ||
      (decide (m = .pfc ∧ pg.kind = .global ∧ 0x48 ≤ o ∧ o < 0x50))

/-- The master may change EXPERT_EN of a page (R46, R54). -/
def mayExpert (s : State) (m : Master) (pg : Page) : Bool :=
  decide (m = .mgt) && (decide (kindClass pg.kind ≠ .clasp) || decide (s.ms.mode = .load))

/-! ### Violations (R410) -/

/-- A violating access is counted, with the KIND of its page. DEDUCED (log entry 47). -/
def violate (m : Master) (off : Nat) (s : State) : State :=
  let c := violOff (masterNum m)
  let k := match pageOf off with | some pg => kindCode pg.kind | none => 0
  count c (regPut c 55 48 k s)

/-- Size and alignment (R38). -/
def sizeOk (off size : Nat) : Bool := decide (size = 4 ∨ size = 8) && decide (off % size = 0)

/-- A P, C or F reset holds the matrix (R368). DEDUCED (log entry 46). -/
def matrixHeldReset (s : State) : Bool := s.ms.heldReset.isSome
/-- In KEEP the core has no power, and nothing answers (R372). DEDUCED (log entry 46). -/
def coreIsOff (s : State) : Bool := decide (s.ms.mode = .keep)

/-- The parts of an access: one on a fast 64-bit register, else one for each 32-bit word, low word first (R38). DESIGN CHOICE (log entry 48). -/
def accessParts (pg : Page) (off size : Nat) : List (Nat × Nat) :=
  if size = 8 ∧ regWidth pg (inPage pg off) = 4 then [(off, 4), (off + 4, 4)] else [(off, size)]

/-! ### ECC (R421) -/

/-- The word an access finds in error: corrected, or acting as its reset value. DEDUCED (log entry 52). -/
def eccFound (e : Ecc) (pg : Page) (o sel : Nat) (bank : Bool) (s : State) : State :=
  let ro := o / regWidth pg o * regWidth pg o
  let tbl := (tblFields pg sel ro).isSome
  let stored := tbl || (decide (o < 0xC00) && !(fieldsAt pg ro).isEmpty)
  if e = .clean || !stored then s
  else
    let s := fltGlobal srcMatrix s
    if e = .single then s
    else if tbl then tblSet (viewTblKey pg ro sel bank) (tblReset (viewTblKey pg ro sel bank)) s
    else if pg.kind = .keepsake ∧ ro = 0x40 then { s with ks := { s.ks with auto := false } }
    else regSet (pg.base + ro) (regReset (pg.base + ro)) s

/-! ### Mirror windows (R457) -/

/-- The group, counter and view of a word of a mirror window; dark pages are looked at apart. DEDUCED (log entry 81). -/
def mirrorWord (o : Nat) : Option (Nat × Page × Nat × Bool) :=
  let pick := fun (g : Nat) (pg : Page) (c : Nat) (cam : Bool) =>
    match counterAt pg (c - pg.base) with | some k => some (g, pg, k, cam) | none => none
  let tile := fun (r : Nat) (cam : Bool) =>
    let t := r / 0x600
    pick 0 ⟨.tileCnt, t, tileCntPage t⟩ (tcOff t (r % 0x600 / 8)) cam
  let port := fun (r : Nat) (cam : Bool) =>
    let p := r / 0x400
    if usedPort p then pick 1 ⟨.portCnt, p, portCntPage p⟩ (pcOff p (r % 0x400 / 8)) cam else none
  let strand := fun (r : Nat) (cam : Bool) =>
    let n := r / 0x400
    pick 2 ⟨.slCnt, n, slPage n 3⟩ (scOff n (r % 0x400 / 8)) cam
  let dev := fun (j : Nat) (cam : Bool) =>
    match j with
    | 0 => some (3, Page.mk .locket 0 0x4000, lkDoneOff, cam)
    | 1 => some (3, Page.mk .locket 0 0x4000, lkAbortOff, cam)
    | 2 => some (3, Page.mk .fault 0 0x3000, conseqOff, cam)
    | 3 => some (3, Page.mk .global 0 0, toOff, cam)
    | _ => none
  if o < 0x1000 then none
  else if o < 0x13000 then tile (o - 0x1000) false
  else if o < 0x25000 then tile (o - 0x13000) true
  else if o < 0x3D000 then port (o - 0x25000) false
  else if o < 0x55000 then port (o - 0x3D000) true
  else if o < 0x57800 then strand (o - 0x55000) false
  else if o < 0x5A000 then strand (o - 0x57800) true
  else if o < 0x5A100 then dev ((o - 0x5A000) / 8) false
  else if o < 0x5A200 then dev ((o - 0x5A100) / 8) true
  else none

/-- A read of a mirror word by master m. DEDUCED (log entry 81). -/
def readMirror (m : Master) (pg : Page) (o size : Nat) (s : State) : Nat × State :=
  match mirrorWord o with
  | none => (0, s)
  | some (g, cp, c, cam) =>
    if !(regGet s (pg.base + 0x40)).toNat.testBit g || dark s cp then (0, s)
    else
      let v := if cam then spGet 0 s.cnt.shadow c else cntVal s c
      if size = 8 then (v, s) else readHalf m pg (if cam then c + 2 ^ 24 else c) (decide (o % 8 = 4)) v s

/-! ### Reads -/

/-- A judged read of one part. -/
def readPart (m : Master) (pg : Page) (off size : Nat) (s : State) : Nat × State :=
  let o := inPage pg off
  if !mayRead s m pg o then (0, violate m off s)
  else if pg.kind = .mirror ∧ 0x1000 ≤ o then readMirror m pg o size s
  else
    match counterAt pg o with
    | some c => if dark s pg then (0, s) else readCounter m pg (viewSel s m pg.base) c o size s
    | none =>
      let w := regWidth pg o
      (readWord s m pg (o / w * w) / 2 ^ (8 * (o % w)) % 2 ^ (8 * size), s)

/-- A read access (R409): the value the master receives. DEDUCED (log entry 47). -/
def readAccess (m : Master) (off size : Nat) (s : State) : Nat × State :=
  if !sizeOk off size then (0, violate m off s)
  else
    match pageOf off with
    | none => (0, s)
    | some pg =>
      (accessParts pg off size).foldl (fun acc part =>
        let (v, s) := readPart m pg part.1 part.2 acc.2
        (acc.1 + v * 2 ^ (8 * (part.1 - off)), s)) (0, s)

/-! ### The CLASP page and FAB_SEAL -/

/-- 64-bit write-only registers written by halves: the low half of FAB_SEAL, CLASP_DATA and CLASP_ARM waits for the high one, and
CLASP_OPEN, CLASP_CANCEL and CLASP_CONFIRM act by their low half alone (R5 leaves open which half acts). DESIGN CHOICE (log entry 5). -/
def latched (off : Nat) : Bool := decide (off = 0x50 ∨ off = 0x2050 ∨ off = 0x2058)

/-- The word a write completes, if it does, and the latch it leaves. DESIGN CHOICE (log entry 5). -/
def joinHalves (m : Master) (ro mask data : Nat) (s : State) : Option Nat × State :=
  let k := masterNum m * 2 ^ 24 + ro
  if !mask.testBit 32 then (none, { s with halves := spSet (0, 0) s.halves k (1, data % 2 ^ 32) })
  else if mask.testBit 0 then (some data, s)
  else
    let (_, low) := spGet (0, 0) s.halves k
    (some (data / 2 ^ 32 * 2 ^ 32 + low), { s with halves := spDel s.halves k })

/-- A performed write of the CLASP page's basic region. -/
def writeClasp (m : Master) (ro mask data : Nat) (s : State) : State :=
  let low := mask.testBit 0
  match ro with
  | 0x40 => if low then claspOpenWrite data s else s
  | 0x60 => if low && data.testBit 0 then claspCancelDo (if m = .mgt then 1 else 2) s else s
  | 0x68 => if low then claspConfirmDo data s else s
  | 0x50 => claspStageDo data s
  | 0x58 => claspArmDo data s
  | _ => storeReg ⟨.clasp, 0, 0x2000⟩ ro false mask data s

/-! ### Writes -/

/-- A write to the status region or a header register by the proposer: W1C bits and counter presets (R51). DESIGN CHOICE (log entry 76). -/
def writeStatus (m : Master) (pg : Page) (o size data : Nat) (s : State) : State :=
  let w := regWidth pg o
  let ro := o / w * w
  let mask := maskOf pg o size
  let d := dataOf pg o data &&& mask
  if m ≠ .mgt ∨ !answers s pg ro then s
  else
    match counterAt pg o with
    | some c => writeCounter m pg (viewSel s m pg.base) c o size data s
    | none =>
      match pg.kind, ro with
      | .clasp, 0x800 =>
        updClasp (fun c => { c with late := c.late && !d.testBit 31, seqRej := c.seqRej && !d.testBit 30 }) s
      | .sampler, 0x800 => if d.testBit 11 then updSamp (Fin.ofNat 4 pg.inst) (fun x => { x with wrap := false }) s else s
      | _, _ =>
        let fs := (fieldsAt pg ro).filter fun f => f.acc = .w1c
        let off := pg.base + ro
        regSet off (word (mergeFields fs false mask (regGet s off).toNat d)) s

/-- A PG_CTRL write (R409 row 4): the view fields in any mode, EXPERT_EN judged alone. DESIGN CHOICE (log entry 48). -/
def writeCtrl (m : Master) (pg : Page) (off data : Nat) (s : State) : State :=
  if !mayReadPage s m pg then violate m off s
  else
    let s := setView m pg (nbits 23 16 data) (data.testBit 8) s
    if data.testBit 0 == expertEn s pg.base then s
    else if mayExpert s m pg then setExpert pg (data.testBit 0) s
    else violate m off s

/-- The bits of a FAB_CMD write a master may make (R408). -/
def cmdBits (m : Master) (data : Nat) : Nat := if m = .pfc then data &&& 0x30 else data

/-- A write that R409 performs. -/
def writePerform (m : Master) (pg : Page) (o size data : Nat) (s : State) : State :=
  let ro := o / regWidth pg o * regWidth pg o
  let mask := maskOf pg o size
  let d := dataOf pg o data
  let clOk := decide (kindClass pg.kind = .clasp)
  let cs := decide (pg.kind = .clasp) && decide (regionOf o = .basic)
  if latched (pg.base + ro) then
    let (w, s) := joinHalves m (pg.base + ro) mask d s
    match w with
    | none => s
    | some v => if cs then writeClasp m ro (2 ^ 64 - 1) v s else performWrite m pg 0 false clOk false ro 8 v s
  else if cs then writeClasp m ro mask d s
  else
    performWrite m pg (viewSel s m pg.base) (viewBank s m pg.base) clOk false o size
      (if pg.kind = .global ∧ ro = 0x48 then cmdBits m data else data) s

/-- The seal's checker runs: writes to the window are ignored (R383). -/
def writesHeld (s : State) : Bool := decide (s.ms.checking = some .seal)

/-- A judged write of one part (R409). While the seal's checker runs every write is ignored (R383), a PG_CTRL view write of R47 with
them. DESIGN CHOICE (log entry 48). -/
def writePart (m : Master) (pg : Page) (off size data : Nat) (s : State) : State :=
  let o := inPage pg off
  let r := regionOf o
  if writesHeld s then s
  else if s.ms.mode = .drain ∧ (r = .basic ∨ r = .expert ∨ r = .tables) then s
  else if o = 0x10 then writeCtrl m pg off data s
  else if s.ms.mode = .load ∧ m ≠ .mgt then violate m off s
  else
    match r with
    | .header | .reserved | .status => writeStatus m pg o size data s
    | .mirror => if mayWrite s m pg o then s else violate m off s
    | _ => if mayWrite s m pg o then writePerform m pg o size data s else violate m off s

/-- A proposer's write in LOAD enters the running CRC, FAB_SEAL and FAB_CMD apart (R381). -/
def foldLoad (m : Master) (off size data : Nat) (s : State) : State :=
  if s.ms.mode = .load && decide (m = .mgt) && decide (size = 4 ∨ size = 8) && !decide (0x48 ≤ off ∧ off < 0x58) && !writesHeld s then
    { s with ms := { s.ms with
        crcReg := BitVec.ofNat 32 (crc32cRun s.ms.crcReg.toNat (recordWord off size (data % 2 ^ (8 * size))) 96)
        records := s.ms.records + 1 } }
  else s

/-- A write access (R409). DEDUCED (log entry 47). -/
def writeAccess (m : Master) (off size data : Nat) (s : State) : State :=
  let s := foldLoad m off size data s
  if !sizeOk off size then violate m off s
  else
    match pageOf off with
    | none => s
    | some pg =>
      (accessParts pg off size).foldl (fun s part =>
        writePart m pg part.1 part.2 (data / 2 ^ (8 * (part.1 - off)) % 2 ^ (8 * part.2)) s) s

/-! ### Accesses as the masters make them -/

/-- A timed-out access is counted (R406). DEDUCED (log entry 46). -/
def timeoutCount (m : Master) (s : State) : State := count toOff (regPut toOff 63 61 (masterNum m) s)

/-- A read, a write of the word at o reaches it: it is neither a violation nor ignored (R409). -/
def reachesRead (s : State) (m : Master) (pg : Page) (o : Nat) : Bool := mayRead s m pg o
def reachesWrite (s : State) (m : Master) (pg : Page) (o : Nat) : Bool :=
  let r := regionOf o
  let low := decide (r = .header ∨ r = .reserved ∨ r = .status)
  !writesHeld s && (low || decide (s.ms.mode ≠ .drain)) && (if low then decide (m = .mgt) else mayWrite s m pg o) &&
    (decide (m = .mgt) || decide (s.ms.mode ≠ .load))

/-- What ECC finds in the word an access reaches. DEDUCED (log entry 52). -/
def eccAt (e : Ecc) (wr : Bool) (m : Master) (off size : Nat) (s : State) : State :=
  if !sizeOk off size then s
  else
    match pageOf off with
    | none => s
    | some pg =>
      let o := inPage pg off
      let reached := if wr then reachesWrite s m pg o else reachesRead s m pg o
      if reached && answers s pg (o / regWidth pg o * regWidth pg o) then
        eccFound e pg o (viewSel s m pg.base) (viewBank s m pg.base) s
      else s

/-- A granted access takes effect: a write and its acknowledgement (R403), a read and the value its master receives. -/
def performAccess (a : Access) (s : State) : State :=
  let s := eccAt a.ecc a.wr a.m a.off a.size s
  if a.wr then emit (.ack a.m) (writeAccess a.m a.off a.size a.data s)
  else
    let (v, s) := readAccess a.m a.off a.size s
    emit (.readData a.m (word v)) s

/-- Withheld accesses are granted, oldest first, once no set that applies holds them back (R55). -/
def grantHeld (s : State) : State :=
  let l := s.withheld
  forEach l performAccess { s with withheld := [] }

/-- An access reaches the matrix: none answers without power (R372) or under a held reset (R368), it is withheld while a clasp set applies
to its page (R55, R418), and else it is granted, after those withheld for a set that is gone. DESIGN CHOICE (log entry 58). -/
def matrixAccess (a : Access) (s : State) : State :=
  if coreIsOff s then s
  else if matrixHeldReset s then emit (if a.wr then .ack a.m else .readData a.m 0) (timeoutCount a.m s)
  else if claspHolds s a.off then { s with withheld := s.withheld ++ [a] }
  else performAccess a (if s.clasp.state = .armed then s else grantHeld s)

/-- A write of master m. DESIGN CHOICE (log entry 58). -/
def matrixWrite (m : Master) (off size data : Nat) (e : Ecc) (s : State) : State :=
  matrixAccess { m := m, off := off, size := size, wr := true, data := data, ecc := e } s

/-- A read of master m. DESIGN CHOICE (log entry 58). -/
def matrixRead (m : Master) (off size : Nat) (e : Ecc) (s : State) : State :=
  matrixAccess { m := m, off := off, size := size, wr := false, data := 0, ecc := e } s

/-- CLASP_APPLY: the entry launches, and the accesses that waited for it see what it applied (R55, R418). DESIGN CHOICE (log entry 58). -/
def claspApplyDo (s : State) : State :=
  let s := launch (nextGlobal s 9) (fun _ => claspLaunch) s
  if s.clasp.state = .armed then s else grantHeld s

/-- An access that times out (R406): dropped, or begun and completed with its completion discarded. DESIGN CHOICE (log entry 1). -/
def accessTimeoutDo (m : Master) (off size : Nat) (wr : Bool) (data : Nat) (s : State) : State :=
  if coreIsOff s then s
  else
    let (begun, s) := takeFreeBit s
    let s := timeoutCount m s
    let s := if !begun || matrixHeldReset s then s
      else if wr then writeAccess m off size data s else (readAccess m off size s).2
    if wr then emit (.ack m) s else emit (.readData m 0) s

end Sys2Proof.Machine
end

