-- ==== Sys2Proof/Machine/LaneReceive.lean ====
section
/-! DEFINITION. What a strand's receiver makes of the UI of its lanes: inversion, stuff bits or FEC and precoding, block lock,
descrambling, the lane-aligned group and its elastic buffer, and the stream rebuilt from it (R265 to R281, R286 to R289, R294 to R296,
R301, R307, R308, R324). -/

namespace Sys2Proof.Machine

/-! ### One lane -/

/-- How a physical lane is received: its complex, whether it is inverted, its logical lane where the lane map is found, whether it holds
block lock, and whether a codeword after a MARKER with TRAIN = 0 is precoded. -/
structure LaneCfg where
  cxB    : Bool
  inv    : Bool
  l      : Option (Fin 8)
  locked : Bool
  pre    : Bool
deriving DecidableEq, Repr

/-- What has come of some UI of a lane: events counted in SL_CNT, and whether block lock is lost (R272, R273, R281). -/
structure LaneNote where
  stuff : Nat := 0
  corr  : Nat := 0
  unc   : Nat := 0
  lost  : Bool := false
deriving DecidableEq, Repr

/-- A block as received that its sender did not scramble: a MARKER by TYPE and SYNC, the others by the whole block (R270, R275). DESIGN
CHOICE (log entry 94). -/
def rawMarker (b : Block) : Bool := decide (blkH b = 2) && decide (blkType b = tyMARKER) && decide (blkFld b 71 8 = markerSync)
def rawPlain (b : Block) : Bool := rawMarker b || decide (b = patBlock tyFILLER) || decide (b = patBlock tyCAL) || decide (b = patBlock tySTBY)

/-- A block leaves the descrambler of logical lane l, and the register after it (R268 to R270, R295). -/
def descrBlock (l : Nat) (r : BitVec 31) (b : Block) : Block × BitVec 31 :=
  if rawPlain b then (b, if rawMarker b then laneSeed l else r)
  else
    let (p, r) := scrXor 256 r (blkP b)
    (BitVec.ofNat 258 (at' (blkH b) 256 + p), r)

/-- A header that no block has (R267). -/
def badHeader (b : Block) : Bool := decide (blkH b ≠ 1 ∧ blkH b ≠ 2)

/-- A lane has received a block: its header counts (R273), and descrambled it joins those that wait for the other lanes. -/
def laneBlock (g : LaneCfg) (b : Block) (bad : Bool) (x : LaneRx) (o : LaneNote) : LaneRx × LaneNote :=
  let hist := (x.hist <<< 1) ||| (if badHeader b then 1#64 else 0#64)
  let o := { o with lost := o.lost || decide (8 ≤ popCount 64 hist.toNat) }
  let x := { x with hist := hist, stby := if rawMarker b then x.stby else decide (b = patBlock tySTBY) }
  match g.l with
  | none => (x, o)
  | some l =>
    let (c, r) := descrBlock l.val x.scr b
    ({ x with scr := r, q := x.q ++ [(c, bad)] }, o)

/-- The MARKER with TRAIN = 0 that starts precoding stands among these blocks (R301). -/
def startsPre (bs : List Block) : Bool := bs.any fun b => rawMarker b && decide (blkFld b 75 75 = 0)

/-- The ten blocks of a codeword's bits. -/
def cwBlocks (bits : List Bool) : List Block := (List.range 10).map fun k => bitsBlock ((bits.drop (258 * k)).take 258)

/-- A lane has received a codeword (R281). -/
def laneCodeword (g : LaneCfg) (x : LaneRx) (o : LaneNote) : LaneRx × LaneNote :=
  let syms := bitsSyms 272 ((List.range 2720).map x.acc.testBit)
  let (fixed, k) := match rsDecode syms with | some (c, k) => (c, some k) | none => (syms, none)
  let bs := cwBlocks (symsBits (fixed.take 258))
  let unc := if k.isNone then x.unc + 1 else 0
  let o := { o with corr := o.corr + k.getD 0, unc := o.unc + b2n k.isNone, lost := o.lost || decide (8 ≤ unc) }
  let go := g.pre && !x.pre && startsPre bs
  let x := { x with acc := 0, cnt := 0, unc := unc, pre := x.pre || go, y := if go then 0 else x.y }
  bs.foldl (fun a b => laneBlock g b k.isNone a.1 a.2) (x, o)

/-- A bit of a complex A lane (R272). -/
def laneBit (g : LaneCfg) (b : Bool) (x : LaneRx) (o : LaneNote) : LaneRx × LaneNote :=
  let (u, viol, run) := unstuffBit x.run b
  let x := { x with run := run }
  let o := { o with stuff := o.stuff + b2n viol }
  let x := { x with bad := x.bad || viol }
  match u with
  | none => (x, o)
  | some v =>
    if !g.locked then (x, o)
    else
      let acc := x.acc + at' (b2n (v != g.inv)) x.cnt
      if x.cnt < 257 then ({ x with acc := acc, cnt := x.cnt + 1 }, o)
      else laneBlock g (bitsBlock ((List.range 258).map acc.testBit)) x.bad { x with acc := 0, cnt := 0, bad := false } o

/-- A level of a complex B lane (R279, R280): inverted, its MSB is flipped. -/
def laneLevel (g : LaneCfg) (u : Nat) (x : LaneRx) (o : LaneNote) : LaneRx × LaneNote :=
  if !g.locked then (x, o)
  else
    let z := if g.inv then 3 - u % 4 else u % 4
    let v := if x.pre then (z + x.y) % 4 else z
    let acc := x.acc + at' (bitsNat (pamBits v)) x.cnt
    let x := { x with y := z, acc := acc, cnt := x.cnt + 2 }
    if x.cnt < 2720 then (x, o) else laneCodeword g x o

/-- One UI of a lane: the density of transitions over 4,096 UI (R307), and the bit or level it carries. -/
def laneUi (g : LaneCfg) (a : LaneRx × LaneNote) (u : Nat) : LaneRx × LaneNote :=
  let x := { a.1 with win := (2 * a.1.win + b2n (decide (u ≠ a.1.ui))) % 2 ^ 4096, ui := u }
  if g.cxB then laneLevel g u x a.2 else laneBit g (decide (u ≠ 0)) x a.2

/-- The DFE trim stands still: fewer than 128 transitions in 4,096 UI, or STBY blocks (R307). -/
def dfeFrozen (x : LaneRx) : Bool := decide (popCount 4096 x.win < 128) || x.stby

/-- The DFE trim of a lane moves, where it is not frozen. -/
def dfeMove (n : Fin 10) (p : Fin 8) (s : State) : State :=
  if dfeFrozen (phyOf s n).rx[p] then s
  else
    updPhy n (fun x => { x with rx := x.rx.set p { x.rx[p] with trim := Config.dfeTrim s.freeCtr } }) (useFree s)

/-- The lane map is found, and blocks go on to the other lanes. -/
def mapped (st : Stage) : Bool := match st with | .deskew | .preset | .config | .active => true | _ => false

/-- How a lane is received now. On complex B, BITLOCK has found the polarity that POLARITY confirms (R293, R294). -/
def laneCfg (s : State) (n : Fin 10) (p : Fin 8) : LaneCfg :=
  let x := phyOf s n
  { cxB := decide (8 ≤ n.val), inv := if 8 ≤ n.val then x.polB.getLsbD p.val else decide (x.stage ≠ .polarity) && x.polInv.getLsbD p.val
    l := if mapped x.stage then some (logicalOf x p) else none, locked := x.locked.getLsbD p.val
    pre := decide (8 ≤ n.val) && x.preOk && (match x.tcb with | some t => t.precodeOk | none => false) }

/-- The UI of a lane come in. In DEEP the receiver is off (R312). -/
def laneUis (n : Fin 10) (a : Fin 8 × List Nat) (s : State) : State :=
  let x := phyOf s n
  if x.rxPwr = .deep && x.deepAt.isNone then s
  else
    let (y, o) := a.2.foldl (laneUi (laneCfg s n a.1)) (x.rx[a.1], {})
    let s := updPhy n (fun x => { x with rx := x.rx.set a.1 y }) s
    let s := countN (scOff n.val 14) o.stuff (countN (scOff n.val 15) o.corr (countN (scOff n.val 16) o.unc s))
    let s := dfeMove n a.1 s
    if o.lost then lockLossDo n (BitVec.ofNat 3 a.1.val) s else s

/-! ### The stream (R266, R274, R276, R324) -/

/-- A stream block, and whether it is marked bad: a control block goes to what it is for and ends the container in progress; data blocks
make containers of three. One with an invalid header is discarded, and where it stood the container is spoilt. DESIGN CHOICE
(log entry 94). -/
def streamIn (n : Fin 10) (synced : Bool) (b : Block) (bad : Bool) (s : State) : State :=
  if blkH b = 2 then
    let s := updPhy n (fun x => { x with frame := [] }) s
    if !blkGood b then countStrand n 13 s
    else if blkType b = tyLCTL then (if blkFld b 11 8 = 1 then lctlReqDo n b s else lctlAnswerDo n b s)
    else if blkType b = tyTSYNC then tsyncDo n b synced s
    else if blkType b = tyTREQ then treqDo n b s
    else if blkType b = tyTRESP then trespDo n b s
    else s
  else
    let s := if badHeader b then countStrand n 13 s else s
    let f := (phyOf s n).frame ++ [(blkP b, bad || badHeader b)]
    if f.length < 3 then updPhy n (fun x => { x with frame := f }) s
    else
      let c := BitVec.ofNat 768 (f.zipIdx.map fun x => at' x.1.1 (256 * x.2)).sum
      receiveDo n c (f.any (·.2)) (updPhy n (fun x => { x with frame := [] }) s)

/-! ### The lane-aligned group (R287, R296) -/

/-- A block of a logical lane at one position of the group, and whether it is marked bad. -/
abbrev Row := List (Fin 8 × Block × Bool)

def rowOf (t : Nat) (r : Row) : Row := r.filter fun x => decide (blkH x.2.1 = 2) && decide (blkType x.2.1 = t)

/-- Lane-local types (R274). -/
def laneLocal (b : Block) : Bool :=
  decide (blkH b = 2) && decide (blkType b ∈ [tyFILLER, tyMARKER, tyCAL, tyTS, tyTCB, tySTBY])

/-- The elastic buffer at a FILLER, or at a TS or TCB in training: how often the block leaves it. It is deleted where the buffer holds too
much and repeated where it holds too little. -/
def elastic (n : Fin 10) (s : State) : Nat × State :=
  let x := phyOf s n
  if x.cr ∨ x.buf = 0 then (1, s)
  else if 0 < x.buf then (0, updPhy n (fun x => { x with buf := x.buf - 1 }) s)
  else (2, updPhy n (fun x => { x with buf := x.buf + 1 }) s)

/-- A MARKER on a lane in ACTIVE that shows a LANE or an MCNT other than the one expected (R273). -/
def wrongMarker (x : PhySt) (a : Fin 8 × Block × Bool) : Bool :=
  decide (blkFld a.2.1 74 72 ≠ a.1.val) ||
    (match x.rxMcnt with | some m => decide (markerCnt a.2.1 ≠ m + 1) | none => false)

/-- The markers of a position. Those with a bad CRC count; the strand follows that of the lowest lane. -/
def markerRow (n : Fin 10) (r : Row) (s : State) : State :=
  let good := r.filter fun a => isMarker a.2.1
  let s := forEach (r.filter fun a => !isMarker a.2.1) (fun _ => countStrand n 13) s
  let x := phyOf s n
  match good, good.find? (wrongMarker x) with
  | [], _ => s
  | a :: _, w =>
    match w with
    | some b => if x.stage = .active && x.deepAt.isNone then losDo n (BitVec.ofNat 3 (physicalOf x b.1).val) s else markerDo n a.2.1 s
    | none => markerDo n a.2.1 s

/-- The TS or TCB of the lowest lane of a position, as often as it leaves the elastic buffer. -/
def trainRow (n : Fin 10) (b : Block) (s : State) : State :=
  let (k, s) := elastic n s
  forEach (List.range k) (fun _ => tsTcbDo n b) s

/-- The set that the received stream stands on (R266, R316). -/
def rxSet (x : PhySt) (l : Fin 8) : Bool :=
  decide (x.stage = .active) && decide (x.rxPwr = .active) && !deepExit x && (laneSet x.rxWidth x.rxGroup).testBit l.val

/-- One position of the group: lane-local blocks are taken out, the others go on in ascending logical order. -/
def rowIn (n : Fin 10) (synced : Bool) (r : Row) (s : State) : State :=
  let x := phyOf s n
  let marks := rowOf tyMARKER r
  let train := rowOf tyTS r ++ rowOf tyTCB r
  let used := r.filter fun a => rxSet x a.1
  let s := if !used.isEmpty && used.all (fun a => decide (a.2.1 = patBlock tyFILLER)) then (elastic n s).2 else s
  let s := forEach ((rowOf tyCAL r).filter fun a => decide (a.2.1 = patBlock tyCAL)) (fun a => recentre n (physicalOf x a.1)) s
  let s := if marks.isEmpty then s else markerRow n marks s
  let s := match train with | [] => s | a :: _ => trainRow n a.2.1 s
  forEach (used.filter fun a => !laneLocal a.2.1) (fun a => streamIn n synced a.2.1 a.2.2) s

/-- The logical lanes held locked, and the oldest block that waits on one. -/
def lockedLanes (x : PhySt) : List (Fin 8) := (List.finRange 8).filter fun l => x.locked.getLsbD (physicalOf x l).val
def headBlock (x : PhySt) (l : Fin 8) : Option (Fin 8 × Block × Bool) := (x.rx[physicalOf x l].q.head?).map fun b => (l, b)

/-- The positions that have come in on every locked lane. -/
def rowsIn (fuel : Nat) (n : Fin 10) (synced : Bool) (s : State) : State :=
  match fuel with
  | 0 => s
  | k + 1 =>
    let x := phyOf s n
    let ls := lockedLanes x
    let r := ls.filterMap (headBlock x)
    if !x.aligned ∨ ls.isEmpty ∨ r.length < ls.length then s
    else rowsIn k n synced (rowIn n synced r (updPhy n (fun x => { x with rx := x.rx.map fun y => { y with q := y.q.tail } }) s))

/-- The UI of a strand's lanes come in. -/
def stripIn (n : Fin 10) (synced : Bool) (drift : Int) (uis : List (Fin 8 × List Nat)) (s : State) : State :=
  let s := forEach uis (laneUis n) (updPhy n (fun x => { x with buf := x.buf + drift }) s)
  rowsIn ((phyOf s n).rx.toList.foldl (fun m y => max m y.q.length) 0) n synced s

/-- A block, or what comes in on the lanes. -/
def rxDo (n : Fin 10) (f : Block → State → State) (rx : RxIn) (s : State) : State :=
  match rx with
  | .block b => f b s
  | .lanes drift uis => stripIn n s.strands[n].lnk.pSync drift uis s

/-- A TSYNC, or what comes in on the lanes with what the partner reports of its time (R143). -/
def rxTsync (n : Fin 10) (synced : Bool) (rx : RxIn) (s : State) : State :=
  match rx with
  | .block b => tsyncDo n b synced s
  | .lanes drift uis => stripIn n synced drift uis s

/-- A container, or what comes in on the lanes. -/
def rxCtnr (n : Fin 10) (rx : RxCtnr) (bad : Bool) (s : State) : State :=
  match rx with
  | .whole c => receiveDo n c bad s
  | .lanes drift uis => stripIn n s.strands[n].lnk.pSync drift uis s

end Sys2Proof.Machine
end

