-- ==== Sys2Proof/Machine/Sequencer.lean ====
section
/-! DEFINITION. The sequencer (R338 to R342), and the drain's rule for REQs that arrive from a strand (R387). -/

namespace Sys2Proof.Machine

/-- The stream of a packet from a strand: a transit DAT packet's is its companion's (R89, R340). -/
def flitStream (f : Flit) : Nat := streamKey f.srcdev.toNat (if f.net = .dat then b2n f.cnet else streamNum f.net)

def rxQ (s : State) (n : Fin 10) (k : Nat) : List RxFlit := spGet [] (lnkOf s n).rx k
def rxPut (n : Fin 10) (k : Nat) (l : List RxFlit) (s : State) : State := updLnk n (fun x => { x with rx := spSet [] x.rx k l }) s

/-- Take entry i out of a receive buffer. -/
def rxTake (n : Fin 10) (k i : Nat) (s : State) : State := rxPut n k ((rxQ s n k).eraseIdx i) s

/-- A discarded packet frees its flit (R332). -/
def rxDrop (n : Fin 10) (k : Nat) (r : RxFlit) (s : State) : State := if r.old then s else rxFree n k s

/-! ### Release into the mesh -/

/-- A REQ for this device that the strand port answers FENCED in DRAIN (R387). -/
def drainFenced (s : State) (f : Flit) : Bool :=
  let o := f.opc.toNat
  decide (s.ms.mode = .drain) && decide (f.net = .req) && decide (f.dstdev = ownDev s) && decide (o ≠ opWBD ∧ o ≠ opBABANDON) &&
    !isFwd f && !(decide (o = opLKCOMMIT ∨ o = opLKABORT) && decide (f.src.toNat = 22 ∨ f.src.toNat = 70))

/-- A packet goes from its receive buffer to the strand port's fabric half. -/
def rxRelease (n : Fin 10) (k : Nat) (r : RxFlit) (s : State) : State :=
  let p := strandP n
  let f := r.flit
  if drainFenced s f then
    let s := answerFrom p f rspERR errFENCED 0 (rxDrop n k r s)
    if compCount f = 0 then s
    else updPort p (fun x => { x with refused := { flit := f, left := awaitBits f, drop := true } :: x.refused }) s
  else
    match (if f.net = .dat then s.ports[p].refused.find? fun a => pairs a.flit f && awaitTakes a f else none) with
    | some a => rxDrop n k r (updPort p (fun x => { x with refused := awaitDone a f x.refused }) s)
    | none => recredit p (strandOffer p f (if r.old then none else some k) s)

/-- A packet can go: it is answered or discarded here, or the strand port, as a unit, holds a credit of its class (R193, R194). -/
def rxCan (n : Fin 10) (f : Flit) (s : State) : Bool :=
  let x := s.ports[strandP n]
  drainFenced s f || (decide (f.net = .dat) && x.refused.any fun a => pairs a.flit f && awaitTakes a f) || decide (0 < injHeld x f.net f.cls)

/-! ### Streams (R340, R341) -/

def seqNext (s : State) (key : Nat) : Nat := spGet 0 s.seqr.next key
def seqMap (s : State) (key : Nat) : List Nat := spGet [] s.seqr.map key
def updSeq (f : SeqSt → SeqSt) (s : State) : State := { s with seqr := f s.seqr }

/-- Places of the packets of a stream held by the sequencer. -/
def heldAt (s : State) (key : Nat) : List (Fin 10 × Nat × Nat × RxFlit) :=
  (List.finRange 10).flatMap fun n => bufKeys.flatMap fun k =>
    ((rxQ s n k).zipIdx.filter fun r => r.1.held && decide (flitStream r.1.flit = key)).map fun r => (n, k, r.2, r.1)

/-- NEXT moves past its value. -/
def nextOn (key : Nat) (s : State) : State :=
  updSeq (fun q => { q with next := spSet 0 q.next key ((spGet 0 q.next key + 1) % 2 ^ 16)
                            map := spSet [] q.map key ((spGet [] q.map key).erase (spGet 0 q.next key)) }) s

/-- A release of this stream through strand n must wait for the handover (R341). -/
def handoverWaits (s : State) (key : Nat) (n : Fin 10) : Bool :=
  let on := spGet 0 s.seqr.lastOn key
  decide (on ≠ 0) && decide (on ≠ n.val + 1) && decide (s.clk.cyc < spGet 0 s.seqr.lastAt key + cycUs 2)

/-- Release, in order, what NEXT reaches. -/
def seqPump (fuel key : Nat) (s : State) : State :=
  match fuel with
  | 0 => s
  | m + 1 =>
    if !(seqMap s key).contains (seqNext s key) then s
    else
      match (heldAt s key).find? fun h => decide (h.2.2.2.flit.e2seq.toNat = seqNext s key) with
      | none => seqPump m key (nextOn key s)
      | some (n, k, i, r) =>
        if handoverWaits s key n || !rxCan n r.flit s then s
        else
          let s := rxRelease n k r (rxTake n k i s)
          let s := updSeq (fun q => { q with lastOn := spSet 0 q.lastOn key (n.val + 1), lastAt := spSet 0 q.lastAt key s.clk.cyc }) s
          seqPump m key (nextOn key s)

/-- The gap timer runs while a missing value holds NEXT and later values wait; it starts again where NEXT has moved. -/
def gapTimer (key old : Nat) (s : State) : State :=
  let waits := !(seqMap s key).contains (seqNext s key) && !(heldAt s key).isEmpty
  let was := spGet 0 s.seqr.gapAt key
  let v := if !waits then 0 else if was = 0 ∨ seqNext s key ≠ old then s.clk.cyc + 1 else was
  updSeq (fun q => { q with gapAt := spSet 0 q.gapAt key v }) s

/-- Release what can be released, and follow the gap timer. DEDUCED (log entry 67). -/
def seqRun (key : Nat) (s : State) : State :=
  let old := seqNext s key
  gapTimer key old (seqPump ((seqMap s key).length + 1) key s)

/-- Outcomes of R340 for the unexamined packet i of a buffer. DEDUCED (log entry 67). -/
def seqArrive (n : Fin 10) (k i : Nat) (r : RxFlit) (s : State) : State :=
  let f := r.flit
  let key := flitStream f
  let e := f.e2seq.toNat
  let d := (e + 2 ^ 16 - seqNext s key) % 2 ^ 16
  let mark := updSeq (fun q => { q with map := spSet [] q.map key (e :: spGet [] q.map key) })
  let hold := rxPut n k ((rxQ s n k).modify i (fun r => { r with held := true })) (mark s)
  if 32768 ≤ d ∨ (d < 4096 ∧ (seqMap s key).contains e) then countStrand n 18 (rxDrop n k r (rxTake n k i s))
  else if 4096 ≤ d then s
  else if f.cls = .gt then
    if !rxCan n f s then s else
    let s := rxRelease n k r (rxTake n k i (mark s))
    seqRun key (updSeq (fun q => { q with lastOn := spSet 0 q.lastOn key (n.val + 1), lastAt := spSet 0 q.lastAt key s.clk.cyc }) s)
  else if d = 0 then seqRun key hold
  else gapTimer key (seqNext s key) (countStrand n 19 hold)

/-- SEQUENCER_ARRIVAL: the first packet of a receive buffer not yet examined. -/
def arrivalDo (n : Fin 10) (net : Net) (buf : Fin 3) (s : State) : State :=
  let k := netNum net * 3 + buf.val
  match (rxQ s n k).findIdx? fun r => !r.held with
  | none => s
  | some i =>
    match (rxQ s n k)[i]? with
    | none => s
    | some r =>
      if !portEn s.ports[strandP n] then s
      else
        let s := advanceTo r.arrived s
        if r.flit.dstdev ≠ ownDev s then (if rxCan n r.flit s then rxRelease n k r (rxTake n k i s) else s)
        else if spGet 0 s.seqr.peer r.flit.srcdev.toNat ≠ 1 then rxDrop n k r (rxTake n k i s)
        else seqArrive n k i r s

/-- An injection at a strand port may give the credit that a packet next in order waits for. -/
def injectThen (p : Fin 96) (f : State → State) (s : State) : State :=
  let s := f s
  if isStrandPort p.val then
    forEach ((List.range 96).filter fun k => (seqMap s k).contains (seqNext s k)) seqRun s
  else s

/-- SEQ_HANDOVER_RELEASE: 2 us after the previous release. -/
def handoverDo (key : Nat) (s : State) : State :=
  match (heldAt s key).find? fun h => decide (h.2.2.2.flit.e2seq.toNat = seqNext s key) with
  | none => s
  | some _ => seqRun key (advanceTo (spGet 0 s.seqr.lastAt key + cycUs 2) s)

/-- The held packet of a stream that is next in order, by its strand. -/
def firstHeld (s : State) (key : Nat) : Option (Fin 10) :=
  let d := fun (h : Fin 10 × Nat × Nat × RxFlit) => (h.2.2.2.flit.e2seq.toNat + 2 ^ 16 - seqNext s key) % 2 ^ 16
  match heldAt s key with
  | [] => none
  | a :: r => some (r.foldl (fun b c => if d c < d b then c else b) a).1

/-- SEQ_GAP_SKIP. DEDUCED (log entry 67). -/
def gapDo (key : Nat) (s : State) : State :=
  let at' := spGet 0 s.seqr.gapAt key
  match firstHeld s key with
  | none => s
  | some n =>
    if at' = 0 then s
    else
      let s := countStrand n 20 (nextOn key (advanceTo (at' - 1 + cycUs 200) s))
      seqRun key (updSeq (fun q => { q with gapAt := spDel q.gapAt key }) s)

/-! ### E2ACK and SSYNC (R342) -/

/-- E2ACK_SEND: where any NEXT has advanced since the last. -/
def e2ackSendDo (d : Nat) (s : State) : State :=
  if [0, 1, 2].all fun k => decide (seqNext s (streamKey d k) = spGet 0 s.seqr.e2acked (streamKey d k)) then s
  else
    let s := sendDev d (mkMsg s 7 3 d 0xFFFFFFFF 0 (streamBody fun k => seqNext s (streamKey d k))) s
    let tell := fun (q : SeqSt) (m : Sparse Nat) (k : Nat) => spSet 0 m (streamKey d k) (spGet 0 q.next (streamKey d k))
    updSeq (fun q => { q with e2acked := List.foldl (tell q) q.e2acked [0, 1, 2] }) s

/-- Value k of the body of E2ACK, SSYNC or SSYNC_ACK. -/
def msgStream (m : Msg) (k : Nat) : Nat := msgFld m (71 + 16 * k) (56 + 16 * k)

/-- E2ACK_RECEIVE: each stream's acknowledged NEXT moves on, never back. DEDUCED (log entry 67). -/
def e2ackTake (s : State) : State :=
  match takeMsg 7 (fun _ => true) s with
  | (none, s) => s
  | (some m, s) =>
    let d := msgSrc m
    let on := fun (a : Sparse Nat) (k : Nat) =>
      let key := streamKey d k
      if (msgStream m k + 2 ^ 16 - spGet 0 a key) % 2 ^ 16 < 32768 then spSet 0 a key (msgStream m k) else a
    updSeq (fun q => { q with acked := List.foldl on q.acked [0, 1, 2] }) s

/-- Held packets of a device's streams are examined again. DEDUCED (log entry 67). -/
def unhold (d : Nat) (s : State) : State :=
  let free := fun (r : RxFlit) => if decide (r.flit.srcdev.toNat = d) then { r with held := false } else r
  forEach (List.finRange 10) (fun n => updLnk n fun x => { x with rx := x.rx.map (fun e => (e.1, e.2.map free)) }) s

/-- SSYNC_RECEIVE. -/
def ssyncTake (s : State) : State :=
  match takeMsg 8 (fun _ => true) s with
  | (none, s) => s
  | (some m, s) =>
    let d := msgSrc m
    let give := fun (a : Sparse Nat) => [0, 1, 2].foldl (fun a k => spSet 0 a (streamKey d k) (msgStream m k)) a
    let clr := fun (a : Sparse Nat) => [0, 1, 2].foldl (fun a k => spDel a (streamKey d k)) a
    let noMap := fun (a : Sparse (List Nat)) => [0, 1, 2].foldl (fun a k => spDel a (streamKey d k)) a
    let s := updSeq (fun q => { q with
      next := give q.next, e2acked := give q.e2acked, peer := spSet 0 q.peer d 1, gapAt := clr q.gapAt, map := noMap q.map }) s
    sendDev d (mkMsg s 9 3 d 0xFFFFFFFF 0 (streamBody (msgStream m))) (unhold d s)

/-- SSYNC_ACK_RECEIVE: the echo of the last SSYNC opens the streams, with the values it names acknowledged. -/
def ssyncAckTake (s : State) : State :=
  match takeMsg 9 (fun _ => true) s with
  | (none, s) => s
  | (some m, s) =>
    let d := msgSrc m
    if streamState s d ≠ 1 then s
    else
      let on := fun (a : Sparse Nat) (k : Nat) => spSet 0 a (streamKey d k) (msgStream m k)
      setStream d 2 (updSeq (fun q => { q with acked := List.foldl on q.acked [0, 1, 2] }) s)

end Sys2Proof.Machine
end

