-- ==== Sys2Proof/Machine/CommandOps.lean ====
section
/-! DEFINITION. What the commands share around the operations of the units: a command at a port slot, the launch of a hallmark by its
action, a register rewritten with one field changed, and the few commands that act on no unit of their own. -/

namespace Sys2Proof.Machine

/-- A command performed: nothing is driven from before, f is its effect, and the queue is as it was. -/
def performs (f : State → State) (s : State) : Host.Outcome State Fault Refusal :=
  .next { f (begin s) with pending := s.pending }

/-- A command of a fabric half; an empty slot has none (R20). -/
def portCmd (p : Fin 96) (f : State → State) (s : State) : Host.Outcome State Fault Refusal :=
  if usedPort p.val then performs f s else .fault .emptySlot

/-! ### Hallmarks (R152 to R155) -/

/-- The next entry of the global queue launches, if it is of this action. DESIGN CHOICE (log entry 12). -/
def launchGlobal (act : Nat) (effect : HmEntry → State → State) (s : State) : State := launch (nextGlobal s act) effect s

/-- The next entry of a tile's queue launches, if it is of this action. DESIGN CHOICE (log entry 12). -/
def launchTile (t : Fin 48) (act : Nat) (effect : HmEntry → State → State) (s : State) : State := launch (nextTile s t act) effect s

/-- Counters are frozen or run (R451). -/
def setFrozen (v : Bool) (s : State) : State := { s with cnt := { s.cnt with frozen := v } }

/-! ### Registers -/

/-- A 32-bit or 64-bit register written with its stored word changed: a command that sets one field leaves the others as they are.
DEDUCED (log entry 60). -/
def rewrite (m : Master) (off size : Nat) (f : Nat → Nat) (s : State) : State :=
  matrixWrite m off size (f (regGet s off).toNat) .clean s

/-- The fields of SL_CTRL that stand (R319); RETRAIN and SRESET do not. DEDUCED (log entry 60). -/
def slKept (w : Nat) : Nat := w &&& 0x371

/-- PG_CTRL of the page that holds an offset; in a hole, the offset's own word. -/
def ctrlOff (page : Nat) : Nat := match pageOf page with | some pg => pg.base + 0x10 | none => page / 4 * 4

/-- A PG_CTRL word (R45). -/
def ctrlWord (sel : Nat) (bank en : Bool) : Nat := at' sel 16 + at' (b2n bank) 8 + b2n en

/-- EXPERT_EN of the page that holds an offset, and the view the master has of it. -/
def expertAt (page : Nat) (s : State) : Bool := match pageOf page with | some pg => expertEn s pg.base | none => false
def selAt (m : Master) (page : Nat) (s : State) : Nat := match pageOf page with | some pg => viewSel s m pg.base | none => 0
def bankAt (m : Master) (page : Nat) (s : State) : Bool := match pageOf page with | some pg => viewBank s m pg.base | none => false

/-- A PG_CTRL write that changes the master's view only. -/
def viewWrite (m : Master) (page sel : Nat) (bank : Bool) (s : State) : State :=
  matrixWrite m (ctrlOff page) 4 (ctrlWord sel bank (expertAt page s)) .clean s

/-- A PG_CTRL write that leaves the master's view as it is. -/
def expertWrite (m : Master) (page : Nat) (en : Bool) (s : State) : State :=
  matrixWrite m (ctrlOff page) 4 (ctrlWord (selAt m page s) (bankAt m page s) en) .clean s

/-- RELAY_RESOLVE: the proposer selects the view of the entry and writes RESOLVE (R47, R259, R263). DEDUCED (log entry 59). -/
def relayResolveWrite (m : Master) (e : Fin 64) (r : Resolve) (s : State) : State :=
  let code := match r with | .commit => 1 | .abort => 2
  let s := matrixWrite m 0x4010 4 (ctrlWord (4 + e.val / 16) false (expertEn s 0x4000)) .clean s
  matrixWrite m (0x4C40 + 32 * (e.val % 16)) 8 (code * 2 ^ 62) .clean s

/-- The code of SL_CTRL.PWR_REQ, of SL_CTRL.WIDTH_REQ (R351). -/
def pwrCode (r : StrandPwr) : Nat := match r with | .active => 0 | .standby => 1 | .deep => 2
def widthCode (r : WidthReq) : Nat := match r with | .widest => 0 | .x4 => 1 | .x2 => 2

/-! ### Events of no unit of the model's -/

/-- With no command waiting, one TBCLK cycle passes (R138, log entry 11). DESIGN CHOICE (log entry 11). -/
def idleTick (s : State) : State := advance 2 (begin s)

/-- TIME_START: with time running, the device derives its root from its own values and what it has received (R145, R346). -/
def timeStartDo (s : State) : State :=
  if s.time.state = .unsynced && s.clk.rpll then poolAround id (timeStart s) else s

/-- A sample in flight reaches 65,536 cycles (R454). -/
def sampleExpire (n : Fin 4) (s : State) : State :=
  match s.samps[n].flight with
  | none => s
  | some x => smpTimeout n (advanceTo (x.1 + 65536) s)

/-- fai_rst_n falls: the port sees its peer down (R204). DEDUCED (log entry 57). -/
def resetFalls (p : Fin 96) (s : State) : State := peerDownDo p 1 (updPort p (fun x => { x with rstN := false }) s)

/-- home_stg_ue of a HOME changes by some steps, each an event of source 13 (R420). -/
def stagingSteps (ch : Fin 16) (steps : Nat) (s : State) : State :=
  let s := updPort (portF (homePort ch.val)) (fun x => { x with stgUe := x.stgUe + BitVec.ofNat 4 steps }) s
  forEach (List.range steps) (fun _ => fltGlobal srcStaging) s

/-- What LKSTAGE makes of the flit a unit offers (R241). -/
def stageFlit (f : Flit) : Flit := { f with net := .req, opc := 0x11 }

end Sys2Proof.Machine
end

