-- ==== Sys2Proof/Machine/FaultCommands.lean ====
section
/-! DEFINITION. The meanings of the commands of the faults. -/

namespace Sys2Proof.Machine

/-- FAULT_WINDOW_END (R424). -/
def execFaultWindowEnd (dom : Domain) (src : Fin 15) (s : State) : Host.Outcome State Fault Refusal :=
  performs (windowEndDo dom src) s

/-- QUIET_EXPIRE (R427). -/
def execQuietExpire (dom : Domain) (s : State) : Host.Outcome State Fault Refusal :=
  performs (quietExpireDo dom) s

/-- REACTION_COMPLETE (R426). -/
def execReactionComplete (dom : Domain) (s : State) : Host.Outcome State Fault Refusal :=
  performs (reactionDoneDo dom) s

/-- SHADOW_END (R432). -/
def execShadowEnd (dom : Domain) (s : State) : Host.Outcome State Fault Refusal :=
  performs (shadowEndDo dom) s

/-- FLT_ACKNOWLEDGE (R427). -/
def execFltAcknowledge (m : Master) (kind : BitVec 2) (inst : BitVec 7) (s : State) : Host.Outcome State Fault Refusal :=
  performs (matrixWrite m 0x3048 8 (256 * inst.toNat + 16 * kind.toNat + 1) .clean) s

/-- FLT_READMIT (R427). -/
def execFltReadmit (m : Master) (kind : BitVec 2) (inst : BitVec 7) (s : State) : Host.Outcome State Fault Refusal :=
  performs (matrixWrite m 0x3048 8 (256 * inst.toNat + 16 * kind.toNat + 2) .clean) s

/-- TILE_ISOLATE_CMD (R433). -/
def execTileIsolateCmd (m : Master) (tile : Fin 48) (s : State) : Host.Outcome State Fault Refusal :=
  performs (matrixWrite m (tilePage tile.val + 0x40) 4 1 .clean) s

/-- TILE_READMIT_CMD (R433). -/
def execTileReadmitCmd (m : Master) (tile : Fin 48) (s : State) : Host.Outcome State Fault Refusal :=
  performs (matrixWrite m (tilePage tile.val + 0x40) 4 2 .clean) s

/-- INJECTION_PERIOD_END (R436). -/
def execInjectionPeriodEnd (dom : Domain) (src : Fin 15) (s : State) : Host.Outcome State Fault Refusal :=
  performs (injEndDo dom src) s

/-- HOME_STAGING_ECC (R420). -/
def execHomeStagingEcc (ch : Fin 16) (steps : Nat) (s : State) : Host.Outcome State Fault Refusal :=
  performs (stagingSteps ch steps) s

end Sys2Proof.Machine
end

