-- ==== Sys2Proof/Machine/HallmarkCommands.lean ====
section
/-! DEFINITION. The meanings of the commands of the hallmarks and the planner. -/

namespace Sys2Proof.Machine

/-- HM_SUBMIT_AT_TIME (R151): HM_SUBMIT OP 1. -/
def execHmSubmitAtTime (m : Master) (s : State) : Host.Outcome State Fault Refusal :=
  performs (matrixWrite m 0x1058 8 1 .clean) s

/-- HM_SUBMIT_NEXT_FRAME (R152): HM_SUBMIT OP 2. -/
def execHmSubmitNextFrame (m : Master) (s : State) : Host.Outcome State Fault Refusal :=
  performs (matrixWrite m 0x1058 8 2 .clean) s

/-- HM_CANCEL (R151): HM_SUBMIT OP 3. -/
def execHmCancel (m : Master) (id : BitVec 9) (s : State) : Host.Outcome State Fault Refusal :=
  performs (matrixWrite m 0x1058 8 (256 * id.toNat + 3) .clean) s

/-- HM_SEND_TO_TILES (R153). -/
def execHmSendToTiles (e : Fin 32) (s : State) : Host.Outcome State Fault Refusal :=
  performs (hmSend e) s

/-- EPOCH_SWITCH (R131). -/
def execEpochSwitch (s : State) : Host.Outcome State Fault Refusal :=
  performs (launchGlobal 1 epochSwitchDo) s

/-- BEAD_SWAP (R176). -/
def execBeadSwap (s : State) : Host.Outcome State Fault Refusal :=
  performs (launchGlobal 2 (fun _ => beadSwapDo)) s

/-- CAMEO (R450). -/
def execCameo (s : State) : Host.Outcome State Fault Refusal :=
  performs (launchGlobal 3 (fun _ => takeCameo)) s

/-- FREEZE_ON (R451). -/
def execFreezeOn (s : State) : Host.Outcome State Fault Refusal :=
  performs (launchGlobal 4 (fun _ => setFrozen true)) s

/-- FREEZE_OFF (R451). -/
def execFreezeOff (s : State) : Host.Outcome State Fault Refusal :=
  performs (launchGlobal 5 (fun _ => setFrozen false)) s

/-- PORT_POWER_HALLMARK (R211). -/
def execPortPowerHallmark (tile : Fin 48) (s : State) : Host.Outcome State Fault Refusal :=
  performs (launchTile tile 6 (fun e => portPowerDo (portF e.target) e.arg)) s

/-- MODE_CHANGE (R380). -/
def execModeChange (s : State) : Host.Outcome State Fault Refusal :=
  performs (launchGlobal 7 (fun e => modeChangeDo e.arg)) s

/-- FAULT_INJECTION (R435). -/
def execFaultInjection (tile : Fin 48) (s : State) : Host.Outcome State Fault Refusal :=
  performs (launchTile tile 8 (fun e => injectDo losMask tile e.arg)) s

/-- CLASP_APPLY (R418). -/
def execClaspApply (s : State) : Host.Outcome State Fault Refusal :=
  performs claspApplyDo s

/-- EPOCH_DRAIN_DONE (R132). -/
def execEpochDrainDone (s : State) : Host.Outcome State Fault Refusal :=
  performs epochDrainedDo s

/-- EPOCH_DRAIN_OVERDUE (R132). -/
def execEpochDrainOverdue (s : State) : Host.Outcome State Fault Refusal :=
  performs drainOverdueDo s

/-- PLANNER_APPLY (R127). -/
def execPlannerApply (s : State) : Host.Outcome State Fault Refusal :=
  performs plannerApplyDo s

/-- PLANNER_RESUBMIT (R127). -/
def execPlannerResubmit (s : State) : Host.Outcome State Fault Refusal :=
  performs plannerResubmitDo s

end Sys2Proof.Machine
end

