-- ==== Sys2Proof/Machine/LinkCommands.lean ====
section
/-! DEFINITION. The meanings of the commands of the link layer of the strands and the sequencer. -/

namespace Sys2Proof.Machine

/-- CONTAINER_SEND (R328). -/
def execContainerSend (strand : Fin 10) (s : State) : Host.Outcome State Fault Refusal :=
  performs (sendDo strand) s

/-- CONTAINER_RECEIVE (R329). -/
def execContainerReceive (strand : Fin 10) (rx : RxCtnr) (bad : Bool) (s : State) : Host.Outcome State Fault Refusal :=
  performs (rxCtnr strand rx bad) s

/-- REPLAY_TIMEOUT (R331). -/
def execReplayTimeout (strand : Fin 10) (s : State) : Host.Outcome State Fault Refusal :=
  performs (replayDo strand) s

/-- ACKC_SEND (R330). -/
def execAckcSend (strand : Fin 10) (s : State) : Host.Outcome State Fault Refusal :=
  performs (ackcDo strand) s

/-- CREDIT_REFRESH (R332). -/
def execCreditRefresh (strand : Fin 10) (s : State) : Host.Outcome State Fault Refusal :=
  performs (creditDo strand) s

/-- CRC_WINDOW_END (R337). -/
def execCrcWindowEnd (strand : Fin 10) (s : State) : Host.Outcome State Fault Refusal :=
  performs (winEndDo strand) s

/-- FAILOVER_DONE (R339). -/
def execFailoverDone (strand : Fin 10) (s : State) : Host.Outcome State Fault Refusal :=
  performs (failoverEnd strand) s

/-- HELLO_SEND (R346). -/
def execHelloSend (strand : Fin 10) (s : State) : Host.Outcome State Fault Refusal :=
  performs (helloSendDo strand) s

/-- HELLO_TIMEOUT (R336). -/
def execHelloTimeout (strand : Fin 10) (s : State) : Host.Outcome State Fault Refusal :=
  performs (helloTimeoutDo strand) s

/-- SEQUENCER_ARRIVAL (R340). -/
def execSequencerArrival (strand : Fin 10) (net : Net) (buf : Fin 3) (s : State) : Host.Outcome State Fault Refusal :=
  performs (arrivalDo strand net buf) s

/-- SEQ_HANDOVER_RELEASE (R341). -/
def execSeqHandoverRelease (dev : Fin 32) (stream : Fin 3) (s : State) : Host.Outcome State Fault Refusal :=
  performs (handoverDo (3 * dev.val + stream.val)) s

/-- SEQ_GAP_SKIP (R341). -/
def execSeqGapSkip (dev : Fin 32) (stream : Fin 3) (s : State) : Host.Outcome State Fault Refusal :=
  performs (gapDo (3 * dev.val + stream.val)) s

/-- E2ACK_SEND (R342). -/
def execE2ackSend (dev : Fin 32) (s : State) : Host.Outcome State Fault Refusal :=
  performs (e2ackSendDo dev.val) s

/-- E2ACK_RECEIVE (R342). -/
def execE2ackReceive (s : State) : Host.Outcome State Fault Refusal :=
  performs e2ackTake s

/-- SSYNC_RECEIVE (R342). -/
def execSsyncReceive (s : State) : Host.Outcome State Fault Refusal :=
  performs ssyncTake s

/-- SSYNC_ACK_RECEIVE (R342). -/
def execSsyncAckReceive (s : State) : Host.Outcome State Fault Refusal :=
  performs ssyncAckTake s

end Sys2Proof.Machine
end

