-- ==== Sys2Proof/Machine/LocketCommands.lean ====
section
/-! DEFINITION. The meanings of the commands of the lockets. -/

namespace Sys2Proof.Machine

/-- LKOPEN (R240). -/
def execLkopen (port : Fin 96) (s : State) : Host.Outcome State Fault Refusal :=
  portCmd port (lkOpen port) s

/-- LKSTAGE (R241). -/
def execLkstage (port : Fin 96) (flit : Flit) (s : State) : Host.Outcome State Fault Refusal :=
  portCmd port (offerDo port (stageFlit flit)) s

/-- LKSTAGE_ANSWER (R258). -/
def execLkstageAnswer (s : State) : Host.Outcome State Fault Refusal :=
  performs lkStageAnswer s

/-- LKCOMMIT (R247). -/
def execLkcommit (port : Fin 96) (s : State) : Host.Outcome State Fault Refusal :=
  portCmd port (lkCommitReq port) s

/-- LKABORT (R252). -/
def execLkabort (port : Fin 96) (s : State) : Host.Outcome State Fault Refusal :=
  portCmd port (lkAbortReq port) s

/-- LOCKET_OPEN_TIMEOUT (R240). -/
def execLocketOpenTimeout (lkt : Fin 64) (s : State) : Host.Outcome State Fault Refusal :=
  performs (lkTimeout lkt) s

/-- LOCKET_PREPARE (R248). -/
def execLocketPrepare (lkt : Fin 64) (s : State) : Host.Outcome State Fault Refusal :=
  performs (lkPrepare lkt) s

/-- LKVOTE_RECEIVE (R250). -/
def execLkvoteReceive (s : State) : Host.Outcome State Fault Refusal :=
  performs lkVote s

/-- VOTE_DEADLINE (R249). -/
def execVoteDeadline (lkt : Fin 64) (s : State) : Host.Outcome State Fault Refusal :=
  performs (lkDeadline lkt) s

/-- LKDONE_RECEIVE (R252). -/
def execLkdoneReceive (s : State) : Host.Outcome State Fault Refusal :=
  performs lkDone s

/-- LOCKET_RESEND (R252). -/
def execLocketResend (lkt : Fin 64) (s : State) : Host.Outcome State Fault Refusal :=
  performs (lkResend lkt) s

/-- DECISION_DELIVER (R251). -/
def execDecisionDeliver (port : Fin 96) (s : State) : Host.Outcome State Fault Refusal :=
  portCmd port (decisionDeliverDo port) s

/-- RELAY_PREPARE (R239). -/
def execRelayPrepare (s : State) : Host.Outcome State Fault Refusal :=
  performs relayTake s

/-- RELAY_RESOLVE (R259). -/
def execRelayResolve (m : Master) (entry : Fin 64) (outcome : Resolve) (s : State) : Host.Outcome State Fault Refusal :=
  performs (relayResolveWrite m entry outcome) s

/-- DOUBT_ABORT (R260). -/
def execDoubtAbort (s : State) : Host.Outcome State Fault Refusal :=
  performs doubtDo s

end Sys2Proof.Machine
end

