-- ==== Sys2Proof/Machine/MatrixCommands.lean ====
section
/-! DEFINITION. The meanings of the commands of the register matrix, the clasp, the counters and the samplers. -/

namespace Sys2Proof.Machine

/-- CLASP_OPEN (R411): CLASP_OPEN OP 1. -/
def execClaspOpen (m : Master) (s : State) : Host.Outcome State Fault Refusal :=
  performs (matrixWrite m 0x2040 8 1 .clean) s

/-- CLASP_CLOSE (R411): CLASP_OPEN OP 2. -/
def execClaspClose (m : Master) (s : State) : Host.Outcome State Fault Refusal :=
  performs (matrixWrite m 0x2040 8 2 .clean) s

/-- CLASP_STAGE (R412). -/
def execClaspStage (m : Master) (data : BitVec 64) (s : State) : Host.Outcome State Fault Refusal :=
  performs (matrixWrite m 0x2050 8 data.toNat .clean) s

/-- CLASP_CONFIRM (R413). -/
def execClaspConfirm (m : Master) (digest : BitVec 32) (s : State) : Host.Outcome State Fault Refusal :=
  performs (matrixWrite m 0x2068 8 digest.toNat .clean) s

/-- CLASP_CHECK_DONE (R414). -/
def execClaspCheckDone (s : State) : Host.Outcome State Fault Refusal :=
  performs claspCheckDo s

/-- CLASP_ARM (R416). -/
def execClaspArm (m : Master) (t : BitVec 64) (s : State) : Host.Outcome State Fault Refusal :=
  performs (matrixWrite m 0x2058 8 t.toNat .clean) s

/-- CLASP_CANCEL (R417). -/
def execClaspCancel (m : Master) (s : State) : Host.Outcome State Fault Refusal :=
  performs (matrixWrite m 0x2060 8 1 .clean) s

/-- CLASP_TIMEOUT (R411). -/
def execClaspTimeout (s : State) : Host.Outcome State Fault Refusal :=
  performs claspTimeoutDo s

/-- REGISTER_WRITE (R409). -/
def execRegisterWrite (m : Master) (off : BitVec 24) (size : Nat) (data : BitVec 64) (ecc : Ecc) (s : State) : Host.Outcome State Fault Refusal :=
  performs (matrixWrite m off.toNat size data.toNat ecc) s

/-- REGISTER_READ (R410). -/
def execRegisterRead (m : Master) (off : BitVec 24) (size : Nat) (ecc : Ecc) (s : State) : Host.Outcome State Fault Refusal :=
  performs (matrixRead m off.toNat size ecc) s

/-- VIEW_SELECT (R47). -/
def execViewSelect (m : Master) (page : BitVec 24) (sel : BitVec 8) (bank : Bool) (s : State) : Host.Outcome State Fault Refusal :=
  performs (viewWrite m page.toNat sel.toNat bank) s

/-- EXPERT_ENABLE (R58). -/
def execExpertEnable (m : Master) (page : BitVec 24) (s : State) : Host.Outcome State Fault Refusal :=
  performs (expertWrite m page.toNat true) s

/-- EXPERT_DISABLE (R59). -/
def execExpertDisable (m : Master) (page : BitVec 24) (s : State) : Host.Outcome State Fault Refusal :=
  performs (expertWrite m page.toNat false) s

/-- ACCESS_TIMEOUT (R406). -/
def execAccessTimeout (m : Master) (off : BitVec 24) (size : Nat) (write : Bool) (data : BitVec 64) (s : State) : Host.Outcome State Fault Refusal :=
  performs (accessTimeoutDo m off.toNat size write data.toNat) s

/-- COUNTER_LOW_READ (R447). -/
def execCounterLowRead (m : Master) (off : BitVec 24) (s : State) : Host.Outcome State Fault Refusal :=
  performs (matrixRead m off.toNat 4 .clean) s

/-- COUNTER_PRESET (R448). -/
def execCounterPreset (m : Master) (off : BitVec 24) (size : Nat) (data : BitVec 64) (s : State) : Host.Outcome State Fault Refusal :=
  performs (matrixWrite m off.toNat size data.toNat .clean) s

/-- SAMPLER_CLEAR (R456): SMP_CTRL.CLEAR. -/
def execSamplerClear (m : Master) (n : Fin 4) (s : State) : Host.Outcome State Fault Refusal :=
  performs (rewrite m (samplerPage n.val + 0x68) 8 (fun w => setBit w 3)) s

/-- SAMPLE_TIMEOUT (R454). -/
def execSampleTimeout (n : Fin 4) (s : State) : Host.Outcome State Fault Refusal :=
  performs (sampleExpire n) s

end Sys2Proof.Machine
end

