-- ==== Sys2Proof/Machine/ModeCommands.lean ====
section
/-! DEFINITION. The meanings of the commands of the mode machine, power failure and the keepsake. -/

namespace Sys2Proof.Machine

/-- POWER_ON (R394). -/
def execPowerOn (test confHost0 pfWarnLow : Bool) (s : State) : Host.Outcome State Fault Refusal :=
  performs (powerOnDo test confHost0 pfWarnLow) s

/-- WARM_RESET (R365). -/
def execWarmReset (s : State) : Host.Outcome State Fault Refusal :=
  performs warmResetDo s

/-- RESET_RELEASE (R379). -/
def execResetRelease (s : State) : Host.Outcome State Fault Refusal :=
  performs resetReleaseDo s

/-- FAB_CMD_LOAD (R379): LOAD. -/
def execFabCmdLoad (m : Master) (s : State) : Host.Outcome State Fault Refusal :=
  performs (matrixWrite m 0x48 8 1 .clean) s

/-- FAB_CMD_ABORT (R379): ABORT. -/
def execFabCmdAbort (m : Master) (s : State) : Host.Outcome State Fault Refusal :=
  performs (matrixWrite m 0x48 8 2 .clean) s

/-- FAB_CMD_RESTORE (R394): RESTORE. -/
def execFabCmdRestore (m : Master) (s : State) : Host.Outcome State Fault Refusal :=
  performs (matrixWrite m 0x48 8 4 .clean) s

/-- DRAIN_TO_HOLD (R386): DRAIN to HOLD. -/
def execDrainToHold (m : Master) (s : State) : Host.Outcome State Fault Refusal :=
  performs (matrixWrite m 0x48 8 0x10 .clean) s

/-- DRAIN_TO_KEEP (R386): DRAIN to KEEP. -/
def execDrainToKeep (m : Master) (s : State) : Host.Outcome State Fault Refusal :=
  performs (matrixWrite m 0x48 8 0x20 .clean) s

/-- SEAL (R383): WORD 0x5EA1 and this CRC to FAB_SEAL. -/
def execSeal (m : Master) (crc : BitVec 32) (s : State) : Host.Outcome State Fault Refusal :=
  performs (matrixWrite m 0x50 8 (0x5EA1 * 2 ^ 32 + crc.toNat) .clean) s

/-- CONFIGURATION_CHECKER_DONE (R384). -/
def execConfigurationCheckerDone (s : State) : Host.Outcome State Fault Refusal :=
  performs checkerDo s

/-- LOAD_TIMEOUT (R383). -/
def execLoadTimeout (s : State) : Host.Outcome State Fault Refusal :=
  performs loadTimeoutDo s

/-- PF_WARN_FALL (R386). -/
def execPfWarnFall (s : State) : Host.Outcome State Fault Refusal :=
  performs pfFallDo s

/-- PF_WARN_RISE (R379). -/
def execPfWarnRise (s : State) : Host.Outcome State Fault Refusal :=
  performs pfRiseDo s

/-- RPLL_LOSS (R356). -/
def execRpllLoss (s : State) : Host.Outcome State Fault Refusal :=
  performs rpllLossDo s

/-- DRAIN_FINAL (R388). -/
def execDrainFinal (s : State) : Host.Outcome State Fault Refusal :=
  performs drainFinalDo s

/-- RESTORE_RELOAD_DONE (R395). -/
def execRestoreReloadDone (bad : List (Fin 59)) (s : State) : Host.Outcome State Fault Refusal :=
  performs (reloadDo bad) s

/-- GT_HOLD_CLEAR (R396). -/
def execGtHoldClear (s : State) : Host.Outcome State Fault Refusal :=
  performs gtHoldClearDo s

/-- KEEPSAKE_LOST (R393). -/
def execKeepsakeLost (s : State) : Host.Outcome State Fault Refusal :=
  performs keepLostDo s

/-- VDD_KEEP_LOSS (R469). -/
def execVddKeepLoss (s : State) : Host.Outcome State Fault Refusal :=
  performs keepGoneDo s

end Sys2Proof.Machine
end

