-- ==== Sys2Proof/Machine/PoolCommands.lean ====
section
/-! DEFINITION. The meanings of the commands of the pool agent. -/

namespace Sys2Proof.Machine

/-- HELLO_RECEIVE (R346). -/
def execHelloReceive (strand : Fin 10) (s : State) : Host.Outcome State Fault Refusal :=
  performs (helloTake strand) s

/-- ROOT_SETTLE (R347). -/
def execRootSettle (s : State) : Host.Outcome State Fault Refusal :=
  performs rootSettleDo s

/-- TOPO_RECEIVE (R347). -/
def execTopoReceive (s : State) : Host.Outcome State Fault Refusal :=
  performs topoTake s

/-- ENUM_RECEIVE (R347). -/
def execEnumReceive (s : State) : Host.Outcome State Fault Refusal :=
  performs enumTake s

/-- ENUM_ACK_RECEIVE (R347). -/
def execEnumAckReceive (s : State) : Host.Outcome State Fault Refusal :=
  performs enumAckTake s

/-- ROUTE_RECEIVE (R347). -/
def execRouteReceive (s : State) : Host.Outcome State Fault Refusal :=
  performs routeTake s

/-- ACTIVATE_RECEIVE (R348). -/
def execActivateReceive (s : State) : Host.Outcome State Fault Refusal :=
  performs activateTake s

/-- PUSH_CHECK_DONE (R348). -/
def execPushCheckDone (s : State) : Host.Outcome State Fault Refusal :=
  performs pushCheck s

end Sys2Proof.Machine
end

