-- ==== Sys2Proof/Machine/PortCommands.lean ====
section
/-! DEFINITION. The meanings of the commands of the attach ports, the fabric halves and the routers. -/

namespace Sys2Proof.Machine

/-- FAI_OFFER (R197). -/
def execFaiOffer (port : Fin 96) (flit : Flit) (s : State) : Host.Outcome State Fault Refusal :=
  portCmd port (offerDo port flit) s

/-- FABRIC_HALF_INJECT (R483). -/
def execFabricHalfInject (port : Fin 96) (net : Net) (slot : HalfSlot) (s : State) : Host.Outcome State Fault Refusal :=
  portCmd port (injectThen port (injectSlotDo port net slot.slot slot.flips)) s

/-- GT_SLOT_INJECT (R163). -/
def execGtSlotInject (port : Fin 96) (net : Net) (slot : HalfSlot) (s : State) : Host.Outcome State Fault Refusal :=
  portCmd port (injectThen port (gtSlotDo port net slot.slot slot.flips)) s

/-- ROUTER_GRANT (R116). -/
def execRouterGrant (tile : Fin 48) (net : Net) (slot : Fin 128) (errs : List LinkErr) (s : State) : Host.Outcome State Fault Refusal :=
  performs (routerGrantDo tile net slot errs) s

/-- TR_TO_TE_MOVE (R115). -/
def execTrToTeMove (tile : Fin 48) (net : Net) (inp : Fin 7) (slot : Fin 128) (s : State) : Host.Outcome State Fault Refusal :=
  performs (trToTeDo tile net inp slot) s

/-- FLIT_EJECT (R197). -/
def execFlitEject (port : Fin 96) (net : Net) (flips : List Nat) (s : State) : Host.Outcome State Fault Refusal :=
  portCmd port (ejectDo port net flips) s

/-- PAIR_TIMEOUT (R90). -/
def execPairTimeout (port : Fin 96) (s : State) : Host.Outcome State Fault Refusal :=
  portCmd port (pairTimeoutDo port) s

/-- EJECT_CREDIT_RETURN (R195). -/
def execEjectCreditReturn (port : Fin 96) (net : Net) (cls : Cls) (n : Nat) (s : State) : Host.Outcome State Fault Refusal :=
  portCmd port (creditReturnDo port net cls n) s

/-- RETRY_EXPIRY (R199). -/
def execRetryExpiry (port : Fin 96) (idx : Fin 256) (s : State) : Host.Outcome State Fault Refusal :=
  portCmd port (retryDo port idx.val) s

/-- GHOST_END (R200). -/
def execGhostEnd (port : Fin 96) (idx : Fin 256) (s : State) : Host.Outcome State Fault Refusal :=
  portCmd port (ghostEndDo port idx.val) s

/-- PING_SEND (R201). -/
def execPingSend (port : Fin 96) (s : State) : Host.Outcome State Fault Refusal :=
  portCmd port (pingDo port) s

/-- PEER_DOWN (R204). -/
def execPeerDown (port : Fin 96) (s : State) : Host.Outcome State Fault Refusal :=
  portCmd port (resetFalls port) s

/-- QRESET (R204): PORT_CTRL.QRESET. -/
def execQreset (m : Master) (port : Fin 96) (s : State) : Host.Outcome State Fault Refusal :=
  performs (rewrite m (portPage port.val + 0x40) 4 (fun w => setBit w 8)) s

/-- PORT_ACTIVATE (R203). -/
def execPortActivate (port : Fin 96) (s : State) : Host.Outcome State Fault Refusal :=
  portCmd port (portActivateDo port) s

/-- FENCE_REQUEST (R209). -/
def execFenceRequest (m : Master) (port : Fin 96) (s : State) : Host.Outcome State Fault Refusal :=
  performs (matrixWrite m (portPage port.val + 0x44) 4 1 .clean) s

/-- FENCE_CANCEL (R203). -/
def execFenceCancel (m : Master) (port : Fin 96) (s : State) : Host.Outcome State Fault Refusal :=
  performs (matrixWrite m (portPage port.val + 0x44) 4 0 .clean) s

/-- FENCE_DRAINED (R203). -/
def execFenceDrained (port : Fin 96) (s : State) : Host.Outcome State Fault Refusal :=
  portCmd port (fenceDrainedDo port) s

/-- FENCE_STUCK (R203). -/
def execFenceStuck (port : Fin 96) (s : State) : Host.Outcome State Fault Refusal :=
  portCmd port (fenceStuckDo port) s

/-- PWR_ACK (R210). -/
def execPwrAck (port : Fin 96) (s : State) : Host.Outcome State Fault Refusal :=
  portCmd port (pwrAckDo port) s

/-- PWR_NOACK (R210). -/
def execPwrNoack (port : Fin 96) (s : State) : Host.Outcome State Fault Refusal :=
  portCmd port (pwrNoackDo port) s

/-- PORT_POWER_UP_DONE (R211). -/
def execPortPowerUpDone (port : Fin 96) (s : State) : Host.Outcome State Fault Refusal :=
  portCmd port (powerUpDoneDo port) s

/-- TILE_WAVE (R375). -/
def execTileWave (s : State) : Host.Outcome State Fault Refusal :=
  performs tileWaveDo s

/-- CROSSING_INIT (R363). -/
def execCrossingInit (port : Fin 96) (side : Side) (s : State) : Host.Outcome State Fault Refusal :=
  portCmd port (xInitDo port side) s

/-- CROSSING_ALIVE_MISS (R363). -/
def execCrossingAliveMiss (port : Fin 96) (side : Side) (s : State) : Host.Outcome State Fault Refusal :=
  portCmd port (xAliveMissDo port side) s

/-- CROSSING_PEER_RDY_LOW (R363). -/
def execCrossingPeerRdyLow (port : Fin 96) (side : Side) (s : State) : Host.Outcome State Fault Refusal :=
  portCmd port (xRdyLowDo port side) s

/-- CROSSING_ARM (R363). -/
def execCrossingArm (port : Fin 96) (side : Side) (s : State) : Host.Outcome State Fault Refusal :=
  portCmd port (xArmDo port side) s

/-- CROSSING_RUN (R363). -/
def execCrossingRun (port : Fin 96) (side : Side) (s : State) : Host.Outcome State Fault Refusal :=
  portCmd port (xRunDo port side) s

end Sys2Proof.Machine
end

