-- ==== Sys2Proof/Machine/StrandCommands.lean ====
section
/-! DEFINITION. The meanings of the commands of the lanes of the strands. -/

namespace Sys2Proof.Machine

/-- STRAND_ENABLE (R290). -/
def execStrandEnable (m : Master) (strand : Fin 10) (s : State) : Host.Outcome State Fault Refusal :=
  performs (rewrite m (slPage strand.val 0 + 0x40) 4 (fun w => setBit (slKept w) 0)) s

/-- STRAND_DISABLE (R290). -/
def execStrandDisable (m : Master) (strand : Fin 10) (s : State) : Host.Outcome State Fault Refusal :=
  performs (rewrite m (slPage strand.val 0 + 0x40) 4 (fun w => clrBit (slKept w) 0)) s

/-- SRESET (R365). -/
def execSreset (m : Master) (strand : Fin 10) (s : State) : Host.Outcome State Fault Refusal :=
  performs (rewrite m (slPage strand.val 0 + 0x40) 4 (fun w => setBit (slKept w) 16)) s

/-- RETRAIN (R302). -/
def execRetrain (m : Master) (strand : Fin 10) (s : State) : Host.Outcome State Fault Refusal :=
  performs (rewrite m (slPage strand.val 0 + 0x40) 4 (fun w => setBit (slKept w) 12)) s

/-- STRAND_PWR_REQ (R314). -/
def execStrandPwrReq (m : Master) (strand : Fin 10) (req : StrandPwr) (s : State) : Host.Outcome State Fault Refusal :=
  performs (rewrite m (slPage strand.val 0 + 0x40) 4 (fun w => putBits 5 4 (slKept w) (pwrCode req))) s

/-- STRAND_WIDTH_REQ (R314). -/
def execStrandWidthReq (m : Master) (strand : Fin 10) (req : WidthReq) (s : State) : Host.Outcome State Fault Refusal :=
  performs (rewrite m (slPage strand.val 0 + 0x40) 4 (fun w => putBits 9 8 (slKept w) (widthCode req))) s

/-- DETECT_BURST (R292). -/
def execDetectBurst (burst : BurstAt) (s : State) : Host.Outcome State Fault Refusal :=
  performs (detectBurstDo burst.strand burst.low) s

/-- PRSNT_FALL (R292). -/
def execPrsntFall (strand : Fin 10) (s : State) : Host.Outcome State Fault Refusal :=
  performs (prsntFallDo strand) s

/-- DETECT_SIGNAL (R290). -/
def execDetectSignal (strand : Fin 10) (s : State) : Host.Outcome State Fault Refusal :=
  performs (detectSignalDo strand) s

/-- BITLOCK_DONE (R293). -/
def execBitlockDone (strand : Fin 10) (tries : List LaneTry) (ppm : Vector Int 8) (s : State) : Host.Outcome State Fault Refusal :=
  performs (bitlockDo strand tries ppm) s

/-- POLARITY_DONE (R294). -/
def execPolarityDone (strand : Fin 10) (marks : List (Fin 8 × BitVec 64 × BitVec 64)) (s : State) : Host.Outcome State Fault Refusal :=
  performs (polarityDo strand marks) s

/-- LANEMAP_DONE (R295). -/
def execLanemapDone (strand : Fin 10) (marks : List (Fin 8 × BitVec 3 × BitVec 3)) (s : State) : Host.Outcome State Fault Refusal :=
  performs (lanemapDo strand marks) s

/-- DESKEW_DONE (R296). -/
def execDeskewDone (strand : Fin 10) (marks : List (Fin 8 × BitVec 16)) (times : Vector Nat 8) (s : State) : Host.Outcome State Fault Refusal :=
  performs (deskewDo strand (arrivals marks times)) s

/-- EQ_DWELL_END (R305). -/
def execEqDwellEnd (strand : Fin 10) (eyes : List (BitVec 6 × Nat)) (s : State) : Host.Outcome State Fault Refusal :=
  performs (dwellDo strand eyes) s

/-- PRESET_DONE (R290). -/
def execPresetDone (strand : Fin 10) (s : State) : Host.Outcome State Fault Refusal :=
  performs (presetDo strand) s

/-- CONFIG_HANDSHAKE_DONE (R299). -/
def execConfigHandshakeDone (strand : Fin 10) (s : State) : Host.Outcome State Fault Refusal :=
  performs (configDo strand) s

/-- TRAIN_STAGE_TIMEOUT (R291). -/
def execTrainStageTimeout (strand : Fin 10) (s : State) : Host.Outcome State Fault Refusal :=
  performs (stageTimeoutDo strand) s

/-- ABSENT_EXPIRE (R291). -/
def execAbsentExpire (strand : Fin 10) (s : State) : Host.Outcome State Fault Refusal :=
  performs (absentDo strand) s

/-- MARKER_RECEIVE (R301). -/
def execMarkerReceive (strand : Fin 10) (rx : RxIn) (s : State) : Host.Outcome State Fault Refusal :=
  performs (rxDo strand (markerDo strand) rx) s

/-- MARKER_SEND (R284). -/
def execMarkerSend (strand : Fin 10) (s : State) : Host.Outcome State Fault Refusal :=
  performs (markerSendDo strand) s

/-- TS_IN_ACTIVE (R302). -/
def execTsInActive (strand : Fin 10) (s : State) : Host.Outcome State Fault Refusal :=
  performs (tsActiveDo strand) s

/-- LOSS_OF_SIGNAL (R311). -/
def execLossOfSignal (strand : Fin 10) (lane : BitVec 3) (s : State) : Host.Outcome State Fault Refusal :=
  performs (losDo strand lane) s

/-- LOSS_OF_BLOCK_LOCK (R273). -/
def execLossOfBlockLock (strand : Fin 10) (lane : BitVec 3) (s : State) : Host.Outcome State Fault Refusal :=
  performs (lockLossDo strand lane) s

/-- FOM_UPDATE (R304). -/
def execFomUpdate (strand : Fin 10) (eyes : List (BitVec 6 × Nat)) (s : State) : Host.Outcome State Fault Refusal :=
  performs (fomDo strand eyes) s

/-- FOM_FLOOR (R310). -/
def execFomFloor (strand : Fin 10) (s : State) : Host.Outcome State Fault Refusal :=
  performs (fomFloorDo strand) s

/-- CAL_SEND (R308). -/
def execCalSend (strand : Fin 10) (s : State) : Host.Outcome State Fault Refusal :=
  performs (calDo strand) s

/-- REFCLK_LOSS (R460). -/
def execRefclkLoss (cx : StrandComplex) (pair0 : Bool) (s : State) : Host.Outcome State Fault Refusal :=
  performs (refclkDo cx pair0) s

/-- LANE_GROUP_POWERUP (R376). -/
def execLaneGroupPowerup (pair0 : Bool) (s : State) : Host.Outcome State Fault Refusal :=
  performs (powerupDo pair0) s

/-- LCTL_REQ_RECEIVE (R315). -/
def execLctlReqReceive (strand : Fin 10) (rx : RxIn) (s : State) : Host.Outcome State Fault Refusal :=
  performs (rxDo strand (lctlReqDo strand) rx) s

/-- LCTL_ANSWER_RECEIVE (R316). -/
def execLctlAnswerReceive (strand : Fin 10) (rx : RxIn) (s : State) : Host.Outcome State Fault Refusal :=
  performs (rxDo strand (lctlAnswerDo strand) rx) s

/-- LCTL_TIMEOUT (R314). -/
def execLctlTimeout (strand : Fin 10) (s : State) : Host.Outcome State Fault Refusal :=
  performs (lctlTimeoutDo strand) s

/-- STANDBY_EXIT (R317). -/
def execStandbyExit (strand : Fin 10) (s : State) : Host.Outcome State Fault Refusal :=
  performs (standbyLeave strand) s

/-- DEEP_WAKE (R318): WAKE_n falls. -/
def execDeepWake (strand : Fin 10) (s : State) : Host.Outcome State Fault Refusal :=
  performs (deepFall strand) s

/-- DEEP_EXIT_TIMEOUT (R318). -/
def execDeepExitTimeout (strand : Fin 10) (s : State) : Host.Outcome State Fault Refusal :=
  performs (deepTimeoutDo strand) s

/-- COMPLEX_PLL_LOCKED (R376). -/
def execComplexPllLocked (cx : StrandComplex) (s : State) : Host.Outcome State Fault Refusal :=
  performs (pllLockedDo cx) s

/-- TS_OR_TCB_RECEIVE (R305). -/
def execTsOrTcbReceive (strand : Fin 10) (rx : RxIn) (s : State) : Host.Outcome State Fault Refusal :=
  performs (rxDo strand (tsTcbDo strand) rx) s

end Sys2Proof.Machine
end

