-- ==== Sys2Proof/Machine/TimeCommands.lean ====
section
/-! DEFINITION. The meanings of the commands of fabric time. -/

namespace Sys2Proof.Machine

/-- TIME_START (R145). -/
def execTimeStart (s : State) : Host.Outcome State Fault Refusal :=
  performs timeStartDo s

/-- TIME_REALIGN (R141). -/
def execTimeRealign (drift : List (Fin 48 × Int)) (s : State) : Host.Outcome State Fault Refusal :=
  performs (realign (fun t => faultEvent (.tile t) srcTime) drift) s

/-- TSYNC_SEND (R335). -/
def execTsyncSend (strand : Fin 10) (s : State) : Host.Outcome State Fault Refusal :=
  performs (tsyncSendDo strand) s

/-- TREQ_RECEIVE (R335). -/
def execTreqReceive (strand : Fin 10) (rx : RxIn) (s : State) : Host.Outcome State Fault Refusal :=
  performs (rxDo strand (treqDo strand) rx) s

/-- TSYNC_RECEIVE (R335). -/
def execTsyncReceive (strand : Fin 10) (tsync : TsyncIn) (s : State) : Host.Outcome State Fault Refusal :=
  performs (rxTsync strand tsync.synced tsync.rx) s

/-- TRESP_RECEIVE (R144). -/
def execTrespReceive (strand : Fin 10) (rx : RxIn) (s : State) : Host.Outcome State Fault Refusal :=
  performs (rxDo strand (trespDo strand) rx) s

/-- TIME_STEP (R147). -/
def execTimeStep (s : State) : Host.Outcome State Fault Refusal :=
  performs timeStepDo s

/-- HOLDOVER_EXPIRE (R145). -/
def execHoldoverExpire (s : State) : Host.Outcome State Fault Refusal :=
  performs holdoverExpireDo s

/-- SYNC_DISABLE (R148). -/
def execSyncDisable (m : Master) (s : State) : Host.Outcome State Fault Refusal :=
  performs (rewrite m 0x1040 8 (fun w => clrBit w 4)) s

end Sys2Proof.Machine
end

