-- ==== Sys2Proof/Machine/Dispatch.lean ====
section
/-! DEFINITION. One arm per command: the meaning it calls. -/

namespace Sys2Proof.Machine

def exec (i : Instr) (s : State) : Host.Outcome State Fault Refusal :=
  match i with
  | .powerOn test confHost0 pfWarnLow => Sys2Proof.Machine.execPowerOn test confHost0 pfWarnLow s
  | .warmReset => Sys2Proof.Machine.execWarmReset s
  | .resetRelease => Sys2Proof.Machine.execResetRelease s
  | .fabCmdLoad m => Sys2Proof.Machine.execFabCmdLoad m s
  | .fabCmdAbort m => Sys2Proof.Machine.execFabCmdAbort m s
  | .fabCmdRestore m => Sys2Proof.Machine.execFabCmdRestore m s
  | .drainToHold m => Sys2Proof.Machine.execDrainToHold m s
  | .drainToKeep m => Sys2Proof.Machine.execDrainToKeep m s
  | .sealWrite m crc => Sys2Proof.Machine.execSeal m crc s
  | .configurationCheckerDone => Sys2Proof.Machine.execConfigurationCheckerDone s
  | .loadTimeout => Sys2Proof.Machine.execLoadTimeout s
  | .pfWarnFall => Sys2Proof.Machine.execPfWarnFall s
  | .pfWarnRise => Sys2Proof.Machine.execPfWarnRise s
  | .rpllLoss => Sys2Proof.Machine.execRpllLoss s
  | .drainFinal => Sys2Proof.Machine.execDrainFinal s
  | .restoreReloadDone bad => Sys2Proof.Machine.execRestoreReloadDone bad s
  | .gtHoldClear => Sys2Proof.Machine.execGtHoldClear s
  | .keepsakeLost => Sys2Proof.Machine.execKeepsakeLost s
  | .hmSubmitAtTime m => Sys2Proof.Machine.execHmSubmitAtTime m s
  | .hmSubmitNextFrame m => Sys2Proof.Machine.execHmSubmitNextFrame m s
  | .hmCancel m id => Sys2Proof.Machine.execHmCancel m id s
  | .hmSendToTiles e => Sys2Proof.Machine.execHmSendToTiles e s
  | .epochSwitch => Sys2Proof.Machine.execEpochSwitch s
  | .beadSwap => Sys2Proof.Machine.execBeadSwap s
  | .cameo => Sys2Proof.Machine.execCameo s
  | .freezeOn => Sys2Proof.Machine.execFreezeOn s
  | .freezeOff => Sys2Proof.Machine.execFreezeOff s
  | .portPowerHallmark tile => Sys2Proof.Machine.execPortPowerHallmark tile s
  | .modeChange => Sys2Proof.Machine.execModeChange s
  | .faultInjection tile => Sys2Proof.Machine.execFaultInjection tile s
  | .claspApply => Sys2Proof.Machine.execClaspApply s
  | .epochDrainDone => Sys2Proof.Machine.execEpochDrainDone s
  | .epochDrainOverdue => Sys2Proof.Machine.execEpochDrainOverdue s
  | .plannerApply => Sys2Proof.Machine.execPlannerApply s
  | .plannerResubmit => Sys2Proof.Machine.execPlannerResubmit s
  | .claspOpen m => Sys2Proof.Machine.execClaspOpen m s
  | .claspClose m => Sys2Proof.Machine.execClaspClose m s
  | .claspStage m data => Sys2Proof.Machine.execClaspStage m data s
  | .claspConfirm m digest => Sys2Proof.Machine.execClaspConfirm m digest s
  | .claspCheckDone => Sys2Proof.Machine.execClaspCheckDone s
  | .claspArm m t => Sys2Proof.Machine.execClaspArm m t s
  | .claspCancel m => Sys2Proof.Machine.execClaspCancel m s
  | .claspTimeout => Sys2Proof.Machine.execClaspTimeout s
  | .registerWrite m off size data ecc => Sys2Proof.Machine.execRegisterWrite m off size data ecc s
  | .viewSelect m page sel bank => Sys2Proof.Machine.execViewSelect m page sel bank s
  | .expertEnable m page => Sys2Proof.Machine.execExpertEnable m page s
  | .expertDisable m page => Sys2Proof.Machine.execExpertDisable m page s
  | .accessTimeout m off size write data => Sys2Proof.Machine.execAccessTimeout m off size write data s
  | .counterLowRead m off => Sys2Proof.Machine.execCounterLowRead m off s
  | .counterPreset m off size data => Sys2Proof.Machine.execCounterPreset m off size data s
  | .faiOffer port flit => Sys2Proof.Machine.execFaiOffer port flit s
  | .fabricHalfInject port net slot => Sys2Proof.Machine.execFabricHalfInject port net slot s
  | .gtSlotInject port net slot => Sys2Proof.Machine.execGtSlotInject port net slot s
  | .routerGrant tile net slot errs => Sys2Proof.Machine.execRouterGrant tile net slot errs s
  | .trToTeMove tile net inp slot => Sys2Proof.Machine.execTrToTeMove tile net inp slot s
  | .flitEject port net flips => Sys2Proof.Machine.execFlitEject port net flips s
  | .pairTimeout port => Sys2Proof.Machine.execPairTimeout port s
  | .ejectCreditReturn port net cls n => Sys2Proof.Machine.execEjectCreditReturn port net cls n s
  | .retryExpiry port idx => Sys2Proof.Machine.execRetryExpiry port idx s
  | .ghostEnd port idx => Sys2Proof.Machine.execGhostEnd port idx s
  | .pingSend port => Sys2Proof.Machine.execPingSend port s
  | .peerDown port => Sys2Proof.Machine.execPeerDown port s
  | .qreset m port => Sys2Proof.Machine.execQreset m port s
  | .portActivate port => Sys2Proof.Machine.execPortActivate port s
  | .fenceRequest m port => Sys2Proof.Machine.execFenceRequest m port s
  | .fenceCancel m port => Sys2Proof.Machine.execFenceCancel m port s
  | .fenceDrained port => Sys2Proof.Machine.execFenceDrained port s
  | .fenceStuck port => Sys2Proof.Machine.execFenceStuck port s
  | .pwrAck port => Sys2Proof.Machine.execPwrAck port s
  | .pwrNoack port => Sys2Proof.Machine.execPwrNoack port s
  | .tileWave => Sys2Proof.Machine.execTileWave s
  | .crossingInit port side => Sys2Proof.Machine.execCrossingInit port side s
  | .crossingAliveMiss port side => Sys2Proof.Machine.execCrossingAliveMiss port side s
  | .crossingPeerRdyLow port side => Sys2Proof.Machine.execCrossingPeerRdyLow port side s
  | .crossingArm port side => Sys2Proof.Machine.execCrossingArm port side s
  | .crossingRun port side => Sys2Proof.Machine.execCrossingRun port side s
  | .timeStart => Sys2Proof.Machine.execTimeStart s
  | .timeRealign drift => Sys2Proof.Machine.execTimeRealign drift s
  | .tsyncSend strand => Sys2Proof.Machine.execTsyncSend strand s
  | .treqReceive strand rx => Sys2Proof.Machine.execTreqReceive strand rx s
  | .tsyncReceive strand tsync => Sys2Proof.Machine.execTsyncReceive strand tsync s
  | .trespReceive strand rx => Sys2Proof.Machine.execTrespReceive strand rx s
  | .timeStep => Sys2Proof.Machine.execTimeStep s
  | .holdoverExpire => Sys2Proof.Machine.execHoldoverExpire s
  | .syncDisable m => Sys2Proof.Machine.execSyncDisable m s
  | .faultWindowEnd dom src => Sys2Proof.Machine.execFaultWindowEnd dom src s
  | .quietExpire dom => Sys2Proof.Machine.execQuietExpire dom s
  | .reactionComplete dom => Sys2Proof.Machine.execReactionComplete dom s
  | .shadowEnd dom => Sys2Proof.Machine.execShadowEnd dom s
  | .fltAcknowledge m kind inst => Sys2Proof.Machine.execFltAcknowledge m kind inst s
  | .fltReadmit m kind inst => Sys2Proof.Machine.execFltReadmit m kind inst s
  | .tileIsolateCmd m tile => Sys2Proof.Machine.execTileIsolateCmd m tile s
  | .tileReadmitCmd m tile => Sys2Proof.Machine.execTileReadmitCmd m tile s
  | .injectionPeriodEnd dom src => Sys2Proof.Machine.execInjectionPeriodEnd dom src s
  | .homeStagingEcc ch steps => Sys2Proof.Machine.execHomeStagingEcc ch steps s
  | .lkopen port => Sys2Proof.Machine.execLkopen port s
  | .lkstage port flit => Sys2Proof.Machine.execLkstage port flit s
  | .lkstageAnswer => Sys2Proof.Machine.execLkstageAnswer s
  | .lkcommit port => Sys2Proof.Machine.execLkcommit port s
  | .lkabort port => Sys2Proof.Machine.execLkabort port s
  | .locketOpenTimeout lkt => Sys2Proof.Machine.execLocketOpenTimeout lkt s
  | .locketPrepare lkt => Sys2Proof.Machine.execLocketPrepare lkt s
  | .lkvoteReceive => Sys2Proof.Machine.execLkvoteReceive s
  | .voteDeadline lkt => Sys2Proof.Machine.execVoteDeadline lkt s
  | .lkdoneReceive => Sys2Proof.Machine.execLkdoneReceive s
  | .locketResend lkt => Sys2Proof.Machine.execLocketResend lkt s
  | .decisionDeliver port => Sys2Proof.Machine.execDecisionDeliver port s
  | .relayPrepare => Sys2Proof.Machine.execRelayPrepare s
  | .relayResolve m entry outcome => Sys2Proof.Machine.execRelayResolve m entry outcome s
  | .doubtAbort => Sys2Proof.Machine.execDoubtAbort s
  | .strandEnable m strand => Sys2Proof.Machine.execStrandEnable m strand s
  | .strandDisable m strand => Sys2Proof.Machine.execStrandDisable m strand s
  | .sreset m strand => Sys2Proof.Machine.execSreset m strand s
  | .retrain m strand => Sys2Proof.Machine.execRetrain m strand s
  | .detectBurst burst => Sys2Proof.Machine.execDetectBurst burst s
  | .prsntFall strand => Sys2Proof.Machine.execPrsntFall strand s
  | .detectSignal strand => Sys2Proof.Machine.execDetectSignal strand s
  | .bitlockDone strand tries ppm => Sys2Proof.Machine.execBitlockDone strand tries ppm s
  | .polarityDone strand marks => Sys2Proof.Machine.execPolarityDone strand marks s
  | .lanemapDone strand marks => Sys2Proof.Machine.execLanemapDone strand marks s
  | .deskewDone strand marks times => Sys2Proof.Machine.execDeskewDone strand marks times s
  | .eqDwellEnd strand eyes => Sys2Proof.Machine.execEqDwellEnd strand eyes s
  | .presetDone strand => Sys2Proof.Machine.execPresetDone strand s
  | .configHandshakeDone strand => Sys2Proof.Machine.execConfigHandshakeDone strand s
  | .trainStageTimeout strand => Sys2Proof.Machine.execTrainStageTimeout strand s
  | .absentExpire strand => Sys2Proof.Machine.execAbsentExpire strand s
  | .markerReceive strand rx => Sys2Proof.Machine.execMarkerReceive strand rx s
  | .markerSend strand => Sys2Proof.Machine.execMarkerSend strand s
  | .tsInActive strand => Sys2Proof.Machine.execTsInActive strand s
  | .lossOfSignal strand lane => Sys2Proof.Machine.execLossOfSignal strand lane s
  | .lossOfBlockLock strand lane => Sys2Proof.Machine.execLossOfBlockLock strand lane s
  | .fomUpdate strand eyes => Sys2Proof.Machine.execFomUpdate strand eyes s
  | .fomFloor strand => Sys2Proof.Machine.execFomFloor strand s
  | .calSend strand => Sys2Proof.Machine.execCalSend strand s
  | .refclkLoss cx pair0 => Sys2Proof.Machine.execRefclkLoss cx pair0 s
  | .laneGroupPowerup pair0 => Sys2Proof.Machine.execLaneGroupPowerup pair0 s
  | .strandPwrReq m strand req => Sys2Proof.Machine.execStrandPwrReq m strand req s
  | .strandWidthReq m strand req => Sys2Proof.Machine.execStrandWidthReq m strand req s
  | .lctlReqReceive strand rx => Sys2Proof.Machine.execLctlReqReceive strand rx s
  | .lctlAnswerReceive strand rx => Sys2Proof.Machine.execLctlAnswerReceive strand rx s
  | .lctlTimeout strand => Sys2Proof.Machine.execLctlTimeout strand s
  | .standbyExit strand => Sys2Proof.Machine.execStandbyExit strand s
  | .deepWake strand => Sys2Proof.Machine.execDeepWake strand s
  | .deepExitTimeout strand => Sys2Proof.Machine.execDeepExitTimeout strand s
  | .containerSend strand => Sys2Proof.Machine.execContainerSend strand s
  | .containerReceive strand rx bad => Sys2Proof.Machine.execContainerReceive strand rx bad s
  | .replayTimeout strand => Sys2Proof.Machine.execReplayTimeout strand s
  | .ackcSend strand => Sys2Proof.Machine.execAckcSend strand s
  | .creditRefresh strand => Sys2Proof.Machine.execCreditRefresh strand s
  | .crcWindowEnd strand => Sys2Proof.Machine.execCrcWindowEnd strand s
  | .failoverDone strand => Sys2Proof.Machine.execFailoverDone strand s
  | .helloSend strand => Sys2Proof.Machine.execHelloSend strand s
  | .helloReceive strand => Sys2Proof.Machine.execHelloReceive strand s
  | .helloTimeout strand => Sys2Proof.Machine.execHelloTimeout strand s
  | .sequencerArrival strand net buf => Sys2Proof.Machine.execSequencerArrival strand net buf s
  | .seqHandoverRelease dev stream => Sys2Proof.Machine.execSeqHandoverRelease dev stream s
  | .seqGapSkip dev stream => Sys2Proof.Machine.execSeqGapSkip dev stream s
  | .e2ackSend dev => Sys2Proof.Machine.execE2ackSend dev s
  | .e2ackReceive => Sys2Proof.Machine.execE2ackReceive s
  | .ssyncReceive => Sys2Proof.Machine.execSsyncReceive s
  | .ssyncAckReceive => Sys2Proof.Machine.execSsyncAckReceive s
  | .rootSettle => Sys2Proof.Machine.execRootSettle s
  | .topoReceive => Sys2Proof.Machine.execTopoReceive s
  | .enumReceive => Sys2Proof.Machine.execEnumReceive s
  | .enumAckReceive => Sys2Proof.Machine.execEnumAckReceive s
  | .routeReceive => Sys2Proof.Machine.execRouteReceive s
  | .activateReceive => Sys2Proof.Machine.execActivateReceive s
  | .pushCheckDone => Sys2Proof.Machine.execPushCheckDone s
  | .sampleTimeout n => Sys2Proof.Machine.execSampleTimeout n s
  | .samplerClear m n => Sys2Proof.Machine.execSamplerClear m n s
  | .registerRead m off size ecc => Sys2Proof.Machine.execRegisterRead m off size ecc s
  | .portPowerUpDone port => Sys2Proof.Machine.execPortPowerUpDone port s
  | .complexPllLocked cx => Sys2Proof.Machine.execComplexPllLocked cx s
  | .tsOrTcbReceive strand rx => Sys2Proof.Machine.execTsOrTcbReceive strand rx s
  | .vddKeepLoss => Sys2Proof.Machine.execVddKeepLoss s

end Sys2Proof.Machine
end

