-- ==== Sys2Proof/WellFormed.lean ====
section
/-! DEFINITION. Well-formed commands: operands that name a unit the device has, bits a flit has, sizes an access can have. A command's
meaning is defined beyond them too; an ill-formed one is none the boundary can carry. -/

namespace Sys2Proof

open Machine

/-- An access is of 1, 2, 4 or 8 bytes (R37, R38). -/
def sizeWf (size : Nat) : Bool := decide (size = 1 ∨ size = 2 ∨ size = 4 ∨ size = 8)

/-- The bits of a flit with its check bits (R69). -/
def flitBits (net : Net) : Nat := match net with | .req => 192 | .rsp => 96 | .snp => 128 | .dat => 640

/-- Bit positions of a flit, each once. -/
def bitsWf (net : Net) (l : List Nat) : Bool := decide l.Nodup && l.all fun b => decide (b < flitBits net)

/-- What a link corrupts in a flit of a network. -/
def errWf (net : Net) (e : LinkErr) : Bool := bitsWf net e.bits

/-- A domain: one of 48 tiles, 10 strands, the 60 ports that are not strand ports, and the global one (R426). -/
def domWf (d : Domain) : Bool :=
  match d with
  | .port p => usedPort p.val && (strandOf p.val).isNone
  | _ => true

/-- The fields beside ATTR, LMASK, ADDR, RARG, LKV and LKT are those of a REQ (R73). -/
def noReqFields (f : Flit) : Bool :=
  decide (f.lkv = false ∧ f.lkt = 0 ∧ f.attr = 0) && decide (f.lmask = 0 ∧ f.addr = 0 ∧ f.rarg = 0)

/-- No field of an RSP alone (R74), of an SNP alone, of a DAT alone (R75, R76). -/
def noRspFields (f : Flit) : Bool := decide (f.sub = 0 ∧ f.arg = 0)
def noSnpFields (f : Flit) : Bool := decide (f.laddr = 0)
def noDatFields (f : Flit) : Bool :=
  decide (f.lidx = 0 ∧ f.msk = false ∧ f.dpsn = false) && decide (f.cnet = false ∧ f.transit = false ∧ f.data = 0)

/-- A flit whose fields are those its network's layout carries (R73 to R76): its bits say all of it. -/
def flitWf (f : Flit) : Bool :=
  match f.net with
  | .req => noRspFields f && noSnpFields f && noDatFields f
  | .rsp => noReqFields f && noSnpFields f && noDatFields f
  | .snp => noReqFields f && noRspFields f && noDatFields f
  | .dat => noReqFields f && noRspFields f && noSnpFields f && decide (f.xf = f.transit) &&
      (if f.transit then decide (f.src = 0 ∧ f.tag = 0) else decide (f.cnet = false ∧ f.dstdev = 0 ∧ f.e2seq = 0))

/-- A flit as port p's unit offers it: a local DAT companion shows its DSTDEV beside the packet (R197), and only a strand port
offers the transit form. -/
def offerWf (p : Fin 96) (f : Flit) : Bool :=
  (!f.transit || (strandOf p.val).isSome) && flitWf { f with dstdev := if f.net = .dat ∧ !f.transit then 0 else f.dstdev }

/-- The flit an LKSTAGE is (R241). -/
def stageForm (f : Flit) : Flit := { f with net := .req, opc := 0x11 }

/-- UI of the lanes of a strand: each lane once, bits on complex A, levels on complex B. -/
def uisWf (n : Fin 10) (l : List (Fin 8 × List Nat)) : Bool :=
  decide (l.map (·.1)).Nodup && l.all fun a => a.2.all fun u => decide (u < if n.val < 8 then 2 else 4)

def rxWf (n : Fin 10) (rx : RxIn) : Bool := match rx with | .block _ => true | .lanes _ uis => uisWf n uis
def ctnrWf (n : Fin 10) (rx : RxCtnr) : Bool := match rx with | .whole _ => true | .lanes _ uis => uisWf n uis

/-- The command is well-formed. -/
def Instr.wf (i : Instr) : Bool :=
  match i with
  | .powerOn _ _ _ => true
  | .warmReset => true
  | .resetRelease => true
  | .fabCmdLoad _ => true
  | .fabCmdAbort _ => true
  | .fabCmdRestore _ => true
  | .drainToHold _ => true
  | .drainToKeep _ => true
  | .sealWrite _ _ => true
  | .configurationCheckerDone => true
  | .loadTimeout => true
  | .pfWarnFall => true
  | .pfWarnRise => true
  | .rpllLoss => true
  | .drainFinal => true
  | .restoreReloadDone bad => decide bad.Nodup
  | .gtHoldClear => true
  | .keepsakeLost => true
  | .hmSubmitAtTime _ => true
  | .hmSubmitNextFrame _ => true
  | .hmCancel _ _ => true
  | .hmSendToTiles _ => true
  | .epochSwitch => true
  | .beadSwap => true
  | .cameo => true
  | .freezeOn => true
  | .freezeOff => true
  | .portPowerHallmark _ => true
  | .modeChange => true
  | .faultInjection _ => true
  | .claspApply => true
  | .epochDrainDone => true
  | .epochDrainOverdue => true
  | .plannerApply => true
  | .plannerResubmit => true
  | .claspOpen _ => true
  | .claspClose _ => true
  | .claspStage _ _ => true
  | .claspConfirm _ _ => true
  | .claspCheckDone => true
  | .claspArm _ _ => true
  | .claspCancel _ => true
  | .claspTimeout => true
  | .registerWrite _ _ size _ _ => sizeWf size
  | .viewSelect _ _ _ _ => true
  | .expertEnable _ _ => true
  | .expertDisable _ _ => true
  | .accessTimeout _ _ size _ _ => sizeWf size
  | .counterLowRead _ _ => true
  | .counterPreset _ _ size _ => sizeWf size
  | .faiOffer port flit => usedPort port.val && offerWf port flit
  | .fabricHalfInject port net slot => usedPort port.val && bitsWf net slot.flips
  | .gtSlotInject port net slot => usedPort port.val && bitsWf net slot.flips
  | .routerGrant _ net _ errs => decide (errs.map (·.out)).Nodup && errs.all (errWf net)
  | .trToTeMove _ _ _ _ => true
  | .flitEject port net flips => usedPort port.val && bitsWf net flips
  | .pairTimeout port => usedPort port.val
  | .ejectCreditReturn port _ _ n => usedPort port.val && decide (0 < n)
  | .retryExpiry port _ => usedPort port.val
  | .ghostEnd port _ => usedPort port.val
  | .pingSend port => usedPort port.val
  | .peerDown port => usedPort port.val
  | .qreset _ port => usedPort port.val
  | .portActivate port => usedPort port.val
  | .fenceRequest _ port => usedPort port.val
  | .fenceCancel _ port => usedPort port.val
  | .fenceDrained port => usedPort port.val
  | .fenceStuck port => usedPort port.val
  | .pwrAck port => usedPort port.val
  | .pwrNoack port => usedPort port.val
  | .tileWave => true
  | .crossingInit port _ => usedPort port.val
  | .crossingAliveMiss port _ => usedPort port.val
  | .crossingPeerRdyLow port _ => usedPort port.val
  | .crossingArm port _ => usedPort port.val
  | .crossingRun port _ => usedPort port.val
  | .timeStart => true
  | .timeRealign drift => decide (drift.map (·.1)).Nodup
  | .tsyncSend _ => true
  | .treqReceive strand rx => rxWf strand rx
  | .tsyncReceive strand tsync => rxWf strand tsync.rx
  | .trespReceive strand rx => rxWf strand rx
  | .timeStep => true
  | .holdoverExpire => true
  | .syncDisable _ => true
  | .faultWindowEnd dom _ => domWf dom
  | .quietExpire dom => domWf dom
  | .reactionComplete dom => domWf dom
  | .shadowEnd dom => domWf dom
  | .fltAcknowledge _ _ _ => true
  | .fltReadmit _ _ _ => true
  | .tileIsolateCmd _ _ => true
  | .tileReadmitCmd _ _ => true
  | .injectionPeriodEnd dom _ => domWf dom
  | .homeStagingEcc _ steps => decide (0 < steps ∧ steps < 16)
  | .lkopen port => usedPort port.val
  | .lkstage port flit => usedPort port.val && offerWf port (stageForm flit)
  | .lkstageAnswer => true
  | .lkcommit port => usedPort port.val
  | .lkabort port => usedPort port.val
  | .locketOpenTimeout _ => true
  | .locketPrepare _ => true
  | .lkvoteReceive => true
  | .voteDeadline _ => true
  | .lkdoneReceive => true
  | .locketResend _ => true
  | .decisionDeliver port => usedPort port.val
  | .relayPrepare => true
  | .relayResolve _ _ _ => true
  | .doubtAbort => true
  | .strandEnable _ _ => true
  | .strandDisable _ _ => true
  | .sreset _ _ => true
  | .retrain _ _ => true
  | .detectBurst _ => true
  | .prsntFall _ => true
  | .detectSignal _ => true
  | .bitlockDone _ tries _ => decide (tries.map (·.lane)).Nodup
  | .polarityDone _ marks => decide (marks.map (·.1)).Nodup
  | .lanemapDone _ marks => decide (marks.map (·.1)).Nodup
  | .deskewDone _ marks _ => decide (marks.map (·.1)).Nodup
  | .eqDwellEnd _ eyes => decide (eyes.length ≤ 8)
  | .presetDone _ => true
  | .configHandshakeDone _ => true
  | .trainStageTimeout _ => true
  | .absentExpire _ => true
  | .markerReceive strand rx => rxWf strand rx
  | .markerSend _ => true
  | .tsInActive _ => true
  | .lossOfSignal _ _ => true
  | .lossOfBlockLock _ _ => true
  | .fomUpdate _ eyes => decide (eyes.length ≤ 8)
  | .fomFloor _ => true
  | .calSend _ => true
  | .refclkLoss _ _ => true
  | .laneGroupPowerup _ => true
  | .strandPwrReq _ _ _ => true
  | .strandWidthReq _ _ _ => true
  | .lctlReqReceive strand rx => rxWf strand rx
  | .lctlAnswerReceive strand rx => rxWf strand rx
  | .lctlTimeout _ => true
  | .standbyExit _ => true
  | .deepWake _ => true
  | .deepExitTimeout _ => true
  | .containerSend _ => true
  | .containerReceive strand rx _ => ctnrWf strand rx
  | .replayTimeout _ => true
  | .ackcSend _ => true
  | .creditRefresh _ => true
  | .crcWindowEnd _ => true
  | .failoverDone _ => true
  | .helloSend _ => true
  | .helloReceive _ => true
  | .helloTimeout _ => true
  | .sequencerArrival _ _ _ => true
  | .seqHandoverRelease _ _ => true
  | .seqGapSkip _ _ => true
  | .e2ackSend _ => true
  | .e2ackReceive => true
  | .ssyncReceive => true
  | .ssyncAckReceive => true
  | .rootSettle => true
  | .topoReceive => true
  | .enumReceive => true
  | .enumAckReceive => true
  | .routeReceive => true
  | .activateReceive => true
  | .pushCheckDone => true
  | .sampleTimeout _ => true
  | .samplerClear _ _ => true
  | .registerRead _ _ size _ => sizeWf size
  | .portPowerUpDone port => usedPort port.val
  | .complexPllLocked _ => true
  | .tsOrTcbReceive strand rx => rxWf strand rx
  | .vddKeepLoss => true

end Sys2Proof
end

