-- ==== Sys2Proof/Safety.lean ====
section
/-! DEFINITION. What counts as a safe run, in the terms the statements use: the commands that wait are well formed, the machine's sparse
stores are in canonical form, and a step ends in a next state. -/

namespace Sys2Proof.Machine

/-- Canonical form of a sparse map whose unlisted keys read d: keys strictly rising from b, no entry equal to its default. -/
def keyWf {α : Type} [DecidableEq α] (d : Nat → α) (b : Nat) (m : Sparse α) : Bool :=
  match m with
  | [] => true
  | (j, v) :: r => decide (b ≤ j) && decide (v ≠ d j) && keyWf d (j + 1) r

/-- The counters: in canonical form, each of 48 bits (R439, R449). -/
def cntOk (m : Sparse Nat) : Bool := spWf 0 m && m.all fun e => decide (e.2 < 2 ^ 48)

/-- Registers, tables and counters in canonical form. -/
def storesOk (regs tbls : Store) (cnt : Sparse Nat) : Bool := keyWf regReset 0 regs && keyWf tblReset 0 tbls && cntOk cnt

/-- Registers, tables and counters of the machine, and those of its keepsake's image, are in canonical form. -/
def StoresWf (s : State) : Prop :=
  storesOk s.regs s.tbls s.cnt.val = true ∧ storesOk s.ks.image.regs s.ks.image.tbls s.ks.image.counters = true

/-- Every command that waits is well formed. -/
def QueueWf (s : State) : Prop := ∀ c ∈ s.pending, Instr.wf c = true

/-- A safe state: a well-formed queue over canonical stores. -/
def Safe (s : State) : Prop := QueueWf s ∧ StoresWf s

/-- A run of k steps from s that meets no fault and no refusal. -/
def RunsSafely (k : Nat) (s : State) : Prop := ∃ t, Sys2Proof.core.run k s = Host.Outcome.next t

/-! ### The vocabulary of the statements -/

/-- Command c completes from s, and P holds of the state it leaves. -/
def Completes (c : Instr) (s : State) (P : State → Prop) : Prop := ∃ t, exec c s = .next t ∧ P t

/-- The matrix grants every access at once: none waits, and no sent clasp set withholds the accesses to its pages (R55, R418). -/
def NoneWithheld (s : State) : Prop :=
  s.withheld = [] ∧ ¬(s.clasp.state = .armed ∧ ((claspEntry s).any fun x => x.2.sent) = true)

/-- The register matrix performs accesses: the core has power, no reset holds it, no seal is being checked, and none waits for a clasp set
(R55, R368, R372, R383). -/
def MatrixOpen (s : State) : Prop :=
  s.ms.mode ≠ .keep ∧ s.ms.heldReset = none ∧ s.ms.checking ≠ some .seal ∧ NoneWithheld s

/-- A mode in which the proposer's writes take effect at once: neither DRAIN, where settings are not written, nor LOAD, where every
write is also folded into the running CRC (R381, R409). -/
def Settled (s : State) : Prop := MatrixOpen s ∧ s.ms.mode ≠ .drain ∧ s.ms.mode ≠ .load

/-- Fabric time has reached n ns, or will: it counts, at an increment within the range of TRIM (R138), and n does not lie at the end of
the 64-bit count. -/
def TimeReaches (s : State) (n : Nat) : Prop :=
  n ≤ ftimeNs s ∨ (timeRuns s = true ∧ s.clk.ftime < 2 ^ 80 ∧ -32 ≤ s.clk.trim ∧ s.clk.trim ≤ 32 ∧ n + 2 < 2 ^ 64)

/-- The counters of s once the clock stands at c: the events due before then are counted (R444, R449). -/
def lateCounted (s : State) (c : ClkSt) : CntSt := (countDue { s with clk := c }).cnt

/-- Every port is DISABLED, as in HOLD (R203). -/
def PortsDown (s : State) : Prop := ∀ p ∈ allPorts, s.ports[portF p].st = .disabled

/-- Registers whose write does more than store its fields: commands, write-one bits that act, registers shared by a complex, and those
written through the clasp or KS_CTRL. -/
def actingReg (pg : Page) (o : Nat) : Bool :=
  match pg.kind, o with
  | .global, 0x48 | .global, 0x50 | .time, 0x40 | .time, 0x58 | .fault, 0x48 | .sampler, 0x68 | .tile, 0x40 | .port, 0x40 | .port, 0x44
  | .slLink, 0x40 | .slPhy, 0x40 | .keepsake, 0x40 => true
  | .devroute, _ | .clasp, _ => true
  | _, _ => false

/-! ### Commands by what they can move -/

/-- The balls and board levels but SLn_PRSNT_n, which each strand follows (R292). -/
def pinsHeld (p : PinSt) : PinSt := { p with prsntLow := Vector.replicate 10 false }

/-- Commands that move only ports, strands and their presence, the sequencer, lockets, counters, sticky bits of registers, free values
used, and the clock. -/
def calmCommand (i : Instr) : Bool :=
  match i with
  | .pairTimeout .. | .ghostEnd .. | .peerDown .. | .portActivate .. | .fenceDrained .. | .fenceStuck .. | .pwrAck .. | .pwrNoack ..
  | .crossingInit .. | .crossingAliveMiss .. | .crossingPeerRdyLow .. | .crossingArm .. | .crossingRun .. | .tsyncSend .. | .lkopen ..
  | .lkstageAnswer .. | .lkcommit .. | .lkabort .. | .locketOpenTimeout .. | .locketPrepare .. | .lkvoteReceive .. | .voteDeadline ..
  | .lkdoneReceive .. | .locketResend .. | .decisionDeliver .. | .relayPrepare .. | .doubtAbort .. | .detectBurst .. | .prsntFall ..
  | .detectSignal .. | .bitlockDone .. | .polarityDone .. | .lanemapDone .. | .deskewDone .. | .eqDwellEnd .. | .presetDone ..
  | .configHandshakeDone .. | .trainStageTimeout .. | .absentExpire .. | .fomUpdate .. | .calSend .. | .lctlTimeout .. | .deepWake ..
  | .ackcSend .. | .crcWindowEnd .. | .failoverDone .. | .helloSend .. | .sequencerArrival .. | .seqHandoverRelease .. | .seqGapSkip ..
  | .e2ackSend .. | .portPowerUpDone .. => true
  | .powerOn .. | .warmReset .. | .resetRelease .. | .fabCmdLoad .. | .fabCmdAbort .. | .fabCmdRestore .. | .drainToHold ..
  | .drainToKeep .. | .sealWrite .. | .configurationCheckerDone .. | .loadTimeout .. | .pfWarnFall .. | .pfWarnRise .. | .rpllLoss ..
  | .drainFinal .. | .restoreReloadDone .. | .gtHoldClear .. | .keepsakeLost .. | .hmSubmitAtTime .. | .hmSubmitNextFrame ..
  | .hmCancel .. | .hmSendToTiles .. | .epochSwitch .. | .beadSwap .. | .cameo .. | .freezeOn .. | .freezeOff .. | .portPowerHallmark ..
  | .modeChange .. | .faultInjection .. | .claspApply .. | .epochDrainDone .. | .epochDrainOverdue .. | .plannerApply ..
  | .plannerResubmit .. | .claspOpen .. | .claspClose .. | .claspStage .. | .claspConfirm .. | .claspCheckDone .. | .claspArm ..
  | .claspCancel .. | .claspTimeout .. | .registerWrite .. | .viewSelect .. | .expertEnable .. | .expertDisable .. | .accessTimeout ..
  | .counterLowRead .. | .counterPreset .. | .faiOffer .. | .fabricHalfInject .. | .gtSlotInject .. | .routerGrant .. | .trToTeMove ..
  | .flitEject .. | .ejectCreditReturn .. | .retryExpiry .. | .pingSend .. | .qreset .. | .fenceRequest .. | .fenceCancel ..
  | .tileWave .. | .timeStart .. | .timeRealign .. | .treqReceive .. | .tsyncReceive .. | .trespReceive .. | .timeStep ..
  | .holdoverExpire .. | .syncDisable .. | .faultWindowEnd .. | .quietExpire .. | .reactionComplete .. | .shadowEnd ..
  | .fltAcknowledge .. | .fltReadmit .. | .tileIsolateCmd .. | .tileReadmitCmd .. | .injectionPeriodEnd .. | .homeStagingEcc ..
  | .lkstage .. | .relayResolve .. | .strandEnable .. | .strandDisable .. | .sreset .. | .retrain .. | .markerReceive ..
  | .markerSend .. | .tsInActive .. | .lossOfSignal .. | .lossOfBlockLock .. | .fomFloor .. | .refclkLoss .. | .laneGroupPowerup ..
  | .strandPwrReq .. | .strandWidthReq .. | .lctlReqReceive .. | .lctlAnswerReceive .. | .standbyExit .. | .deepExitTimeout ..
  | .containerSend .. | .containerReceive .. | .replayTimeout .. | .creditRefresh .. | .helloReceive .. | .helloTimeout ..
  | .e2ackReceive .. | .ssyncReceive .. | .ssyncAckReceive .. | .rootSettle .. | .topoReceive .. | .enumReceive .. | .enumAckReceive ..
  | .routeReceive .. | .activateReceive .. | .pushCheckDone .. | .sampleTimeout .. | .samplerClear .. | .registerRead ..
  | .complexPllLocked .. | .tsOrTcbReceive .. | .vddKeepLoss .. => false

/-- Commands that move no mode, keepsake, pin but SLn_PRSNT_n, strap, table, CHANGES, view, latched half, withheld access or epoch: the
calm ones, and those that also move time, hallmarks, the planner, routers, tiles, the pool agent, faults, samplers, the clasp or the power
schedule. -/
def quietCommand (i : Instr) : Bool :=
  match i with
  | .hmSendToTiles .. | .cameo .. | .freezeOn .. | .freezeOff .. | .portPowerHallmark .. | .faultInjection .. | .plannerResubmit ..
  | .claspCheckDone .. | .claspTimeout .. | .faiOffer .. | .fabricHalfInject .. | .gtSlotInject .. | .routerGrant .. | .trToTeMove ..
  | .flitEject .. | .pairTimeout .. | .ejectCreditReturn .. | .retryExpiry .. | .ghostEnd .. | .pingSend .. | .peerDown ..
  | .portActivate .. | .fenceDrained .. | .fenceStuck .. | .pwrAck .. | .pwrNoack .. | .tileWave .. | .crossingInit ..
  | .crossingAliveMiss .. | .crossingPeerRdyLow .. | .crossingArm .. | .crossingRun .. | .timeStart .. | .timeRealign .. | .tsyncSend ..
  | .treqReceive .. | .tsyncReceive .. | .trespReceive .. | .timeStep .. | .holdoverExpire .. | .faultWindowEnd .. | .quietExpire ..
  | .reactionComplete .. | .shadowEnd .. | .injectionPeriodEnd .. | .homeStagingEcc .. | .lkopen .. | .lkstage .. | .lkstageAnswer ..
  | .lkcommit .. | .lkabort .. | .locketOpenTimeout .. | .locketPrepare .. | .lkvoteReceive .. | .voteDeadline .. | .lkdoneReceive ..
  | .locketResend .. | .decisionDeliver .. | .relayPrepare .. | .doubtAbort .. | .detectBurst .. | .prsntFall .. | .detectSignal ..
  | .bitlockDone .. | .polarityDone .. | .lanemapDone .. | .deskewDone .. | .eqDwellEnd .. | .presetDone .. | .configHandshakeDone ..
  | .trainStageTimeout .. | .absentExpire .. | .markerReceive .. | .markerSend .. | .tsInActive .. | .lossOfSignal ..
  | .lossOfBlockLock .. | .fomUpdate .. | .fomFloor .. | .calSend .. | .refclkLoss .. | .laneGroupPowerup .. | .lctlReqReceive ..
  | .lctlAnswerReceive .. | .lctlTimeout .. | .standbyExit .. | .deepWake .. | .deepExitTimeout .. | .containerSend ..
  | .containerReceive .. | .replayTimeout .. | .ackcSend .. | .creditRefresh .. | .crcWindowEnd .. | .failoverDone .. | .helloSend ..
  | .helloReceive .. | .helloTimeout .. | .sequencerArrival .. | .seqHandoverRelease .. | .seqGapSkip .. | .e2ackSend ..
  | .e2ackReceive .. | .ssyncReceive .. | .ssyncAckReceive .. | .rootSettle .. | .topoReceive .. | .enumReceive .. | .enumAckReceive ..
  | .sampleTimeout .. | .portPowerUpDone .. | .complexPllLocked .. | .tsOrTcbReceive .. => true
  | .powerOn .. | .warmReset .. | .resetRelease .. | .fabCmdLoad .. | .fabCmdAbort .. | .fabCmdRestore .. | .drainToHold ..
  | .drainToKeep .. | .sealWrite .. | .configurationCheckerDone .. | .loadTimeout .. | .pfWarnFall .. | .pfWarnRise .. | .rpllLoss ..
  | .drainFinal .. | .restoreReloadDone .. | .gtHoldClear .. | .keepsakeLost .. | .hmSubmitAtTime .. | .hmSubmitNextFrame ..
  | .hmCancel .. | .epochSwitch .. | .beadSwap .. | .modeChange .. | .claspApply .. | .epochDrainDone .. | .epochDrainOverdue ..
  | .plannerApply .. | .claspOpen .. | .claspClose .. | .claspStage .. | .claspConfirm .. | .claspArm .. | .claspCancel ..
  | .registerWrite .. | .viewSelect .. | .expertEnable .. | .expertDisable .. | .accessTimeout .. | .counterLowRead ..
  | .counterPreset .. | .qreset .. | .fenceRequest .. | .fenceCancel .. | .syncDisable .. | .fltAcknowledge .. | .fltReadmit ..
  | .tileIsolateCmd .. | .tileReadmitCmd .. | .relayResolve .. | .strandEnable .. | .strandDisable .. | .sreset .. | .retrain ..
  | .strandPwrReq .. | .strandWidthReq .. | .routeReceive .. | .activateReceive .. | .pushCheckDone .. | .samplerClear ..
  | .registerRead .. | .vddKeepLoss .. => false

end Sys2Proof.Machine
end

