-- ==== Sys2Proof/Certificates/Slice0/Obligations.lean ====
section
/-! DEFINITION. The statements for the provers, family by family. Each says what a command does to the whole state, so a clause that gives
the next state as the old one with named fields replaced is also its frame. -/

open Sys2Proof Sys2Proof.Machine

/-! ### The step, the queue and the shape of a run -/

/-- R20: a fabric-half command that names one of the 26 empty slots stops by name; there is no fabric half to perform it. -/
def Obligations.EmptySlotsFault : Prop :=
  ∀ (s : State) (p : Fin 96) (f : Flit) (n : Net) (c : Cls) (d : Side) (k : Fin 128) (i : Fin 256) (l : List Nat)
    (x : Nat),
    usedPort p.val = false →
    ∀ cmd ∈ [Instr.faiOffer p f, .fabricHalfInject p n ⟨k, l⟩, .gtSlotInject p n ⟨k, l⟩, .flitEject p n l, .pairTimeout p,
        .ejectCreditReturn p n c x, .retryExpiry p i, .ghostEnd p i, .pingSend p, .peerDown p, .portActivate p, .fenceDrained p,
        .fenceStuck p, .pwrAck p, .pwrNoack p, .portPowerUpDone p, .crossingInit p d, .crossingAliveMiss p d,
        .crossingPeerRdyLow p d, .crossingArm p d, .crossingRun p d, .lkopen p, .lkstage p f, .lkcommit p, .lkabort p,
        .decisionDeliver p],
      exec cmd s = .fault .emptySlot

/-- Step runs the command at the front of the queue, on the queue's rest. -/
def Obligations.StepRunsFront : Prop :=
  ∀ (c : Instr) (q : List Instr) (s : State), step { s with pending := c :: q } = exec c { s with pending := q }

/-- The model's choice (log entry 11): with no command waiting, a step lets two FCLK cycles, one TBCLK cycle, pass. FTIME then
advances by one increment where it counts (R138, R145), and nothing changes but the clock, the counters that were due (R444), and what is
driven at the boundary. -/
def Obligations.StepIdles : Prop :=
  ∀ s : State, s.pending = [] → ∃ t, step s = .next t ∧
    t = { s with out := [], clk := t.clk, cnt := lateCounted s t.clk } ∧ t.clk.cyc = s.clk.cyc + 2 ∧
    t.clk.phase = s.clk.phase ∧
    t.clk.ftime = if s.time.state ≠ .unsynced ∧ s.clk.rpll = true then ((s.clk.ftime : Int) + (65536 + s.clk.trim)).toNat % 2 ^ 80 else s.clk.ftime

/-- Every well-formed command completes from every state, and leaves the rest of the queue as it was: no ordinary data ends a run. -/
def Obligations.WellFormedCompletes : Prop :=
  ∀ (i : Instr) (s : State), i.wf = true → Completes i s fun t => t.pending = s.pending

/-- A run of well-formed commands of any length, from any state, meets no fault and no refusal. -/
def Obligations.QueuesRunSafely : Prop := ∀ (k : Nat) (s : State), QueueWf s → RunsSafely k s

/-! ### Invariants -/

/-- Every step keeps registers, tables and counters in canonical form, and every counter in 48 bits, from every state that has them so,
reached or not. -/
def Obligations.StoresStayCanonical : Prop := ∀ s t : State, StoresWf s → step s = .next t → StoresWf t

/-- No step changes the device's identity (R43, R44, R352), and none takes the cycle count back. -/
def Obligations.IdentityAndClock : Prop :=
  ∀ s t : State, step s = .next t → t.ident = s.ident ∧ s.clk.cyc ≤ t.clk.cyc

/-- The state after reset is in HOLD with NO_IMAGE and no keepsake (R379, R394), nothing is queued, every port is DISABLED (R203),
every strand DISABLED (R290), its session INACTIVE (R336), time UNSYNCED (R145), and every register reads the reset value of its field
table. -/
def Obligations.ResetState : Prop :=
  State.reset.pending = [] ∧ State.reset.ms.mode = .hold ∧ State.reset.ms.why = .noImage ∧ State.reset.ks.valid = false ∧
    (∀ p : Fin 96, State.reset.ports[p].st = .disabled) ∧
    (∀ n : Fin 10, State.reset.strands[n].phy.stage = .disabled ∧ State.reset.strands[n].lnk.link = .inactive) ∧
    State.reset.time.state = .unsynced ∧ (∀ off, regGet State.reset off = regReset off) ∧ StoresWf State.reset ∧ QueueWf State.reset

/-! ### Modes, resets, power failure and the keepsake -/

/-- R394: the power-on decision, row by row in order. A valid and unlost keepsake is judged by the straps, AUTO, the level of PF_WARN_n and
FAB_RESUME, and is kept on every row; the decision is made again when PF_WARN_n rises in HOLD with POWER; FAB_CMD.RESTORE in HOLD applies
only the first, second and fifth rows. -/
def Obligations.PowerOnDecision : Prop :=
  ∀ s : State,
    let decides := fun (straps : Straps) (low : Bool) (resume : Word) (t : State) =>
      let refuses := (s.ks.incomplete = true ∧ fld 0 0 resume = 0) ∨ (s.ks.doubt = true ∧ fld 1 1 resume = 0) ∨
        (s.ks.attempts = fld 11 8 resume ∧ fld 11 8 resume ≠ 0)
      t.straps = straps ∧ t.ks.valid = s.ks.valid ∧ t.ks.image = s.ks.image ∧
        (if s.ks.valid = false ∨ s.ks.lost = true then t.ms.mode = .hold ∧ t.ms.why = .noImage
         else if straps.test = true ∨ straps ≠ s.ks.straps then t.ms.mode = .hold ∧ t.ms.why = .strap
         else if s.ks.auto = false then t.ms.mode = .hold ∧ t.ms.why = .noImage
         else if low = true then t.ms.mode = .hold ∧ t.ms.why = .power
         else if refuses then t.ms.mode = .hold ∧ t.ms.why = .resume
         else t.ms.mode = .restore ∧ t.ks.attempts = min 15 (s.ks.attempts + 1))
    (∀ test host0 low : Bool, Completes (.powerOn test host0 low) s fun t =>
      t.pins.pfWarnLow = low ∧ t.pins.pfDone = false ∧ t.pins.keepEn = false ∧
        decides { test := test, confHost0 := host0 } low (spGet (regReset 0x58) s.ks.image.regs 0x58) t) ∧
    (s.ms.mode = .hold → s.ms.why = .power → s.ms.heldReset = none → Completes .pfWarnRise s fun t =>
      t.pins.pfWarnLow = false ∧ decides s.straps false (regGet s 0x58) t) ∧
    (s.ms.mode = .hold → MatrixOpen s → Completes (.fabCmdRestore .mgt) s fun t =>
      if s.ks.valid = false ∨ s.ks.lost = true ∨ s.straps.test = true ∨ s.pins.pfWarnLow = true then
        t = { s with out := [.ack .mgt], regs := t.regs } ∧ (StoresWf s → (regGet t 0x800).toNat.testBit 16 = true)
      else t.ms.mode = .restore ∧ t.ks.attempts = min 15 (s.ks.attempts + 1) ∧ t.ks.image = s.ks.image)

/-- R365, R367, R369: a C reset holds the fabric, keeps the keepsake but its computed CRC, the pins, the straps, the identity, the device
number and the strands' stored rows, and every fault domain keeps its count; its release, and that of an F reset 1 us after it, enters HOLD with NO_IMAGE (R379). In DRAIN and KEEP a warm reset does nothing. -/
def Obligations.WarmResetAndRelease : Prop :=
  ∀ s : State,
    (s.ms.mode ≠ .drain → s.ms.mode ≠ .keep → s.ms.heldReset ≠ some .c → Completes .warmReset s fun t =>
      t.ms.heldReset = some .c ∧ t.ks = { s.ks with calcCrc := 0 } ∧ t.pins = s.pins ∧ t.straps = s.straps ∧ t.ident = s.ident ∧
      t.pool = { idv := s.pool.idv, devId := s.pool.devId } ∧ t.tbls = [] ∧ t.rtr = {} ∧ t.hm = {} ∧ t.clasp = {} ∧ t.lock = {} ∧
      t.cnt = {} ∧ t.withheld = [] ∧
      (∀ p : Fin 96, t.ports[p] = {} ∧ t.flt.ports[p].rc = s.flt.ports[p].rc) ∧
      (∀ n : Fin 10, t.strands[n] = { phy := { rows := s.strands[n].phy.rows } } ∧ t.flt.strands[n].rc = s.flt.strands[n].rc) ∧
      ∀ k : Fin 48, t.flt.tiles[k].rc = s.flt.tiles[k].rc) ∧
    (s.ms.mode = .drain ∨ s.ms.mode = .keep → exec .warmReset s = .next { s with out := [] }) ∧
    (s.ms.heldReset = some .c → exec .resetRelease s = .next { s with
      out := [], ms := { s.ms with heldReset := none, mode := .hold, why := .noImage }
      power := { s.power with schedAt := s.clk.cyc } }) ∧
    (s.ms.heldReset = some .f → Completes .resetRelease s fun t => t.clk.cyc = max s.clk.cyc (s.ms.resetAt + cycUs 1) ∧ t = { s with
      out := [], clk := t.clk, cnt := lateCounted s t.clk, ms := { s.ms with heldReset := none, mode := .hold, why := .noImage }
      power := { s.power with schedAt := t.clk.cyc } })

/-- R379, R383: FAB_CMD.LOAD in HOLD restarts the record CRC and enters LOAD, FAB_CMD.ABORT leaves it for HOLD with NO_IMAGE, and so does
the LOAD timer's expiry with LOAD_TIMEOUT. The seal ends LOAD with CLASP where a clasp set is pending, with CRC where the CRC differs, and
otherwise the checker runs with FAB_CHK.RESULT = RUNNING, the LOAD timer stopped. Nothing else changes but the acknowledgement, and at the
ports in HOLD, where every one is DISABLED (R203). -/
def Obligations.LoadAndSeal : Prop :=
  ∀ s : State,
    (MatrixOpen s → s.ms.mode = .hold → s.ms.checking = none → exec (.fabCmdLoad .mgt) s = .next { s with
      out := [.ack .mgt]
      ms := { s.ms with mode := .load, why := .none, crcReg := 0xFFFFFFFF, records := 0, loadEnd := loadTimer s } }) ∧
    (MatrixOpen s → s.ms.mode = .load → s.ms.checking = none →
      Completes (.fabCmdAbort .mgt) s (fun t => PortsDown t ∧ t = { s with
        out := [.ack .mgt], ports := t.ports, strands := t.strands
        ms := { s.ms with mode := .hold, why := .noImage, loadEnd := none, checking := none } }) ∧
      ∀ crc : BitVec 32,
        let fails := fun (why : HoldWhy) => Completes (.sealWrite .mgt crc) s fun t => PortsDown t ∧ t = { s with
          out := [.ack .mgt], ports := t.ports, strands := t.strands
          ms := { s.ms with mode := .hold, why := why, loadEnd := none, checking := none, chkResult := 3, chkWhy := why, chkOffset := 0 } }
        (s.clasp.state ≠ .idle → fails .clasp) ∧
        (s.clasp.state = .idle → crc ≠ runCrc s → fails .crc) ∧
        (s.clasp.state = .idle → crc = runCrc s → exec (.sealWrite .mgt crc) s = .next { s with
          out := [.ack .mgt]
          ms := { s.ms with checking := some .seal, loadEnd := none, chkResult := 1, chkWhy := .none, chkOffset := 0 } })) ∧
    ∀ e, s.ms.loadEnd = some e → s.ms.mode = .load → Completes .loadTimeout s fun t => PortsDown t ∧ t.clk.cyc = max s.clk.cyc e ∧
      t = { s with out := [], clk := t.clk, cnt := lateCounted s t.clk, ports := t.ports, strands := t.strands
                   ms := { s.ms with mode := .hold, why := .loadTimeout, loadEnd := none, checking := none } }

/-- R379, R384, R397: the checker's end. A finding enters HOLD with its code, and FAB_CHK holds RESULT, WHY and the offset; without one the
fabric enters RUN from a seal, TEST from a request for it, and RUN or DEGRADED from RESTORE with the keepsake consumed. -/
def Obligations.CheckerVerdict : Prop :=
  ∀ (s : State) (what : ChkFor), s.ms.checking = some what → Completes .configurationCheckerDone s fun t =>
    (∀ why off, checkConfig (begin s) = some (why, off) →
      t.ms.mode = .hold ∧ t.ms.why = why ∧ t.ms.chkResult = 3 ∧ t.ms.chkWhy = why ∧ t.ms.chkOffset = BitVec.ofNat 24 off) ∧
    (checkConfig (begin s) = none → t.ms.checking = none ∧ t.ms.chkResult = 2 ∧ t.ms.why = .none ∧
      (what = .seal → t.ms.mode = .run) ∧ (what = .test → t.ms.mode = .test ∧ t.ks.valid = false) ∧
      (what = .restore → (t.ms.mode = .run ∨ t.ms.mode = .degraded) ∧ t.ks.valid = false ∧ t.ms.gtHold = true))

/-- R379, R386: DRAIN entry by a command, by the fall of PF_WARN_n and by the loss of RPLL: its source and destination are recorded, the
clasp set is gone, the planner is suspended, a write that waits for the set comes too late, and a drain to KEEP makes the keepsake invalid. -/
def Obligations.DrainEntry : Prop :=
  ∀ s : State, s.ms.heldReset = none → s.ms.mode = .run ∨ s.ms.mode = .degraded →
    (MatrixOpen s → ∀ m ∈ [Master.mgt, .pfc],
      Completes (.drainToHold m) s (fun t => t.ms.mode = .drain ∧ t.ms.drainSrc = .command ∧ t.ms.drainKeep = false ∧
        t.ms.drainShort = false ∧ t.clasp.state = .idle ∧ t.planner.suspended = true) ∧
      Completes (.drainToKeep m) s (fun t => t.ms.mode = .drain ∧ t.ms.drainSrc = .command ∧ t.ms.drainKeep = true ∧
        t.ms.drainShort = false ∧ t.clasp.state = .idle ∧ t.planner.suspended = true ∧ t.ks.valid = false)) ∧
    Completes .pfWarnFall s (fun t => t.pins.pfWarnLow = true ∧ t.ms.mode = .drain ∧ t.ms.drainSrc = .pfWarn ∧ t.ms.drainKeep = true ∧
      t.clasp.state = .idle ∧ t.planner.suspended = true ∧ t.ks.valid = false ∧ t.withheld = s.withheld.filter fun a => !a.wr) ∧
    Completes .rpllLoss s (fun t => t.ms.mode = .drain ∧ t.ms.drainSrc = .rpll ∧ t.ms.drainKeep = true ∧
      t.ms.drainRpll = true ∧ t.clk.rpll = false ∧ t.clk.pfclk = true ∧ t.clasp.state = .idle ∧ t.planner.suspended = true ∧
      t.ks.valid = false)

/-- R379, R388, R392: the end of a drain. A short one enters KEEP; a full one with destination HOLD enters HOLD with QUIESCED; one with
destination KEEP saves. In KEEP, KEEP_EN and PF_DONE are high. -/
def Obligations.DrainEnds : Prop :=
  ∀ s : State, s.ms.mode = .drain →
    Completes .drainFinal s fun t =>
      if s.ms.drainShort = true then t.ms.mode = .keep ∧ t.pins.keepEn = true ∧ t.pins.pfDone = true
      else if s.ms.drainKeep = true then
        t.ms.mode = .keep ∧ t.pins.keepEn = true ∧ t.pins.pfDone = true ∧ t.ks.valid = true ∧ t.ks.attempts = 0 ∧ t.ks.straps = s.straps ∧
          t.ks.build = s.ident.build ∧ t.ks.drainSrc = s.ms.drainSrc
      else t.ms.mode = .hold ∧ t.ms.why = .quiesced ∧ t.rtr = {} ∧ t.clk.pfclk = false ∧ t.planner.suspended = false ∧ PortsDown t

/-- R394 to R396: FAB_CMD.RESTORE in HOLD with a good keepsake enters RESTORE; a reload whose segments are whole and of this build goes
on to the checker, one with a damaged segment enters HOLD with KEEPSAKE and the keepsake is invalid; GT_HOLD ends. -/
def Obligations.RestoreSteps : Prop :=
  ∀ s : State,
    (MatrixOpen s → s.ms.mode = .hold → s.ms.checking = none → s.ks.valid = true → s.ks.lost = false → s.straps.test = false →
      s.pins.pfWarnLow = false → Completes (.fabCmdRestore .mgt) s fun t =>
        t.ms.mode = .restore ∧ t.ks.attempts = min 15 (s.ks.attempts + 1) ∧ t.ms.joinAt = s.clk.cyc) ∧
    (s.ms.mode = .restore → s.ms.checking = none → s.ks.lost = false → s.ks.build = s.ident.build →
      Completes (.restoreReloadDone []) s fun t =>
        t.ms.mode = .restore ∧ t.ms.checking = some .restore ∧ t.ms.chkResult = 1 ∧ t.ks.check = 1 ∧ t.ks.calcCrc = s.ks.stored ∧
          t.tbls = s.ks.image.tbls ∧ t.changes = s.ks.image.changes ∧ t.epoch.active = s.ks.image.epoch) ∧
    (∀ bad : List (Fin 59), bad ≠ [] → s.ms.mode = .restore → s.ms.checking = none → Completes (.restoreReloadDone bad) s fun t =>
      t.ms.mode = .hold ∧ t.ms.why = .keepsake ∧ t.ks.valid = false ∧ t.tbls = s.tbls ∧ t.regs = s.regs) ∧
    (s.ms.gtHold = true → Completes .gtHoldClear s fun t =>
      t = { s with out := [], clk := t.clk, cnt := t.cnt, ms := { s.ms with gtHold := false } } ∧ s.clk.cyc ≤ t.clk.cyc ∧ slotNow t = 0)

/-- R379, R393, R469, R474: a rise of PF_WARN_n outside HOLD with POWER moves nothing but the pin's level, and without a valid keepsake it
ends HOLD with POWER in HOLD with NO_IMAGE; LOST sets; the loss of VDD_KEEP leaves every always-on field at its reset value. -/
def Obligations.PinsAndKeepsake : Prop :=
  ∀ s : State,
    (s.ms.mode ≠ .hold ∨ s.ms.why ≠ .power → exec .pfWarnRise s = .next { s with out := [], pins := { s.pins with pfWarnLow := false } }) ∧
    (s.ms.mode = .hold → s.ms.why = .power → s.ms.heldReset = none → s.ks.valid = false → Completes .pfWarnRise s fun t =>
      t.pins.pfWarnLow = false ∧ t.ms.mode = .hold ∧ t.ms.why = .noImage) ∧
    exec .keepsakeLost s = .next { s with out := [], ks := { s.ks with lost := true } } ∧
    exec .vddKeepLoss s = .next { s with out := [], ks := { saves := s.ks.saves }, pins := { s.pins with keepGone := true } }

/-! ### Hallmarks, epochs, beads and the planner -/

/-- R149, R151 to R155: a submission by the proposer is judged, and queued whole where it is accepted: the lowest free entry of the global
queue, or of the queue of the tile its action names. -/
def Obligations.HallmarkSubmit : Prop :=
  ∀ s : State, Settled s → StoresWf s →
    let a := regGet s 0x1048
    let act := fld 7 0 a
    let target := fld 15 8 a
    let arg := fld 23 16 a
    let xdev := decide (fld 24 24 a = 1)
    let tl := tileF (actTile act target)
    (tileAction act = true → s.tiles[tl].isolated = false) →
    let submits := fun (c : Instr) (at? : Option Nat) =>
      let time := hmLaunchTime s act xdev at?
      let res := hmJudge s .software act target arg xdev time
      let e : HmEntry := { act := act, target := target, arg := arg, xdev := xdev, time := time
                           want := if frameAligned act then hmWant s xdev at? else time, order := s.hm.order, owner := .software }
      Completes c s fun t =>
        (res ≠ 1 → t = { s with out := [.ack .mgt], hm := { s.hm with result := res } }) ∧
        (res = 1 → tileAction act = false → ∃ i : Fin 32, s.hm.gq[i] = none ∧ t = { s with
          out := [.ack .mgt], hm := { s.hm with result := 1, order := s.hm.order + 1, lastId := i.val, gq := s.hm.gq.set i (some e) } }) ∧
        (res = 1 → tileAction act = true → ∃ i : Fin 8, (s.hm.tq[tl])[i] = none ∧ t = { s with
          out := [.ack .mgt]
          hm := { s.hm with result := 1, order := s.hm.order + 1, lastId := 32 + 8 * tl.val + i.val
                            tq := s.hm.tq.set tl ((s.hm.tq[tl]).set i (some e)) } })
    submits (.hmSubmitAtTime .mgt) (some (regGet s 0x1050).toNat) ∧ submits (.hmSubmitNextFrame .mgt) none

/-- R151, R153: a cancel takes out the entry it names more than 1,000 ns before its launch time, where no clasp queued it and it has not been
sent, and answers 9; otherwise it answers 0xA and takes nothing. 1,000 ns before its launch time a global entry is sent to the tiles. -/
def Obligations.HallmarkCancelAndSend : Prop :=
  ∀ s : State,
    (∀ id : BitVec 9, Settled s → StoresWf s →
      (∀ e, hmEntryOf s id.toNat = some e → e.owner ≠ .clasp → e.sent = false → ftimeNs s + 1000 < e.time →
        Completes (.hmCancel .mgt id) s fun t => hmEntryOf t id.toNat = none ∧
          (∀ k, k < 416 → k ≠ id.toNat → hmEntryOf t k = hmEntryOf s k) ∧ t.hm.result = 9 ∧ t = { s with out := [.ack .mgt], hm := t.hm }) ∧
      (∀ r, hmEntryOf s id.toNat = r → (∀ e, r = some e → e.owner = .clasp ∨ e.sent = true ∨ e.time ≤ ftimeNs s + 1000) →
        Completes (.hmCancel .mgt id) s fun t => t = { s with out := [.ack .mgt], hm := { s.hm with result := 0xA } })) ∧
    (∀ (i : Fin 32) (e : HmEntry), s.hm.gq[i] = some e → e.sent = false → TimeReaches s (e.time - 1000) → Completes (.hmSendToTiles i) s fun t =>
      t = { s with out := [], clk := t.clk, cnt := lateCounted s t.clk
                   hm := { s.hm with gq := s.hm.gq.set i (some { e with sent := true }) } } ∧
        e.time ≤ ftimeNs t + 1000)

/-- R131, R152, R380: an epoch switch launches at a frame boundary, the first from its time on: the other bank is active, the old epoch
drains, the banks' plan marks change places, and the bead bank goes with them where the entry says so; the mode becomes RUN by the planner's
return, and by any other switch DEGRADED where the fabric must be degraded. No table moves. -/
def Obligations.EpochSwitchLaunch : Prop :=
  ∀ (s : State) (id : Nat) (e : HmEntry), nextGlobal s 1 = some (id, e) → timeRuns s = true → actModeOk 1 s.ms.mode = true →
    let back := decide (e.owner = .planner) && s.epoch.planReturn
    let mode : Mode := if isRunning s.ms.mode = false then s.ms.mode else if back = true then .run
      else if mustDegrade { s with epoch := { s.epoch with active := !s.epoch.active } } then .degraded else s.ms.mode
    Completes .epochSwitch s fun t =>
      t.epoch.active = !s.epoch.active ∧ t.epoch.switch = .draining ∧ t.epoch.overdue = false ∧ t.epoch.wroteRoute = [] ∧
        max s.clk.cyc (launchCyc s e) ≤ t.epoch.launchAt ∧ (t.epoch.launchAt + s.clk.phase) % 128 = 0 ∧
        t.epoch.planned = s.epoch.plannedOther ∧ t.epoch.plannedOther = s.epoch.planned ∧
        (t.epoch.beadActive = if swapsBeads e then !s.epoch.beadActive else s.epoch.beadActive) ∧ t.tbls = s.tbls ∧ t.ks = s.ks ∧
        t.ms = { s.ms with mode := mode }

/-- R176, R396, R450, R451: a bead swap exchanges the bead banks at a frame boundary and ends GT_HOLD; a cameo copies every counter into its
shadow, FREEZE_ON and FREEZE_OFF stop and restart counting, in the cycle the entry names. The entry leaves its queue. -/
def Obligations.GlobalLaunches : Prop :=
  ∀ s : State, timeRuns s = true →
    (∀ (id : Nat) (e : HmEntry), nextGlobal s 2 = some (id, e) → actModeOk 2 s.ms.mode = true → Completes .beadSwap s fun t =>
      t.epoch.beadActive = !s.epoch.beadActive ∧ t.epoch.active = s.epoch.active ∧ t.epoch.beadPlanned = s.epoch.beadPlannedOther ∧
        t.ms = { s.ms with gtHold := false } ∧ t.hm = (hmRemove id s).hm ∧ t.tbls = s.tbls ∧ t.regs = s.regs ∧ t.ports = s.ports ∧
        slotNow t = 0) ∧
    (∀ (id : Nat) (e : HmEntry), nextGlobal s 3 = some (id, e) → actModeOk 3 s.ms.mode = true → Completes .cameo s fun t =>
      t.clk.cyc = max s.clk.cyc (launchCyc s e) ∧ (TimeReaches s e.want → e.want ≤ ftimeNs t) ∧
        t = { s with out := [], clk := t.clk, hm := (hmRemove id s).hm
                     cnt := { lateCounted s t.clk with shadow := (lateCounted s t.clk).val } }) ∧
    (∀ (id : Nat) (e : HmEntry), nextGlobal s 4 = some (id, e) → actModeOk 4 s.ms.mode = true → Completes .freezeOn s fun t =>
      t.clk.cyc = max s.clk.cyc (launchCyc s e) ∧
        t = { s with out := [], clk := t.clk, hm := (hmRemove id s).hm, cnt := { lateCounted s t.clk with frozen := true } }) ∧
    (∀ (id : Nat) (e : HmEntry), nextGlobal s 5 = some (id, e) → actModeOk 5 s.ms.mode = true → Completes .freezeOff s fun t =>
      t.clk.cyc = max s.clk.cyc (launchCyc s e) ∧
        t = { s with out := [], clk := t.clk, hm := (hmRemove id s).hm, cnt := { lateCounted s t.clk with frozen := false } })

/-- R211, R380, R435: PORT_POWER_HALLMARK, MODE_CHANGE and FAULT_INJECTION complete. A port power change drives fai_pwr of a FENCED port and
starts its 10 us; toward ON it also starts the way out of the fence; elsewhere it sets the port's sticky bit. A mode change to DEGRADED
takes, one to RUN only where nothing calls for DEGRADED. An injection of STALL holds its port's deliveries for its period, one of CORRUPT is
armed at its strand, and an entry that is not valid does nothing. -/
def Obligations.TargetedLaunches : Prop :=
  ∀ s : State, timeRuns s = true →
    (∀ (tile : Fin 48) (id : Nat) (e : HmEntry), nextTile s tile 6 = some (id, e) → actModeOk 6 s.ms.mode = true → Completes (.portPowerHallmark tile) s fun t =>
      let p := portF e.target
      let x := s.ports[p]
      let wait := fun (v : BitVec 2) => if x.pwr = v then none else some (x.pwr, t.clk.cyc + cycUs 10)
      t.clk.cyc = max s.clk.cyc (launchCyc s e) ∧
        t = { s with out := [], clk := t.clk, cnt := lateCounted s t.clk, hm := (hmRemove id s).hm, ports := t.ports, power := t.power
                     regs := t.regs } ∧
        (x.st ≠ .fenced → t.ports = s.ports ∧ t.power = s.power) ∧
        (x.st = .fenced → t.regs = s.regs) ∧
        (x.st = .fenced → e.arg ≠ 0 → t.power = s.power ∧
          t.ports = s.ports.set p { x with faiPwr := BitVec.ofNat 2 e.arg, pwrWait := wait (BitVec.ofNat 2 e.arg) }) ∧
        (x.st = .fenced → e.arg = 0 → x.pwr ≠ 2 → t.power = s.power ∧
          t.ports = s.ports.set p { x with faiPwr := 0, pwrWait := wait 0, powerUp := some (t.clk.cyc + pwrExit x.pwr) })) ∧
    (∀ (id : Nat) (e : HmEntry), nextGlobal s 7 = some (id, e) → actModeOk 7 s.ms.mode = true → Completes .modeChange s fun t =>
      t.clk.cyc = max s.clk.cyc (launchCyc s e) ∧
        t = { s with out := [], clk := t.clk, cnt := lateCounted s t.clk, hm := (hmRemove id s).hm, regs := t.regs
                     ms := { s.ms with mode := if e.arg = 1 then .degraded else if mustDegrade s then s.ms.mode else .run } } ∧
        (e.arg = 1 ∨ mustDegrade s = false → t.regs = s.regs)) ∧
    (∀ (tile : Fin 48) (id : Nat) (e : HmEntry), nextTile s tile 8 = some (id, e) → actModeOk 8 s.ms.mode = true → Completes (.faultInjection tile) s fun t =>
      let w := injGet s e.arg
      let u := nbits 49 43 w
      let left := { s with out := [], clk := t.clk, cnt := lateCounted s t.clk, hm := (hmRemove id s).hm }
      t.clk.cyc = max s.clk.cyc (launchCyc s e) ∧
        (64 ≤ e.arg ∨ w.testBit 63 = false → t = left) ∧
        (e.arg < 64 → w.testBit 63 = true → nbits 62 60 w = 4 → u < 2 → usedPort (2 * tile.val + u) = true →
          t = { left with ports := s.ports.set (portF (2 * tile.val + u))
                            { s.ports[portF (2 * tile.val + u)] with stallEnd := t.clk.cyc + cycNs (nbits 22 3 w) } }) ∧
        (∀ n, e.arg < 64 → w.testBit 63 = true → nbits 62 60 w = 1 → slotStrand tile.val u = some n →
          t = { left with flt := { s.flt with injs := s.flt.injs ++
            [{ dom := some (.strand n), src := 8, kind := 1, tile := tile.val, unit := u, net := netOf (nbits 59 58 w), bitA := nbits 42 33 w
               bitB := nbits 32 23 w, left := nbits 57 50 w, expect := nbits 57 50 w, endAt := none }] } }))

/-- R132, R135: the drain of an old epoch ends where no router holds a flit of it, and the fence masks of the old epoch clear; until then
the command does nothing. Four microseconds after the launch the drain is overdue; routers that still hold such flits report epoch mismatch,
and where none does, nothing else changes. -/
def Obligations.EpochDrain : Prop :=
  ∀ s : State, s.epoch.switch = .draining →
    (oldGone s = true → Completes .epochDrainDone s fun t => t.clk.cyc = max s.clk.cyc (oldLast s) ∧ t = { s with
      out := [], clk := t.clk, cnt := lateCounted s t.clk, epoch := { s.epoch with switch := .idle }
      ports := s.ports.map (fun x => { x with oldReq := 0, oldRsp := 0 }) }) ∧
    (oldGone s = false → exec .epochDrainDone s = .next { s with out := [] }) ∧
    (s.epoch.overdue = false → Completes .epochDrainOverdue s fun t =>
      t.epoch = { s.epoch with overdue := true } ∧ t.clk.cyc = max s.clk.cyc (s.epoch.launchAt + cycUs 4) ∧ t.tbls = s.tbls ∧ t.ks = s.ks) ∧
    (s.epoch.overdue = false → oldGone s = true → (∀ p : Fin 96, s.ports[p].ejq = []) → Completes .epochDrainOverdue s fun t =>
      t = { s with out := [], clk := t.clk, cnt := lateCounted s t.clk, epoch := { s.epoch with overdue := true } })

/-- R127, R129: in RUN or DEGRADED, with nothing in the way, the planner writes the inactive banks for its job and submits its switch: they
hold the plan of the loss, or none for a return. A plan the queue refused is submitted again at the next frame boundary. -/
def Obligations.PlannerCommands : Prop :=
  ∀ s : State, isRunning s.ms.mode = true → s.planner.suspended = false →
    (∀ j, s.planner.job = some j → planBlocked s = false → Completes .plannerApply s fun t =>
      t.planner.job = none ∧ t.planner.plan = s.planner.plan ∧ t.ms = s.ms ∧ t.ports = s.ports ∧ t.epoch.active = s.epoch.active ∧
        t.epoch.wroteRoute = [] ∧
        (∀ l, j = .detour l → t.epoch.plannedOther = some l ∧ t.epoch.planReturn = false ∧ t.epoch.beadPlannedOther = true) ∧
        (j = .back → t.epoch.plannedOther = none ∧ t.epoch.planReturn = true ∧ t.epoch.beadPlannedOther = false)) ∧
    (s.planner.unqueued = true → Completes .plannerResubmit s fun t =>
      t.tbls = s.tbls ∧ t.epoch = s.epoch ∧ s.clk.cyc ≤ t.clk.cyc ∧ slotNow t = 0 ∧
        (t.planner.unqueued = false → ∃ i : Fin 32, s.hm.gq[i] = none ∧
          (t.hm.gq[i]).any (fun e => decide (e.act = 1 ∧ e.owner = .planner)) = true))

/-! ### Frames -/

/-- What a command that moves only ports, strands and their presence, the sequencer, lockets, counters and sticky bits leaves as it was: the
modes, the other pins, straps, identity and keepsake; the clocks' meanings, the hallmarks, the epoch, the planner, the routers, the tiles and
the pool agent; the fault domains, the samplers, the clasp, the power schedule; every table, CHANGES, view, selector, latched half and
withheld access; the queue. -/
def Obligations.CalmFrame : Prop :=
  ∀ (i : Instr) (s t : State), calmCommand i = true → exec i s = .next t →
    t = { s with
      out := t.out, clk := t.clk, ports := t.ports, strands := t.strands, seqr := t.seqr, lock := t.lock, cnt := t.cnt, regs := t.regs
      freeCtr := t.freeCtr, pins := { s.pins with prsntLow := t.pins.prsntLow } } ∧
      s.clk.cyc ≤ t.clk.cyc ∧ s.freeCtr ≤ t.freeCtr

/-- What a command of a unit leaves as it was: the mode and its state, the pins but the strands' presence, the straps, the identity and the
keepsake, the active and the staged epoch, every table, CHANGES, view, selector, latched half and withheld access, and the queue. -/
def Obligations.QuietFrame : Prop :=
  ∀ (i : Instr) (s t : State), quietCommand i = true → exec i s = .next t →
    t.pending = s.pending ∧ t.ident = s.ident ∧ t.straps = s.straps ∧ pinsHeld t.pins = pinsHeld s.pins ∧ t.ms = s.ms ∧ t.ks = s.ks ∧
      t.epoch = s.epoch ∧ t.tbls = s.tbls ∧ t.changes = s.changes ∧ t.views = s.views ∧ t.halves = s.halves ∧ t.selHeld = s.selHeld ∧
      t.withheld = s.withheld ∧ s.freeCtr ≤ t.freeCtr ∧ s.clk.cyc ≤ t.clk.cyc

/-! ### The clasp -/

/-- R411 to R413, R415: the staging of a set. CLASP_OPEN opens an empty one where none is open; CLASP_DATA appends a legal write under
the view the set has staged for its page, and any other discards the set with its cause; CLASP_OPEN closes a set that is not empty and starts its 50 ms; the confirmer's right digest sends it to
the checker, a wrong one discards it. A write out of sequence only sets SEQ_REJ. -/
def Obligations.ClaspStaging : Prop :=
  ∀ s : State, MatrixOpen s → s.ms.mode ≠ .drain →
    Completes (.claspOpen .mgt) s (fun t => t = { s with
      out := [.ack .mgt], ms := (foldLoad .mgt 0x2040 8 1 s).ms
      clasp := if s.clasp.state = .idle ∧ claspModes s.ms.mode = true then { s.clasp with state := .staging, recs := [], count := 0, cause := 0 }
        else { s.clasp with seqRej := true } }) ∧
    Completes (.claspClose .mgt) s (fun t => t = { s with
      out := [.ack .mgt], ms := (foldLoad .mgt 0x2040 8 2 s).ms
      clasp := if s.clasp.state = .staging ∧ s.clasp.recs ≠ [] then { s.clasp with state := .closed, timer := s.clk.cyc + cycMs 50 }
        else { s.clasp with seqRej := true } }) ∧
    (∀ data : BitVec 64,
      let off := fld 23 0 (regGet s 0x2048)
      let width := fld 27 24 (regGet s 0x2048)
      Completes (.claspStage .mgt data) s fun t => t = { s with out := [.ack .mgt], ms := t.ms, clasp := t.clasp } ∧
        t.ms = (foldLoad .mgt 0x2050 8 data.toNat s).ms ∧
        (s.clasp.state ≠ .staging → t.clasp = { s.clasp with seqRej := true }) ∧
        (s.clasp.state = .staging → 256 ≤ s.clasp.recs.length → t.clasp = { s.clasp with state := .idle, recs := [], cause := 5 }) ∧
        (s.clasp.state = .staging → s.clasp.recs.length < 256 → claspAddrBad s off width = true →
          t.clasp = { s.clasp with state := .idle, recs := [], cause := 6, offset := off }) ∧
        (∀ pg, pageOf off = some pg → s.clasp.state = .staging → s.clasp.recs.length < 256 → claspAddrBad s off width = false →
          t.clasp = { s.clasp with count := s.clasp.count + 1, recs := s.clasp.recs ++
            [{ off := off, width := width, data := word (data.toNat % 2 ^ (8 * width)), sel := (stagedView s pg).1, bank := (stagedView s pg).2 }] })) ∧
    (∀ (m : Master) (digest : BitVec 32), confirmer s = m → s.ms.mode ≠ .load →
      Completes (.claspConfirm m digest) s fun t => t = { s with
        out := [.ack m]
        clasp := if s.clasp.state ≠ .closed then { s.clasp with seqRej := true }
          else if digest.toNat = claspDigest s then { s.clasp with state := .checking, snap := s.changes }
          else { s.clasp with state := .idle, recs := [], cause := 3 } })

/-- R55, R411, R414, R416 to R418: the checker's verdict confirms or discards the set; arming queues its entry; a cancel discards it, unless
its entry has been sent or is within 1,000 ns of its launch; 50 ms after closing it is discarded; at its launch it applies, unless a bank it writes is locked or a page it
depends on has changed. From its entry's sending to its launch an access to a page it writes is withheld, and is granted at the launch. -/
def Obligations.ClaspEnds : Prop :=
  ∀ s : State,
    (s.clasp.state = .checking → Completes .claspCheckDone s fun t =>
      (claspBankLocked s = true → t = { s with out := [], clasp := { s.clasp with state := .idle, recs := [], cause := 8 } }) ∧
      (claspBankLocked s = false → checkConfig (settled { s with out := [] }) = none → t = { s with out := [], clasp := { s.clasp with state := .confirmed } }) ∧
      (∀ why off, checkConfig (settled { s with out := [] }) = some (why, off) → claspBankLocked s = false →
        t = { s with out := [], regs := t.regs
                     clasp := { s.clasp with state := .idle, recs := [], cause := 7, chkWhy := why, offset := off } })) ∧
    (∀ time : BitVec 64, Settled s → s.clasp.state = .confirmed → Completes (.claspArm .mgt time) s fun t =>
      let at? := if time = 0 then none else some time.toNat
      let res := hmJudge s .clasp 9 0 0 false (hmLaunchTime s 9 false at?)
      (res ≠ 1 → t = { s with out := [.ack .mgt], hm := { s.hm with result := res } }) ∧
      (res = 1 → ∃ i : Fin 32, s.hm.gq[i] = none ∧ t = { s with
        out := [.ack .mgt], clasp := { s.clasp with state := .armed }
        hm := { s.hm with result := 1, order := s.hm.order + 1, lastId := i.val
                          gq := s.hm.gq.set i (some { act := 9, time := hmLaunchTime s 9 false at?, want := hmLaunchTime s 9 false at?
                                                      order := s.hm.order, owner := .clasp }) } })) ∧
    (∀ m ∈ [.mgt, confirmer s], s.ms.mode ∉ [.keep, .drain, .load] → s.ms.heldReset = none → s.ms.checking ≠ some .seal → s.withheld = [] →
      claspHolds s 0x2060 = false → s.clasp.state ≠ .idle → Completes (.claspCancel m) s fun t =>
      let gone := { s.clasp with state := CState.idle, recs := [], cause := if m = .mgt then 1 else 2 }
      (s.clasp.state ≠ .armed → t = { s with out := [.ack m], clasp := gone }) ∧
      (∀ id e, claspEntry s = some (id, e) → s.clasp.state = .armed → cancellable s e = true →
        t = { s with out := [.ack m], clasp := gone, hm := (hmRemove id s).hm }) ∧
      (∀ id e, claspEntry s = some (id, e) → s.clasp.state = .armed → cancellable s e = false →
        t = { s with out := [.ack m], clasp := { s.clasp with late := true } })) ∧
    (s.clasp.state = .closed ∨ s.clasp.state = .checking ∨ s.clasp.state = .confirmed → Completes .claspTimeout s fun t =>
      t = { s with out := [], clk := t.clk, cnt := lateCounted s t.clk, clasp := { s.clasp with state := .idle, recs := [], cause := 4 } } ∧
        t.clk.cyc = max s.clk.cyc s.clasp.timer) ∧
    (∀ id e, nextGlobal s 9 = some (id, e) → timeRuns s = true → s.clasp.state = .armed → actModeOk 9 s.ms.mode = true → s.withheld = [] →
      let left := (hmRemove id s).hm
      let locked := claspBankLocked { s with hm := left }
      Completes .claspApply s fun t =>
        (locked = true → t = { s with
          out := [], clk := t.clk, cnt := lateCounted s t.clk, hm := left, clasp := { s.clasp with state := .idle, recs := [], cause := 8 } }) ∧
        (locked = false → claspStale s = true → t = { s with
          out := [], clk := t.clk, cnt := lateCounted s t.clk, hm := left, clasp := { s.clasp with state := .idle, recs := [], cause := 9 } }) ∧
        (locked = false → claspStale s = false → s.clasp.recs.filter isFabCmd = [] →
          t.clasp.state = .idle ∧ t.clasp.recs = [] ∧ t.clasp.cause = 0 ∧
          ∀ r, s.clasp.recs = [r] → r.off = 0x58 → r.width = 8 → t = { s with
            out := [], clk := t.clk, cnt := lateCounted s t.clk, hm := left, regs := t.regs, changes := (bumpAll [0] s).changes
            clasp := { s.clasp with state := .idle, recs := [], cause := 0 } } ∧
            regGet t 0x58 = regGet (regSet 0x58 (word (mergeFields (fieldsAt ⟨.global, 0, 0⟩ 0x58) true (2 ^ 64 - 1)
              (regGet s 0x58).toNat r.data.toNat)) s) 0x58)) ∧
    (∀ a, s.withheld = [a] → ∀ id e, nextGlobal s 9 = some (id, e) → timeRuns s = true → s.clasp.state = .armed → actModeOk 9 s.ms.mode = true →
      a.wr = true → claspStale s = true → Completes .claspApply s fun t => t.withheld = [] ∧ .ack a.m ∈ t.out ∧ t.clasp.state = .idle) ∧
    (∀ (m : Master) (off : BitVec 24) (size : Nat) (data : BitVec 64) (ecc : Ecc), s.ms.mode ≠ .keep → s.ms.heldReset = none →
      claspHolds s off.toNat = true →
      let waits := fun (wr : Bool) (d : Nat) => { s with
        out := [], withheld := s.withheld ++ [{ m := m, off := off.toNat, size := size, wr := wr, data := d, ecc := ecc }] }
      exec (.registerWrite m off size data ecc) s = .next (waits true data.toNat) ∧
        exec (.registerRead m off size ecc) s = .next (waits false 0))

/-! ### The register matrix -/

/-- R5 to R8, R381, R408 to R410, R446, R448: a write of a whole setting by the proposer leaves what its fields admit and no other
register changed, beside PROFILE_STALE, and in LOAD enters the running CRC; one by a master without the right changes nothing but its violation counter; a 64-bit write of a
counter presets it, an increment of that cycle being lost (R449). -/
def Obligations.RegisterWrites : Prop :=
  ∀ (s : State), StoresWf s → MatrixOpen s → s.ms.mode ≠ .drain →
    ∀ (off : BitVec 24) (size : Nat) (data : BitVec 64) (pg : Page), pageOf off.toNat = some pg →
    let o := inPage pg off.toNat
    (mayWrite s .mgt pg o = true → answers s pg o = true → regionOf o = .basic → actingReg pg o = false → pg.base + o = off.toNat →
      size = regWidth pg o → off.toNat % size = 0 → o % size = 0 → Completes (.registerWrite .mgt off size data .clean) s fun t =>
        t = { s with out := [.ack .mgt], regs := t.regs, ms := (foldLoad .mgt off.toNat size data.toNat s).ms } ∧
          regGet t off.toNat = word (mergeFields (fieldsAt pg o) (decide (kindClass pg.kind = .clasp)) (2 ^ (8 * size) - 1)
            (regGet s off.toNat).toNat (data.toNat % 2 ^ (8 * size))) ∧
          ∀ k, k ≠ off.toNat → k ≠ pg.base + 0x14 → regGet t k = regGet s k) ∧
    (∀ m, s.ms.mode ≠ .load → mayWrite s m pg o = false → regionOf o = .basic ∨ regionOf o = .expert ∨ regionOf o = .tables ∨ regionOf o = .mirror →
      sizeOk off.toNat size = true → accessParts pg off.toNat size = [(off.toNat, size)] →
      Completes (.registerWrite m off size data .clean) s fun t => t = { s with out := [.ack m], regs := t.regs, cnt := t.cnt } ∧
        cntVal t (violOff (masterNum m)) = (cntVal s (violOff (masterNum m)) + 1) % 2 ^ 48 ∧
        (∀ k, k ≠ violOff (masterNum m) → regGet t k = regGet s k ∧ cntVal t k = cntVal s k)) ∧
    (∀ c, counterAt pg o = some c → s.ms.mode ≠ .load → regionOf o = .status ∨ (regionOf o = .tables ∧ mayWrite s .mgt pg o = true) → viewSel s .mgt pg.base < 0xFE →
      answers s pg (o / regWidth pg o * regWidth pg o) = true → sizeOk off.toNat size = true → accessParts pg off.toNat size = [(off.toNat, size)] →
      Completes (.counterPreset .mgt off size data) s fun t => t = { s with out := [.ack .mgt], cnt := t.cnt } ∧ t.cnt.ovf = s.cnt.ovf ∧
        (size = 8 → cntVal t c = data.toNat % 2 ^ 48 ∧ t.cnt.late = s.cnt.late.filter fun x => !decide (x = (s.clk.cyc, c))) ∧
        (size = 4 → o % 8 = 0 → t.cnt = { s.cnt with
          wrLatch := spSet (0, 0) s.cnt.wrLatch (latchKey .mgt pg.base) (c, data.toNat % 2 ^ 32) }) ∧
        (size = 4 → o % 8 = 4 → spGet (0, 0) s.cnt.wrLatch (latchKey .mgt pg.base) = (c, data.toNat % 2 ^ 32) →
          cntVal t c = data.toNat % 2 ^ 16 * 2 ^ 32 + data.toNat % 2 ^ 32))

/-- R38, R406, R408 to R410, R447: a read by a master that may read delivers the word and changes nothing; a 32-bit read of the low half of
a counter latches its high half for this master. An access that times out is counted with its master, and is lost or performed as the free
value of log entry 1 has it. -/
def Obligations.RegisterReads : Prop :=
  ∀ s : State, s.ms.mode ≠ .keep → s.ms.heldReset = none → NoneWithheld s →
    ∀ (m : Master) (off : BitVec 24) (pg : Page), pageOf off.toNat = some pg →
    let o := inPage pg off.toNat
    (∀ size, mayRead s m pg o = true → counterAt pg o = none → ¬(pg.kind = .mirror ∧ 0x1000 ≤ o) → sizeOk off.toNat size = true →
      accessParts pg off.toNat size = [(off.toNat, size)] → Completes (.registerRead m off size .clean) s fun t => t = { s with
        out := [.readData m (word (readWord s m pg (o / regWidth pg o * regWidth pg o) / 2 ^ (8 * (o % regWidth pg o)) % 2 ^ (8 * size)))] }) ∧
    (∀ c, counterAt pg o = some c → mayRead s m pg o = true → pg.kind ≠ .mirror → isViol c = false → c ≠ toOff → viewSel s m pg.base < 0xFE →
      dark s pg = false → off.toNat % 8 = 0 → o % 8 = 0 → Completes (.counterLowRead m off) s fun t => t = { s with
        out := [.readData m (word (cntVal s c % 2 ^ 32))]
        cnt := { s.cnt with rdLatch := spSet (0, 0) s.cnt.rdLatch (latchKey m pg.base) (c, cntVal s c >>> 32) } }) ∧
    (∀ size write data, Completes (.accessTimeout m off size write data) s fun t =>
      let u := timeoutCount m { s with out := [], freeCtr := s.freeCtr + 1 }
      let done := if write then writeAccess m off.toNat size data.toNat u else (readAccess m off.toNat size u).2
      u = { s with out := [], freeCtr := s.freeCtr + 1, regs := u.regs, cnt := u.cnt } ∧
        (StoresWf s → s.cnt.frozen = false → cntVal u toOff = (cntVal s toOff + 1) % 2 ^ 48) ∧
        t = { emit (if write then .ack m else .readData m 0) (if Config.freeBit s.freeCtr then done else u) with pending := s.pending })

/-- R46, R47, R58, R59: a PG_CTRL write sets the writing master's view of the page alone. EXPERT_EN set gives every expert register of
the page the value its profile implies, and where the page has none it holds its profile selectors; cleared, their reset values, and
PROFILE_STALE clears. -/
def Obligations.ViewsAndExpert : Prop :=
  ∀ s : State, MatrixOpen s → ∀ (page : BitVec 24) (pg : Page), pageOf page.toNat = some pg →
    (∀ (m : Master) (sel : BitVec 8) (bank : Bool), mayReadPage s m pg = true →
      Completes (.viewSelect m page sel bank) s fun t => t = { s with
        out := [.ack m]
        ms := (foldLoad m (pg.base + 0x10) 4 (ctrlWord sel.toNat bank (expertEn s pg.base)) s).ms
        views := spSet 0 s.views (viewKey m pg.base) ((if hasTables pg.kind then sel.toNat else 0) + 256 * b2n (bank && isBanked pg.kind)) }) ∧
    (StoresWf s → mayExpert s .mgt pg = true → expertEn s pg.base = false → Completes (.expertEnable .mgt page) s fun t =>
      t = { s with
        out := [.ack .mgt], regs := t.regs, views := t.views
        selHeld := if barePage pg.kind then spSet 0 s.selHeld pg.base ((regGet s (pg.base + 0x40)).toNat + 1) else s.selHeld
        ms := (foldLoad .mgt (pg.base + 0x10) 4 (ctrlWord (viewSel s .mgt pg.base) (viewBank s .mgt pg.base) true) s).ms } ∧ expertEn t pg.base = true ∧
        ∀ o ∈ expertRegs pg.kind, regGet t (pg.base + o) = word (impliedWord s pg o)) ∧
    (StoresWf s → mayExpert s .mgt pg = true → expertEn s pg.base = true → Completes (.expertDisable .mgt page) s fun t =>
      t = { s with
        out := [.ack .mgt], regs := t.regs, views := t.views
        selHeld := if barePage pg.kind then spSet 0 s.selHeld pg.base 0 else s.selHeld
        ms := (foldLoad .mgt (pg.base + 0x10) 4 (ctrlWord (viewSel s .mgt pg.base) (viewBank s .mgt pg.base) false) s).ms } ∧ expertEn t pg.base = false ∧
        (regGet t (pg.base + 0x14)).toNat.testBit 2 = false ∧ ∀ o ∈ expertRegs pg.kind, regGet t (pg.base + o) = regReset (pg.base + o))

/-- R454, R456: SMP_CTRL.CLEAR empties the store of its sampler; a sample that has not ended 65,536 cycles after its start is dropped and
counted, and the next interval is drawn. -/
def Obligations.Samplers : Prop :=
  ∀ (s : State) (n : Fin 4),
    (Settled s → StoresWf s → Completes (.samplerClear .mgt n) s fun t =>
      t = { s with
        out := [.ack .mgt], regs := t.regs
        samps := s.samps.set n { s.samps[n] with records := [], held := 0, next := 0, wrap := false, full := false } } ∧
          ∀ k, k ≠ samplerPage n.val + 0x68 → regGet t k = regGet s k) ∧
    (∀ at' t0 bw, s.samps[n].flight = some (at', t0, bw) → Completes (.sampleTimeout n) s fun t =>
      t = { s with out := [], clk := t.clk, cnt := lateCounted s t.clk, samps := t.samps } ∧ t.clk.cyc = max s.clk.cyc (at' + 65536) ∧ t.samps[n].flight = none ∧
        t.samps[n].lost = s.samps[n].lost + 1 ∧ t.samps[n].records = s.samps[n].records ∧ t.samps[n].count = 0 ∧
        ∀ k : Fin 4, k ≠ n → t.samps[k] = s.samps[k])


/-- R36, R410: a violation is silent. A read that the master may not make returns zero, a write it may not make changes nothing, and each is
acknowledged as usual; the one record is the master's violation counter, with the KIND of the page. A hole reads zero, ignores writes, and counts
nothing. The commands written to registers are judged alike, whoever sends them. -/
def Obligations.Violations : Prop :=
  ∀ (s : State) (m : Master), StoresWf s → MatrixOpen s →
    let v := violOff (masterNum m)
    let silent := fun (kind : Nat) (o : List Out) (t : State) =>
      t = { s with out := o, regs := t.regs, cnt := t.cnt } ∧ cntVal t v = (cntVal s v + 1) % 2 ^ 48 ∧ fld 55 48 (regGet t v) = kind ∧
        ∀ k, k ≠ v → regGet t k = regGet s k ∧ cntVal t k = cntVal s k
    let writes := fun (kind : Nat) (cs : List Instr) => ∀ c ∈ cs, Completes c s (silent kind [.ack m])
    (∀ (off : BitVec 24) (size : Nat), sizeOk off.toNat size = true →
      (pageOf off.toNat = none →
        Completes (.registerRead m off size .clean) s (fun t => t = { s with out := [.readData m 0] }) ∧
        ∀ data, m ≠ .mgt ∨ s.ms.mode ≠ .load → Completes (.registerWrite m off size data .clean) s fun t => t = { s with out := [.ack m] }) ∧
      ∀ pg, pageOf off.toNat = some pg → accessParts pg off.toNat size = [(off.toNat, size)] →
        (mayRead s m pg (inPage pg off.toNat) = false → Completes (.registerRead m off size .clean) s (silent (kindCode pg.kind) [.readData m 0])) ∧
        ∀ data, regionOf (inPage pg off.toNat) = .basic ∨ regionOf (inPage pg off.toNat) = .expert ∨ regionOf (inPage pg off.toNat) = .tables →
          s.ms.mode ≠ .drain → (s.ms.mode = .load ∧ m ≠ .mgt) ∨ (s.ms.mode ≠ .load ∧ mayWrite s m pg (inPage pg off.toNat) = false) →
            writes (kindCode pg.kind) [.registerWrite m off size data .clean]) ∧
    (s.ms.mode ≠ .drain → m ≠ .mgt →
      (∀ (id : BitVec 9) (crc : BitVec 32) (d : BitVec 64) (k : BitVec 2) (i : BitVec 7) (tl : Fin 48) (n : Fin 10) (z : Fin 4) (p : StrandPwr)
          (w : WidthReq),
        writes 1 [.sealWrite m crc] ∧ writes 2 [.hmSubmitAtTime m, .hmSubmitNextFrame m, .hmCancel m id, .syncDisable m] ∧
          writes 3 [.claspOpen m, .claspClose m, .claspStage m d, .claspArm m d] ∧ writes 4 [.fltAcknowledge m k i, .fltReadmit m k i] ∧
          writes 9 [.samplerClear m z] ∧ writes 0x10 [.tileIsolateCmd m tl, .tileReadmitCmd m tl] ∧
          writes 0x30 [.strandEnable m n, .strandDisable m n, .sreset m n, .retrain m n, .strandPwrReq m n p, .strandWidthReq m n w]) ∧
      (∀ p : Fin 96, usedPort p.val = true → writes 0x20 [.qreset m p, .fenceRequest m p, .fenceCancel m p]) ∧
      (m ≠ .pfc ∨ s.ms.mode = .load → writes 1 [.fabCmdLoad m, .fabCmdAbort m, .fabCmdRestore m, .drainToHold m, .drainToKeep m]) ∧
      (m ≠ confirmer s ∨ s.ms.mode = .load → ∀ d, writes 3 [.claspConfirm m d, .claspCancel m])) ∧
    (s.ms.mode ≠ .drain → s.ms.mode ≠ .load → m = .mgt → ∀ d, writes 3 [.claspConfirm m d])

/-! ### Packets -/

/-- R22, R67, R193, R194, R197, R198, R201: what a fabric half does with a flit its unit offers: without a credit it is a credit mismatch; a
malformed REQ is answered ERR MALFORMED and nothing goes out; a memory REQ takes the device and port of its address, an entry of the
open-request table and its place in the queue, with an echo; an RSP or a SNP is stamped, and numbered where it leaves the device; the LINE of
an open write goes where its write goes, in its class, under its label; LKOPEN, LKCOMMIT and LKABORT go to the locket block; the answer to a
PING is taken; a strand port re-injects what it received. While the unit's side of the crossing is not in RUN nothing crosses. -/
def Obligations.Offers : Prop :=
  ∀ (s : State) (p : Fin 96) (f : Flit), usedPort p.val = true →
    let x := s.ports[p]
    let key := qKey f.net f.cls
    let runs := fun (P : State → Prop) => Completes (.faiOffer p f) s fun t => P t ∧
      t = { s with out := t.out, clk := t.clk, cnt := t.cnt, seqr := t.seqr, lock := t.lock, ports := s.ports.set p t.ports[p] }
    let queued := fun (t : State) (q : QFlit) => t.clk = s.clk ∧
      t.ports[p].injq = (enqueue p q s).ports[p].injq ∧ t.ports[p].gtq = (enqueue p q s).ports[p].gtq
    let still := fun (t : State) => t.ports[p].injq = x.injq ∧ t.ports[p].gtq = x.gtq ∧ t.ports[p].opens = x.opens ∧ t.seqr = s.seqr
    let tag := BitVec.ofNat 12 (nbits 9 0 f.tag.toNat + at' x.gen.toNat 10)
    let own := { f with src := BitVec.ofNat 7 p.val, srcdev := ownDev s }
    let flow := fun (g : Flit) => if g.cls = .gt then flowOf s p.val g.net g.dst.toNat g.dstdev.toNat else none
    let classed := fun (g : Flit) => { g with cls := if flow g = none then noGt g.cls else g.cls }
    let vced := fun (g : Flit) => { g with vc := injectVc p.val g }
    let numbered := fun (g : Flit) =>
      let e := spGet 0 s.seqr.ctr (streamKey g.dstdev.toNat (streamNum g.net))
      if g.dstdev = ownDev s then { g with xf := false, e2seq := 0 } else { g with xf := true, e2seq := BitVec.ofNat 16 e }
    let counts := fun (g : Flit) (n : Nat) (t : State) =>
      let k := streamKey g.dstdev.toNat (streamNum g.net)
      t.seqr = if g.dstdev = ownDev s then s.seqr else { s.seqr with ctr := spSet 0 s.seqr.ctr k ((spGet 0 s.seqr.ctr k + n) % 2 ^ 16) }
    (x.xu.st ≠ .run → exec (.faiOffer p f) s = .next { s with out := [] }) ∧
    (x.xu.st = .run → spGet 0 x.injCrd key = 0 → Completes (.faiOffer p f) s fun t =>
      t = { faultEvent (.port p) srcCredit { s with out := [], ports := s.ports.set p (xFromUnit f.net x) } with pending := s.pending }) ∧
    (x.xu.st = .run → spGet 0 x.injCrd key ≠ 0 →
      (isStrandPort p.val = true → runs fun t => t.out = [] ∧ t.lock = s.lock ∧ t.seqr = s.seqr ∧
        queued t { flit := vced (classed f), place := f.cls, flow := flow f, since := s.clk.cyc }) ∧
      (isStrandPort p.val = false → f.transit = false →
        (isPingAnswer s p f = true → runs fun t => still t ∧ t.out = [] ∧ t.clk = s.clk ∧ t.ports[p].pingOut = none) ∧
        (isPingAnswer s p f = false →
          (f.net = .req → malformed (ownDev s) p.val f = true → isFwd f = false → ejCredit s p .rsp (noGt f.cls) ≠ 0 → runs fun t =>
            still t ∧ t.clk.cyc = max s.clk.cyc (spGet 0 x.outAt (netNum .rsp)) ∧
              t.out = [.deliver p { localErr { f with tag := tag } p.val (ownDev s) errMALFORMED 0 with
                cls := noGt f.cls, vc := clsVc (noGt f.cls) }]) ∧
          (malformed (ownDev s) p.val f = false → f.dst.toNat ≤ 95 →
            (f.net = .snp → runs fun t =>
              let g := numbered (classed { own with tag := tag })
              t.out = [] ∧ t.lock = s.lock ∧ counts f 1 t ∧ queued t { flit := vced g, place := f.cls, since := s.clk.cyc }) ∧
            (f.net = .rsp → runs fun t =>
              let g := numbered (classed own)
              t.out = [] ∧ counts f (1 + compCount f) t ∧
                queued t { flit := vced g, tid := some x.tids, place := f.cls, flow := flow own, since := s.clk.cyc }) ∧
            (f.net = .req → drainRefuses s p f = false → f.opc.toNat = opLKOPEN ∨ f.opc.toNat = opLKCOMMIT ∨ f.opc.toNat = opLKABORT →
              isFwd f = false → runs fun t => still t ∧ t.out = [] ∧ t.clk = s.clk ∧ t.lock = { s.lock with path := s.lock.path ++
                [(p, { own with tag := tag, attr := legalAttr p.val f, dstdev := ownDev s })] })) ∧
          (malformed (ownDev s) p.val f = false → f.net = .req → memAddressed f.opc.toNat = true → isFwd f = false →
            f.opc.toNat ≠ opLKSTAGE → drainRefuses s p f = false →
            (amLookup s f.addr.toNat = none → runs still) ∧
            (∀ dst dev, amLookup s f.addr.toNat = some (dst, dev) → ∀ i, freeOpen x = some i → runs fun t =>
              let named := { own with tag := tag, attr := legalAttr p.val f, dst := BitVec.ofNat 7 dst, dstdev := BitVec.ofNat 5 dev }
              let g := vced (numbered (classed named))
              t.out = [.echo p (BitVec.ofNat 10 (nbits 9 0 f.tag.toNat)) g.dst g.dstdev] ∧ t.lock = s.lock ∧ counts named (1 + compCount named) t ∧
                t.ports[p].opens = spIns x.opens i { req := g, tid := x.tids, gen := x.gen } ∧
                queued t { flit := g, tid := some x.tids, place := f.cls, flow := flow named, since := s.clk.cyc })) ∧
          (∀ i e, openWrite x f = some (i, e) → malformed (ownDev s) p.val f = false → f.dst.toNat ≤ 95 → f.net = .dat → f.msk = false →
            x.rspOpen = [] → e.req.dst = f.dst → e.req.dstdev = f.dstdev → e.req.xf = false → runs fun t =>
              let g := { f with
                src := e.req.src, srcdev := e.req.srcdev, tag := e.req.tag, cls := e.req.cls, xf := false, cnet := false, e2seq := 0 }
              t.out = [] ∧ t.lock = s.lock ∧ t.seqr = s.seqr ∧
                t.ports[p].opens = spIns x.opens i { e with taken := e.taken ||| (1 <<< f.lidx.toNat) } ∧
                queued t { flit := vced (classed g), tid := some e.tid, place := f.cls, flow := flow g, since := s.clk.cyc }))))

/-- R102, R163, R176, R483: in a slot of a flow whose packet waits and may go, both commands inject it; otherwise FABRIC_HALF_INJECT injects
the head of the class whose turn it is, where its head may go. The packet enters the router's buffer with the present epoch and the output it
asks for, two cycles on, for a credit; where none may go, the router sees nothing. At a strand port this is said while no stream holds
packets back. -/
def Obligations.Injections : Prop :=
  ∀ (s : State) (p : Fin 96) (n : Net) (k : Fin 128), usedPort p.val = true → halfRuns s p = true →
    isStrandPort p.val = false ∨ (∀ j, j < 96 → seqMap s j = []) →
    let a := runSlot (halfKey p n) k { s with out := [] }
    let x := s.ports[p]
    let into := fun (q : QFlit) => rKey (pTile p).val q.flit.net (lIn p) q.flit.vc.toNat
    let room := fun (q : QFlit) => (vcGet a (into q)).length < 4
    let sent := fun (t : State) (q : QFlit) =>
      let f := { q.flit with epoch := s.epoch.active }
      t.clk = a.clk ∧ ∃ m, t.rtr = { a.rtr with
        credits := spSet 4 a.rtr.credits (into q) (crdGet a (into q) - 1)
        vcs := spSet [] a.rtr.vcs (into q) (vcGet a (into q) ++
          [{ flit := f, dest := some (routeFlit a (pTile p).val f 0), ready := a.clk.cyc + 2, since := a.clk.cyc + 2, flow := q.flow, mark := m }]) }
    let may := fun (c : Cls) => match (spGet [] x.injq (qKey n c)).head? with | some q => canGo a p q | none => false
    (∀ e ∈ x.gtq, e.1 / 256 = netNum n → ∀ q ∈ e.2, flowOf s p.val n q.flit.dst.toNat q.flit.dstdev.toNat = q.flow) →
      (∀ fl, slotFlow a p.val n (slotNow a) = some fl → ∀ q r, spGet [] x.gtq (gKey n fl) = q :: r → canGo a p q = true → room q →
        let gone := fun (t : State) => sent t q ∧ t.ports[p].injq = x.injq ∧ t.ports[p].gtq = spSet [] x.gtq (gKey n fl) (match r with
          | [] => []
          | y :: z => { y with since := max y.since (a.clk.cyc + 1) } :: z)
        Completes (.gtSlotInject p n ⟨k, []⟩) s gone ∧ Completes (.fabricHalfInject p n ⟨k, []⟩) s gone) ∧
      (gtWaiting a p n = none → ∀ flips, Completes (.gtSlotInject p n ⟨k, flips⟩) s fun t =>
        t = { s with out := [], clk := a.clk, cnt := a.cnt, rtr := a.rtr }) ∧
      (gtWaiting a p n = none → spGet [] x.injq (reKey n) = [] → keyWf (fun _ => []) 0 x.injq = true →
        (injClass x n may = none → ∀ flips, Completes (.fabricHalfInject p n ⟨k, flips⟩) s fun t => t.clk = a.clk ∧ t.rtr = a.rtr) ∧
        (∀ c, injClass x n may = some c → ∀ q r, spGet [] x.injq (qKey n c) = q :: r → room q → Completes (.fabricHalfInject p n ⟨k, []⟩) s fun t =>
          sent t q ∧ t.ports[p].gtq = x.gtq ∧ spGet [] t.ports[p].injq (qKey n c) = r))

/-- R102, R104, R108, R115, R116: a router grants its only head, on a VC that no bead uses, the output its route names where it has a
credit: the flit leaves its VC, whose credit goes back, and stands two cycles later in the next router's VC with the output it asks for there,
or in the ejection queue of the port; routers of a tile that does not run only let time pass. After 512 cycles at the head a flit of TR moves
to TE. -/
def Obligations.RouterMoves : Prop :=
  ∀ (s : State) (t : Fin 48) (n : Net) (k : Fin 128),
    let a := runSlot (4 * t.val + netNum n) k { s with out := [] }
    (∀ errs, routerRuns s t = false → Completes (.routerGrant t n k errs) s fun z =>
      z = { s with out := [], clk := a.clk, cnt := a.cnt, rtr := a.rtr }) ∧
    (∀ (h : Head), heads a t.val n = [h] → routerRuns s t = true → s.flt.injs = [] → n ≠ .rsp ∨ spGet [] s.rtr.ansq t.val = [] →
      ∀ b rest, vcGet a (rKey t.val n h.inp h.vc) = b :: rest → ∀ r bump, h.dest = .out r bump →
      h.vc ≠ 0 → h.b.flit.cls ≠ .gt → hasCredit a t.val n r h.b.flit bump = true →
      beadValid (if n = .snp then 0 else beadOut a t.val n (rpNum r) s.epoch.beadActive (slotNow a)) = false →
      ∀ ku, creditKey t.val n h.inp h.vc = some ku → s.tiles[t].isolated = false → s.tiles[tileF (ku / 224)].isolated = false → crdGet a ku < 4 →
      let popped := popHead (rKey t.val n h.inp h.vc) a
      let back := crdReturn ku a
      let vc := nextVc h.b.flit.vc bump
      let moved := { h.b with
        flit := { h.b.flit with vc := vc }, legs := if bump && decide (h.b.flit.vc = 0) then h.b.legs + 1 else h.b.legs
        dest := none, ready := a.clk.cyc + 2, since := a.clk.cyc + 2, hops := h.b.hops + 1, flips := [] }
      (∀ u, rpNum r < 4 → neighbour t.val r = some u → s.tiles[tileF u].isolated = false →
        let dest := rKey (tileF u).val n (rpNum (opposite r)) vc.toNat
        (vcGet popped dest).length < 4 → Completes (.routerGrant t n k []) s fun z =>
          z = { s with out := [], clk := a.clk, rtr := z.rtr, cnt := z.cnt } ∧
            z.rtr.vcs = spSet [] popped.rtr.vcs dest (vcGet popped dest ++
              [{ moved with dest := some (routeFlit a u moved.flit moved.legs) }]) ∧
            z.rtr.credits = spSet 4 back.rtr.credits (rKey t.val n (rpNum r) vc.toNat) (crdGet back (rKey t.val n (rpNum r) vc.toNat) - 1)) ∧
      (∀ p, portF (2 * t.val + (rpNum r - 4)) = p → 4 ≤ rpNum r → isStrandPort p.val = false ∨ h.b.mark = none →
        Completes (.routerGrant t n k []) s fun z =>
        let x := s.ports[p]
        z = { s with out := [], clk := a.clk, rtr := z.rtr, cnt := z.cnt, ports := s.ports.set p z.ports[p] } ∧
          z.rtr.vcs = popped.rtr.vcs ∧ z.rtr.credits = back.rtr.credits ∧
          z.ports[p] = { x with
            ejCrd := spSet 0 x.ejCrd (qKey n h.b.flit.cls) (ejCredit s p n h.b.flit.cls - 1)
            ejq := spSet [] x.ejq (netNum n) (spGet [] x.ejq (netNum n) ++ [{ moved with flit := h.b.flit }]) })) ∧
    (∀ (inp : Fin 7) b rest, vcGet s (rKey t.val n inp.val 4) = b :: rest → routerRuns s t = true → b.flit.vc = vcTR →
      Completes (.trToTeMove t n inp k) s fun z =>
        let key := rKey t.val n inp.val 4
        let later := advanceToSlot k (advanceTo (b.since + 512) s)
        let f := { b.flit with vc := vcTE }
        z = { s with out := [], clk := later.clk, cnt := z.cnt, rtr := { s.rtr with
          vcs := spSet [] s.rtr.vcs key
            ({ b with flit := f, dest := some (routeFlit s t.val f b.legs), ready := later.clk.cyc + 1 } :: rest) } })

/-- R72, R86, R90, R105, R195, R197, R198, R205, R208, R339: two cycles after it came, the head of an ejection queue is delivered to a unit
in service, one in each unit-side cycle of its network, or leaves over the session of a strand; a request at a port whose fence is up is
answered ERR FENCED; an answer closes its entry, one of another generation is an orphan. An unpaired transit packet is discarded 100 us after
it came, and credits come back up to 63. -/
def Obligations.Ejections : Prop :=
  ∀ (s : State) (p : Fin 96), usedPort p.val = true →
    let x := s.ports[p]
    (∀ (n : Net) (b : BufFlit) (r : List BufFlit), spGet [] x.ejq (netNum n) = b :: r → b.flips = [] → b.mark = none → b.flit.net = n →
      let f := b.flit
      let popped := { x with ejq := spSet [] x.ejq (netNum n) r }
      let comes := max (max s.clk.cyc (b.ready + 2)) (if n = .req ∨ n = .snp then x.stallEnd else 0)
      let late := fun (t : State) => t.clk.cyc = comes
      let crosses := fun (t : State) => t.clk.cyc = max comes (spGet 0 x.outAt (netNum n))
      let gives := fun (t : State) (y : PortSt) => crosses t ∧ t = { s with
        out := [.deliver p f], clk := t.clk, cnt := t.cnt
        ports := s.ports.set p (xToUnit n { y with
          outAt := spSet 0 y.outAt (netNum n) (t.clk.cyc + unitCycle p.val), inCnt := if countsIn f then y.inCnt + 1 else y.inCnt }) }
      (isStrandPort p.val = false → portEn x = true →
        (n = .snp → Completes (.flitEject p n []) s fun t => gives t popped) ∧
        (n = .req → x.st = .active → f.xf = false → f.opc.toNat ≠ opLKSTAGE → f.opc.toNat ≠ opLKCOMMIT → f.opc.toNat ≠ opLKABORT →
          Completes (.flitEject p n []) s fun t => gives t { popped with
            refused := x.refused.filter fun a => !decide (a.flit.src = f.src ∧ a.flit.srcdev = f.srcdev ∧ a.flit.tag = f.tag) }) ∧
        (n = .req → x.st = .fencing → f.xf = false → f.opc.toNat ≠ opBABANDON → f.srcdev = ownDev s → compCount f = 0 →
          Completes (.flitEject p n []) s fun t => late t ∧ t.out = [] ∧
            let g := { answerTo f p.val (ownDev s) rspERR errFENCED 0 with cls := noGt f.cls, srcdev := ownDev s, xf := false, e2seq := 0 }
            let k := qKey .rsp (noGt f.cls)
            t.ports[p].injq = spSet [] x.injq k (spGet [] x.injq k ++
              [{ flit := { g with vc := injectVc p.val g }, fab := true, since := t.clk.cyc }])) ∧
        (n = .rsp → p ≠ locketPort s → f.xf = false → genOk s p f.tag = false → Completes (.flitEject p n []) s fun t =>
          late t ∧ t.out = [] ∧ t.ports[p].opens = x.opens) ∧
        (∀ i e, entryFor x f.tag = some (i, e) → n = .rsp → p ≠ locketPort s → f.xf = false → genOk s p f.tag = true →
          f.opc.toNat ≠ rspSNPRSP → isFinalRsp f = true → compMask f = 0 → e.ghostAt = none → e.reissued = false → e.req.opc.toNat ≠ opLKSTAGE →
            Completes (.flitEject p n []) s fun t => crosses t ∧ t.out = [.deliver p f] ∧ t.ports[p].opens = spDel x.opens i)) ∧
      (∀ m, strandOf p.val = some m → portEn x = true → s.strands[m].lnk.link = .up → Completes (.flitEject p n []) s fun t =>
        let l := s.strands[m].lnk
        let key := netNum n * 3 + (if f.vc = vcGT then 0 else if f.vc = vcTE then 2 else 1)
        late t ∧ t = { s with
          out := [], clk := t.clk, cnt := t.cnt, ports := s.ports.set p popped
          strands := s.strands.set m { s.strands[m] with lnk := { l with tx := spSet [] l.tx key (spGet [] l.tx key ++
            [{ flit := f, left := b.ready - (if b.flow.isSome && !b.displaced then 1 else 2), since := t.clk.cyc }]) } } })) ∧
    (∀ d at' r, x.pairDat = (d, at') :: r → Completes (.pairTimeout p) s fun t =>
      t.clk.cyc = max s.clk.cyc (at' + cycUs 100) ∧ t = { s with out := [], clk := t.clk, cnt := t.cnt, ports := s.ports.set p { x with
        pairDat := r
        ejCrd := if portEn x then spSet 0 x.ejCrd (qKey d.net d.cls) (min 63 (ejCredit s p d.net d.cls + 1)) else x.ejCrd } }) ∧
    (∀ n c k, portEn x = true → ¬(n = .snp ∧ c = .gt) → x.toUnit = [] → keyWf (fun _ => 0) 0 x.ejCrd = true → ejCredit s p n c + k ≤ 63 →
      Completes (.ejectCreditReturn p n c k) s fun t => t = { s with out := [], ports := s.ports.set p { x with ejCrd := t.ports[p].ejCrd } } ∧
        ejCredit t p n c = ejCredit s p n c + k ∧ ∀ m d, qKey m d ≠ qKey n c → ejCredit t p m d = ejCredit s p m d)

/-- R199 to R202: at its expiry a read that may be re-issued goes out again in the class it may travel in, with a new stream number where
it leaves the device; any other entry is answered ERR TIMEOUT and becomes a ghost, a port-timeout event; a ghost ends at the latest 256 us
after it began; a critical port sends a PING each interval, and an unanswered one is a port-timeout event and a peer-down. -/
def Obligations.RetriesAndPings : Prop :=
  ∀ (s : State) (p : Fin 96), usedPort p.val = true →
    let x := s.ports[p]
    (∀ (i : Fin 256) (e : OEntry), x.opens.find? (fun y => decide (y.1 = i.val)) = some (i.val, e) → ∀ at', e.retryAt = some at' →
      let o := e.req.opc.toNat
      let again := (o = opRD ∨ o = opCFGRD ∨ o = opFENCE) ∧ e.reissued = false ∧ reissuedCount x < 16 ∧ s.ms.mode ≠ .drain
      (again → Completes (.retryExpiry p i) s fun t =>
        let fl := if e.req.cls = .gt then flowOf s p.val e.req.net e.req.dst.toNat e.req.dstdev.toNat else none
        let key := streamKey e.req.dstdev.toNat 0
        let seq := spGet 0 s.seqr.ctr key
        let f := { e.req with cls := if fl = none then noGt e.req.cls else e.req.cls, e2seq := if e.req.xf then BitVec.ofNat 16 seq else e.req.e2seq }
        let g := { f with vc := injectVc p.val f }
        let kept := putEntry p i.val { e with
          req := g, reissued := true, answers := e.answers + 1, retryAt := some (t.clk.cyc + cycUs (portRetryUs s p.val)) } s
        t.clk.cyc = max s.clk.cyc at' ∧
          t = { s with
            out := [], clk := t.clk, cnt := t.cnt
            seqr := if e.req.xf then { s.seqr with ctr := spSet 0 s.seqr.ctr key ((seq + 1) % 2 ^ 16) } else s.seqr
            ports := (enqueue p { flit := g, tid := some e.tid, fab := true, flow := fl, since := t.clk.cyc } kept).ports }) ∧
      (¬again → openBurst e = false → e.reissued = false → e.answers ≠ 0 → o ≠ opLKSTAGE → ejCredit s p .rsp (noGt e.req.cls) ≠ 0 →
        Completes (.retryExpiry p i) s fun t =>
          let err := { localErr e.req p.val (ownDev s) errTIMEOUT 0 with cls := noGt e.req.cls, vc := clsVc (noGt e.req.cls) }
          let d := toUnit p err (countPort p 35 (advanceTo at' { s with out := [] }))
          let y := d.ports[p]
          d.clk.cyc = max (max s.clk.cyc at') (spGet 0 x.outAt (netNum .rsp)) ∧ d.out = [.deliver p err] ∧
            t = { faultEvent (.port p) srcPortTo { d with ports := d.ports.set p { y with
              opens := spIns x.opens i.val
                { e with ghostAt := some d.clk.cyc, retryAt := none, rsp := none, lines := [], rspOut := false, psn := 0 } } } with
              pending := s.pending })) ∧
    (∀ (i : Fin 256) (e : OEntry), x.opens.find? (fun y => decide (y.1 = i.val)) = some (i.val, e) → ∀ at', e.ghostAt = some at' →
      Completes (.ghostEnd p i) s fun t => t.clk.cyc = max s.clk.cyc (at' + cycUs 256) ∧ t = { s with
        out := [], clk := t.clk, cnt := lateCounted s t.clk
        ports := s.ports.set p { x with opens := spDel x.opens i.val, injCrd := t.ports[p].injCrd } }) ∧
    let due := pingCapable p.val = true ∧ portEn x = true ∧ regFld s (portPage p.val + 0x40) 0 0 = 1 ∧ s.ms.mode ≠ .drain
    (¬due → Completes (.pingSend p) s fun t => t = { s with out := [] }) ∧
    (due → x.pingOut = none → ejCredit s p .req .mg ≠ 0 → Completes (.pingSend p) s fun t =>
      let sentAt := max s.clk.cyc x.pingAt
      let tag : BitVec 12 := x.gen.setWidth 12 <<< 10 ||| x.pingCnt.setWidth 12
      let f : Flit := { net := .req, dst := BitVec.ofNat 7 p.val, src := BitVec.ofNat 7 p.val, cls := .mg, vc := 3, tag := tag
                        opc := BitVec.ofNat 6 opPING, dstdev := ownDev s, srcdev := ownDev s }
      t.clk.cyc = max sentAt (spGet 0 x.outAt (netNum .req)) ∧ t = { s with
        out := [.deliver p f], clk := t.clk, cnt := t.cnt
        ports := s.ports.set p (xToUnit .req { x with
          pingOut := some tag, pingCnt := x.pingCnt + 1, pingAt := sentAt + cycUs (portPingUs s p.val)
          outAt := spSet 0 x.outAt (netNum .req) (t.clk.cyc + unitCycle p.val)
          ejCrd := spSet 0 x.ejCrd (qKey .req .mg) (ejCredit s p .req .mg - 1) }) }) ∧
    (due → x.pingOut ≠ none → Completes (.pingSend p) s fun t =>
      let u := countPort p 37 (advanceTo x.pingAt { s with out := [] })
      u.clk.cyc = max s.clk.cyc x.pingAt ∧
        t = { faultEvent (.port p) srcPortTo (peerDownDo p 0 u) with pending := s.pending })

/-! ### Attach ports -/

/-- R210, R211: a power change that is acknowledged takes effect, and OFF leaves the fabric half nothing of what it held; one that is not
falls back to the state before and sets NOACK after its 10 us; a powered-up port, its power acknowledged, leaves FENCED through RESET, in the
same generation, with FENCE cleared. -/
def Obligations.PortPower : Prop :=
  ∀ (s : State) (p : Fin 96), usedPort p.val = true →
    let x := s.ports[p]
    (∀ w, x.pwrWait = some w → x.faiPwr ≠ 2 → Completes (.pwrAck p) s fun t =>
      t = { s with out := [], ports := s.ports.set p { x with pwr := x.faiPwr, pwrWait := none } }) ∧
    (∀ w, x.pwrWait = some w → x.faiPwr = 2 → Completes (.pwrAck p) s fun t =>
      t = { s with out := [], strands := t.strands, ports := s.ports.set p (portTraffic { x with pwr := 2, pwrWait := none }) }) ∧
    (∀ old d, x.pwrWait = some (old, d) → Completes (.pwrNoack p) s fun t =>
      t = { s with
        out := [], clk := t.clk, cnt := lateCounted s t.clk, regs := (portSticky p 14 s).regs
        ports := s.ports.set p { x with pwr := old, faiPwr := old, pwrWait := none, powerUp := none } } ∧
        t.clk.cyc = max s.clk.cyc d) ∧
    (∀ e, x.powerUp = some e → x.pwrWait = none → x.st = .fenced → s.tiles[tileF (portTile p.val)].isolated = false →
      Completes (.portPowerUpDone p) s fun t =>
        t = { s with
          out := [], clk := t.clk, cnt := lateCounted s t.clk, regs := t.regs
          ports := s.ports.set p { x with powerUp := none, st := .reset, holdDown := max s.clk.cyc e } } ∧ t.clk.cyc = max s.clk.cyc e ∧
          (StoresWf s → fenceReg t p = false ∧ ∀ k, k ≠ fenceOff p → regGet t k = regGet s k))

/-- R357, R359, R362, R363: INIT complements the toggle; ARMED follows when the peer's RDY was seen at 0 and its toggle has changed four
times, with the FIFO pointers of every network at 0; RUN when the peer's RDY is seen, the latency of the port's class later; a peer whose
toggle stands still for 64 cycles, or that shows RDY 0, takes a side to DOWN, and on the fabric's side is a peer down. -/
def Obligations.CrossingSteps : Prop :=
  ∀ (s : State) (p : Fin 96) (d : Side), usedPort p.val = true →
    let v := getX s.ports[p] d
    let o := getX s.ports[p] (otherSide d)
    let held := s.ports[p].st = .disabled ∨ s.tiles[tileF (portTile p.val)].isolated = true
    (v.st = .down → d = .unit ∨ s.ports[p].pwr ≠ 2 → Completes (.crossingInit p d) s fun t =>
      t = { s with out := [], ports := s.ports.set p t.ports[p] } ∧
      getX t.ports[p] d = { st := .init, toggle := !v.toggle, sawLow := !xRdy o, since := s.clk.cyc } ∧
      (getX t.ports[p] (otherSide d)).st = o.st ∧
      (o.st = .init → (getX t.ports[p] (otherSide d)).sawLow = true ∧ (getX t.ports[p] (otherSide d)).changes = o.changes + 1)) ∧
    (v.st = .down → d = .fabric → s.ports[p].pwr = 2 → exec (.crossingInit p d) s = .next { s with out := [] }) ∧
    (v.st = .init → v.sawLow = true → o.st ≠ .down → Completes (.crossingArm p d) s fun t =>
      let armed := { v with st := .armed, changes := max 4 v.changes, since := s.clk.cyc, wr := [], rd := [] }
      t = { s with out := [], ports := s.ports.set p (setX d armed s.ports[p]) }) ∧
    (v.st = .armed → xRdy o = true → Completes (.crossingRun p d) s fun t =>
      (d = .fabric → t.clk.cyc = max s.clk.cyc (o.since + crossLatency (crossClass p.val))) ∧
      t = { s with out := [], clk := t.clk, cnt := t.cnt, ports := s.ports.set p (setX d { v with st := .run, since := t.clk.cyc } s.ports[p]) }) ∧
    (v.st = .run ∨ v.st = .armed → Completes (.crossingAliveMiss p d) s fun t =>
      (getX t.ports[p] .fabric).st = .down ∧ (getX t.ports[p] .unit).st = .down ∧
      (d = .unit → t = { s with out := [], clk := t.clk, cnt := t.cnt, ports := s.ports.set p t.ports[p] } ∧ t.ports[p].st = s.ports[p].st) ∧
      (d = .fabric → t.clk.cyc = s.clk.cyc + 64 ∧ t.ports[p].st = if held then s.ports[p].st else .reset)) ∧
    (v.st = .run → Completes (.crossingPeerRdyLow p d) s fun t => (getX t.ports[p] d).st = .down ∧
      (xRdy o = true → (getX t.ports[p] (otherSide d)).st = .down) ∧
      (d = .unit → t = { s with out := [], ports := s.ports.set p t.ports[p] } ∧ t.ports[p].st = s.ports[p].st) ∧
      (d = .fabric → t.clk.cyc = s.clk.cyc ∧ t.ports[p].st = if held then s.ports[p].st else .reset))

/-- R203, R204, R366, R375: a port whose unit goes down, or that software resets, ends in RESET in its next generation, with nothing open,
and no other port moves; the hold-down over, the crossing in RUN, a port in RESET opens, or fences where FENCE is set; a wave releases its
four tiles and their ports. -/
def Obligations.PortsDownAndUp : Prop :=
  ∀ (s : State) (p : Fin 96),
    let tile := s.tiles[tileF (portTile p.val)]
    let downed := fun (t : State) => t.ports[p].st = .reset ∧ t.ports[p].gen = s.ports[p].gen + 1 ∧ t.ports[p].opens = [] ∧
      t.ports[p].fenceWhy = 0 ∧ t.ports[p].holdDown = s.clk.cyc + cycUs 100 ∧
      ∀ q : Fin 96, q ≠ p → t.ports[q].st = s.ports[q].st ∧ t.ports[q].gen = s.ports[q].gen
    (usedPort p.val = true → s.ports[p].st ≠ .disabled → s.ports[p].st ≠ .reset → tile.isolated = false →
      Completes (.peerDown p) s fun t => downed t ∧ t.ports[p].rstN = false) ∧
    (usedPort p.val = true → s.ports[p].st = .disabled ∨ s.ports[p].st = .reset ∨ tile.isolated = true →
      Completes (.peerDown p) s fun t => t = { s with out := [], ports := s.ports.set p { s.ports[p] with rstN := false } }) ∧
    (usedPort p.val = true → Settled s → StoresWf s → s.ports[p].st ≠ .disabled → s.ports[p].st ≠ .reset → tile.isolated = false →
      Completes (.qreset .mgt p) s downed) ∧
    (usedPort p.val = true → s.ports[p].st = .reset → s.ports[p].xf.st = .run → s.ports[p].faultHeld = false → tile.isolated = false →
      tile.waved = true → carries s.ms.mode = true → Completes (.portActivate p) s fun t =>
        t = { s with out := [], clk := t.clk, cnt := lateCounted s t.clk, ports := s.ports.set p t.ports[p] } ∧
          t.clk.cyc = max s.clk.cyc s.ports[p].holdDown ∧ t.ports[p].rstN = true ∧ t.ports[p].gen = s.ports[p].gen ∧
          t.ports[p].st = if fenceReg s p then .fenced else .active) ∧
    (s.power.waves < 12 → carries s.ms.mode = true → s.ms.mode ≠ .drain → Completes .tileWave s fun t =>
      t = { s with out := [], clk := t.clk, cnt := lateCounted s t.clk, power := t.power, tiles := t.tiles, ports := t.ports } ∧
        t.clk.cyc = max s.clk.cyc s.power.waveAt ∧
        t.power = { s.power with waves := s.power.waves + 1, waveAt := s.power.waveAt + cycNs 512 } ∧
        (∀ k : Fin 48, t.tiles[k] = { s.tiles[k] with waved := s.tiles[k].waved || decide (k.val % 12 = s.power.waves) }) ∧
        (usedPort p.val = true → t.ports[p].st =
          if s.ports[p].st = .disabled ∧ tile.isolated = false ∧ portTile p.val % 12 = s.power.waves then .reset else s.ports[p].st))

/-- R203, R208, R209: a fence that may be asked for begins with a deadline of 1 ms; one that may not leaves its reason in FENCE_WHY;
clearing FENCE while FENCING returns to ACTIVE; a drained port fences, in the power state PWR_REQ names; a fence that is not drained at its
deadline sets STUCK once. -/
def Obligations.Fences : Prop :=
  ∀ (s : State) (p : Fin 96), usedPort p.val = true →
    (Settled s → StoresWf s →
      (fenceCode s p = 0 → Completes (.fenceRequest .mgt p) s fun t =>
        t = { s with
          out := [.ack .mgt], regs := t.regs
          ports := s.ports.set p { s.ports[p] with st := .fencing, fenceWhy := 0, fenceAt := s.clk.cyc + cycMs 1 } } ∧
          fenceReg t p = true ∧ ∀ k, k ≠ fenceOff p → regGet t k = regGet s k) ∧
      (fenceCode s p ≠ 0 → Completes (.fenceRequest .mgt p) s fun t =>
        t = { s with out := [.ack .mgt], regs := t.regs, ports := s.ports.set p { s.ports[p] with fenceWhy := fenceCode s p } } ∧
          fenceReg t p = fenceReg s p ∧ ∀ k, k ≠ fenceOff p → regGet t k = regGet s k) ∧
      (s.ports[p].st = .fencing → Completes (.fenceCancel .mgt p) s fun t =>
        t = { s with out := [.ack .mgt], regs := t.regs, ports := s.ports.set p { s.ports[p] with st := .active } } ∧
          fenceReg t p = false ∧ ∀ k, k ≠ fenceOff p → regGet t k = regGet s k)) ∧
    (s.ports[p].st = .fencing → inflOut s.ports[p] = 0 → s.ports[p].inCnt = 0 → Completes (.fenceDrained p) s fun t =>
      t = { s with out := [], ports := s.ports.set p t.ports[p] } ∧ t.ports[p].st = .fenced ∧ t.ports[p].injCrd = [] ∧
        t.ports[p].ejCrd = [] ∧ t.ports[p].faiPwr = BitVec.ofNat 2 (regFld s (portPage p.val + 0x40) 5 4) ∧ t.ports[p].gen = s.ports[p].gen) ∧
    (s.ports[p].st = .fencing → s.ports[p].fenceAt ≠ 0 → Completes (.fenceStuck p) s fun t =>
      t = { s with
        out := [], clk := t.clk, cnt := lateCounted s t.clk, regs := (portSticky p 13 s).regs
        ports := s.ports.set p { s.ports[p] with fenceAt := 0 } } ∧ t.clk.cyc = max s.clk.cyc s.ports[p].fenceAt)

/-! ### Fabric time -/

/-- R141, R142, R145, R147, R148, R159: time starts from 0 or its seed, with a slot boundary where it passes a multiple of 64; a
realignment comes at a multiple of 65,536 ns, where every tile's copy takes the ring value and a copy found more than 1 ns off is an event of
its tile; with SYNC_EN, a pending step is added at a frame boundary, discards the hallmark queues, and time is SYNCED; holdover ends in LOCAL
with a time-sync-loss event, SYNC_EN cleared in LOCAL with none and with no step left. -/
def Obligations.TimeMoves : Prop :=
  ∀ s : State,
    (s.time.state = .unsynced → s.clk.rpll = true → Completes .timeStart s fun t => t.clk.ftime = s.time.seed.getD 0 * 65536 ∧
      t.time.state ≠ .unsynced ∧ t.clk.cyc = s.clk.cyc ∧ t.clk.phase = (2 * (ftimeNs t % 64) + 128 - t.clk.cyc % 128) % 128) ∧
    (∀ drift, timeRuns s = true → Completes (.timeRealign drift) s fun t =>
      let later := (advanceToTime (nextMultiple s 65536) s).clk
      let found := (List.finRange 48).filter fun k => !s.tiles[k].isolated && decide (1 < (s.tiles[k].timeOff).natAbs)
      t = { forEach found (fun k => faultEvent (.tile k) srcTime)
              (setCopies drift { s with out := [], clk := later, cnt := lateCounted s later }) with pending := s.pending } ∧
        (found = [] → ∀ k : Fin 48, t.tiles[k].timeOff = ((drift.reverse.find? fun x => decide (x.1 = k)).map (·.2)).getD 0)) ∧
    (∀ d, s.time.step = some d → stepWait s = false → syncEn s = true → Completes .timeStep s fun t =>
      t.time.state = .synced ∧ t.time.step = none ∧ t.time.steps = s.time.steps + 1 ∧ t.time.holdover = false ∧ t.clk.trim = 0 ∧
        t.clk.cyc = (advanceToFrame s).clk.cyc ∧ t.clk.ftime = (((advanceToFrame s).clk.ftime : Int) + d * 256).toNat % 2 ^ 80 ∧
        t.hm = (hmDiscardAll 1 s).hm ∧ (s.time.forward = true → t.time.root = true)) ∧
    (s.time.state = .synced → s.time.holdover = true → Completes .holdoverExpire s fun t =>
      t.time.state = .loc ∧ t.time.holdover = false ∧ t.clk.cyc = max s.clk.cyc s.time.holdEnd ∧ t.clk.trim = 0 ∧
        t.hm = (hmDiscardXdev s).hm ∧ (StoresWf s → (regGet t 0x3800).toNat.testBit 12 = true)) ∧
    (Settled s → StoresWf s → Completes (.syncDisable .mgt) s fun t => syncEn t = false ∧
      (syncEn s = true → s.time.state = .synced → t.time.state = .loc ∧ t.time.step = none ∧ t.clk = { s.clk with trim := 0 } ∧ t.flt = s.flt ∧
        t.hm = (hmDiscardXdev s).hm) ∧
      (s.time.state ≠ .synced → t = { s with
        out := [.ack .mgt], regs := t.regs, time := if syncEn s then { s.time with step := none, forward := false } else s.time }) ∧
      ∀ k, k ≠ 0x1040 → k ≠ 0x1014 → regGet t k = regGet s k)

/-- R143, R144, R146, R335: on a strand in ACTIVE that does not rest, the upper end starts an exchange at the next multiple of 16,384 ns,
and says whether its time is SYNCED; the lower end answers with its time, the upper end with t1 and t4; the lower end takes the delay, and from
its parent strand, in LOCAL, the offset as a step to be made. Each message goes into the stream of the strand. -/
def Obligations.TimeMessages : Prop :=
  ∀ (s : State) (n : Fin 10) (b : Block),
    let l := s.strands[n].lnk
    let withLink := fun (u : State) (y : LinkSt) => u.strands.set n { u.strands[n] with lnk := y }
    exchReady s n = true →
    (isUpper s n = true → timeRuns s = true → Completes (.tsyncSend n) s fun t =>
      let at' := advanceToTime (tsyncDue s n) s
      t = controlSend n (tsyncBlock (l.exch + 1)) { s with
        out := [.timeState n (syncReport s)], clk := at'.clk, cnt := at'.cnt
        strands := withLink s { l with exch := l.exch + 1, exchOpen := true, t1 := timeCap at', tsyncAt := some (tsyncDue s n) } }) ∧
    (∀ synced, blkGood b = true → blkType b = tyTSYNC → isUpper s n = false → Completes (.tsyncReceive n ⟨.block b, synced⟩) s fun t =>
      let u := partnerReport n synced { s with out := [] }
      u.strands[n].lnk = { l with pSync := synced } ∧
        t = controlSend n (treqBlock (BitVec.ofNat 8 (blkFld b 15 8)) (l.delay16.getD 0xFFFF) (timeCap u)) { u with
          strands := withLink u
            { u.strands[n].lnk with exch := BitVec.ofNat 8 (blkFld b 15 8), exchOpen := true, t2 := timeCap u, t3 := timeCap u } }) ∧
    (blkGood b = true → l.exchOpen = true → blkFld b 15 8 = l.exch.toNat →
      (blkType b = tyTREQ → isUpper s n = true → s.time.forward = false → Completes (.treqReceive n (.block b)) s fun t =>
        let answered := controlSend n (trespBlock l.exch l.t1 (timeCap s)) { s with out := [], strands := withLink s { l with exchOpen := false } }
        t = if blkFld b 31 16 = 0xFFFF then answered else exchangeDone n (16 * (blkFld b 31 16 : Int)) answered) ∧
      (blkType b = tyTRESP → isUpper s n = false → s.time.forward = false →
        let there := (l.t2 : Int) - (blkFld b 87 16 : Int)
        let back := (blkFld b 159 88 : Int) - (l.t3 : Int)
        let y := { l with
          exchOpen := false, delay16 := some (((there + back) / 2 / 16).toNat % 2 ^ 16)
          gtLat := if l.gtLat = 0 then gtLatency n.val ((there + back) / 2) else l.gtLat }
        (s.time.parent ≠ some n ∨ s.pool.root = true ∨ syncEn s = false → Completes (.trespReceive n (.block b)) s fun t =>
          t = { s with out := [], strands := withLink s y }) ∧
        (s.time.parent = some n → s.pool.root = false → syncEn s = true → s.time.state = .loc →
          Completes (.trespReceive n (.block b)) s fun t => t = { s with
            out := [], strands := withLink s y
            time := { s.time with delay := (there + back) / 2, offset := (there - back) / 2, step := some (-((there - back) / 2)) } })))

/-! ### Faults -/

/-- R424, R426 to R428, R432: a window ends with its count; a shadow ends 10 us after its reaction is complete; a reaction is complete
when its time has passed; after the quiet period RC rises, and the domain is re-admitted, or retired where RC has reached its bound, and a retired tile's own queue is discarded. -/
def Obligations.FaultTimers : Prop :=
  ∀ (s : State) (d : Domain),
    let x := getDom s d
    (∀ src w, x.wins.find? (fun y => y.src = src) = some w → Completes (.faultWindowEnd d src) s fun t =>
      t = { updDom d (fun y => { y with wins := y.wins.filter fun z => z.src ≠ src }) s with out := [], clk := t.clk, cnt := lateCounted s t.clk } ∧
        t.clk.cyc = max s.clk.cyc w.endAt) ∧
    (x.shadow = true → x.done = true → Completes (.shadowEnd d) s fun t =>
      t = { updDom d (fun y => { y with shadow := false }) s with out := [], clk := t.clk, cnt := lateCounted s t.clk } ∧ t.clk.cyc = max s.clk.cyc (x.doneAt + cycUs 10)) ∧
    (x.reacting = true → x.done = false → x.wantIn = false → (∀ tl, d = .tile tl → planPending s tl = false) →
      (∀ n, d = .strand n → s.strands[n].lnk.link ≠ .down) → Completes (.reactionComplete d) s fun t =>
        t = { updDom d (fun y => { y with done := true, doneAt := t.clk.cyc }) s with out := [], clk := t.clk, cnt := lateCounted s t.clk } ∧
          t.clk.cyc = max s.clk.cyc (reactEnd s d)) ∧
    (x.st = .faulted → x.done = true → s.ms.mode ≠ .drain → s.ms.mode ≠ .keep → Completes (.quietExpire d) s fun t =>
      let rc := min 255 (x.rc + 1)
      let back := { x with rc := rc, st := .inn, reacting := false, wantIn := false, byLink := false }
      t.clk.cyc = max s.clk.cyc x.quietAt ∧
      (fltRcMax s ≤ rc → t.flt = (updDom d (fun y => { y with rc := rc, st := .retired }) s).flt ∧
        t = { s with out := [], clk := t.clk, cnt := lateCounted s t.clk, flt := t.flt, hm := t.hm, clasp := t.clasp } ∧
        (∀ tl, d = .tile tl → t.hm = (hmDiscardTile 5 tl s).hm) ∧ ((∀ tl, d ≠ .tile tl) → t.hm = s.hm ∧ t.clasp = s.clasp)) ∧
      (rc < fltRcMax s → t.flt = (updDom d (fun _ => back) s).flt ∧
        (d = .global → t = { s with out := [], clk := t.clk, cnt := lateCounted s t.clk, flt := t.flt }) ∧
        (∀ p, d = .port p → t = { s with
          out := [], clk := t.clk, cnt := lateCounted s t.clk, flt := t.flt, ports := s.ports.set p { s.ports[p] with faultHeld := false, holdDown := t.clk.cyc } }) ∧
        (∀ n, d = .strand n → t.strands[n].phy.stage =
          if strandEn s n && !s.tiles[tileF (strandTile n.val)].isolated && decide (s.strands[n].phy.groups = 2) && pllOk s n
            then .detect else .disabled) ∧
        (∀ tl, d = .tile tl → x.byLink = true → t.tiles = s.tiles.set tl { s.tiles[tl] with linkOut := none }) ∧
        (∀ tl, d = .tile tl → x.byLink = false → s.tiles[tl].isolated = true → s.tiles[tl].admin = false →
          t.tiles = s.tiles.set tl { s.tiles[tl] with isolated := false, admin := false, timeOff := 0 })))

/-- R427, R433, R437, R420: FLT_ACK clears RC, or re-admits the domain it names once its reaction is complete; TILE_CTRL isolates a tile
and re-admits it, or sets CMD_REJ. -/
def Obligations.FaultCommands : Prop :=
  ∀ s : State, Settled s → StoresWf s →
    (∀ (kind : BitVec 2) (inst : BitVec 7) (d : Domain), domNamed kind.toNat inst.toNat = some d →
      let x := getDom s d
      Completes (.fltAcknowledge .mgt kind inst) s (fun t => t = { updDom d (fun y => { y with rc := 0 }) s with out := [.ack .mgt] }) ∧
      (x.st = .inn → Completes (.fltReadmit .mgt kind inst) s fun t => t = { s with out := [.ack .mgt] }) ∧
      (x.st = .faulted → x.done = false → Completes (.fltReadmit .mgt kind inst) s fun t =>
        t = { updDom d (fun y => { y with rc := 0, wantIn := true }) s with out := [.ack .mgt] }) ∧
      (x.st ≠ .inn → x.done = true → Completes (.fltReadmit .mgt kind inst) s fun t =>
        t.flt = (updDom d (fun y => { y with rc := 0, st := .inn, reacting := false, wantIn := false, byLink := false }) s).flt)) ∧
    (∀ tl : Fin 48,
      let legal := (s.ms.mode = .run ∨ s.ms.mode = .degraded ∨ s.ms.mode = .test) ∧ ¬(tl.val = 11 ∨ tl.val = 12 ∨ tl.val = 35) ∧
        s.tiles[tl].isolated = false
      let rejected := fun (t : State) => t = { s with out := [.ack .mgt], regs := (tileCmdRej tl s).regs }
      (¬legal → Completes (.tileIsolateCmd .mgt tl) s rejected) ∧
      (legal → Completes (.tileIsolateCmd .mgt tl) s fun t =>
        t.tiles = s.tiles.set tl { s.tiles[tl] with isolated := true, admin := true } ∧ t.hm = (hmDiscardTile 5 tl s).hm ∧
        t.flt = (updDom (.tile tl) (fun y => { y with reacting := true, done := false, reactAt := s.clk.cyc, shadow := true, wantIn := false }) s).flt) ∧
      (s.tiles[tl].admin = false ∨ s.flt.tiles[tl].st ≠ .inn → Completes (.tileReadmitCmd .mgt tl) s rejected) ∧
      (s.tiles[tl].admin = true → s.flt.tiles[tl].st = .inn →
        (s.flt.tiles[tl].done = false → Completes (.tileReadmitCmd .mgt tl) s fun t =>
          t = { updDom (.tile tl) (fun y => { y with wantIn := true }) s with out := [.ack .mgt] }) ∧
        (s.flt.tiles[tl].done = true → Completes (.tileReadmitCmd .mgt tl) s fun t =>
          t.tiles = s.tiles.set tl { s.tiles[tl] with isolated := false, admin := false, timeOff := 0 } ∧
            t.flt = (updDom (.tile tl) (fun y => { y with reacting := false }) s).flt)))

/-- R420, R436: the period of an injection ends it, and a shortfall of events sets TAINT; every step of a HOME's count of lost staging
copies is an event of source 13. -/
def Obligations.FaultInputs : Prop :=
  ∀ s : State,
    (∀ (d : Domain) (src : Fin 15),
      let here := fun (i : Inj) => decide (i.dom = some d) && decide (i.src = src) && i.endAt.isSome
      ∀ i, s.flt.injs.find? here = some i → Completes (.injectionPeriodEnd d src) s fun t =>
        t = { s with out := [], clk := t.clk, cnt := lateCounted s t.clk, flt := { s.flt with injs := s.flt.injs.eraseP here }, regs := t.regs } ∧
          t.clk.cyc = max s.clk.cyc (i.endAt.getD 0) ∧ t.regs = if 0 < i.expect then (regSetBit 0x3818 (domBit d) s).regs else s.regs) ∧
    (∀ (ch : Fin 16) (steps : Nat), Completes (.homeStagingEcc ch steps) s fun t =>
      let p := portF (homePort ch.val)
      t = { s with out := [], regs := t.regs, flt := t.flt, cnt := t.cnt
                   ports := s.ports.set p { s.ports[p] with stgUe := s.ports[p].stgUe + BitVec.ofNat 4 steps } } ∧
        (0 < steps → StoresWf s → (regGet t 0x3800).toNat.testBit 13 = true) ∧ (steps = 0 → t.regs = s.regs ∧ t.flt = s.flt))

/-! ### Lockets -/

/-- R236, R240, R247, R248, R252, R254, R258: the requester's LKOPEN takes the lowest free LKT or is told to retry; its LKCOMMIT closes the
locket or aborts it with the cause, and commits at once where it stages nothing and asks for no time; its LKABORT aborts it; an ended locket
answers and becomes free; an LKSTAGE answered with an error aborts its locket, one of an earlier opening is ignored; the open timer aborts an
open locket and frees an aborted one. An abort sends LKABORT to every participant, and starts the 50 us of its re-sending. An answer goes to
the unit, within its credits or once it gives one. -/
def Obligations.LocketRequests : Prop :=
  ∀ (s : State) (l : Fin 64),
    let c := s.lock.coords[l]
    let undecided := c.state = .opened ∨ c.state = .closing ∨ c.state = .voting
    let aborts := fun (t u : State) (cause : Nat) => t = { lkAbort l cause u with pending := s.pending } ∧
      (c.locs ≠ 0 ∨ c.remote ≠ 0 → t.lock = { u.lock with coords := u.lock.coords.set l { u.lock.coords[l] with
        state := .aborting, cause := cause, doneL := 0, doneR := 0, resendAt := u.clk.cyc + cycUs 50, try70 := t.lock.coords[l].try70 } })
    let frees := fun (t u : State) => t = { u with cnt := t.cnt, lock := { u.lock with coords := u.lock.coords.set l {} } }
    (c.state = .opened → Completes (.locketOpenTimeout l) s fun t =>
      let w := advanceTo c.timer { s with out := [] }
      w.clk.cyc = max s.clk.cyc c.timer ∧ aborts t w 2) ∧
    (c.state = .aborted → Completes (.locketOpenTimeout l) s fun t => t.clk.cyc = max s.clk.cyc c.timer ∧
      frees t { s with out := [], clk := t.clk }) ∧
    (∀ a r, s.lock.reports = a :: r → a.lkt.toNat = l.val →
      let rest := { s with out := [], lock := { s.lock with reports := r } }
      let u := { rest with lock := { rest.lock with coords := s.lock.coords.set l { c with staging := c.staging - b2n a.inj } } }
      (c.id ≠ a.id → Completes .lkstageAnswer s fun t => t = rest) ∧
      (c.id = a.id → a.cause = none ∨ c.state = .voting → Completes .lkstageAnswer s fun t => t = u) ∧
      (∀ x, c.id = a.id → a.cause = some x → undecided → c.state ≠ .voting → Completes .lkstageAnswer s fun t => aborts t u x)) ∧
    (∀ p f r, s.lock.path = (p, f) :: r → usedPort p.val = true →
      let u := { s with out := [], lock := { s.lock with path := r } }
      let answer := fun (opc sub arg : Nat) =>
        { localErr f p.val (ownDev s) sub arg with opc := BitVec.ofNat 6 opc, cls := noGt f.cls, vc := clsVc (noGt f.cls) }
      let told := fun (t : State) (opc sub arg : Nat) =>
        (ejCredit s p .rsp (noGt f.cls) ≠ 0 → t.out = [.deliver p (answer opc sub arg)]) ∧
        (ejCredit s p .rsp (noGt f.cls) = 0 → t.out = [] ∧ t.ports[p].toUnit = s.ports[p].toUnit ++ [answer opc sub arg])
      let answered := fun (t v : State) (opc sub arg : Nat) =>
        told t opc sub arg ∧ t = { toUnit p (answer opc sub arg) v with pending := s.pending, cnt := t.cnt }
      let put := fun (k : Coord) => { u with lock := { u.lock with coords := s.lock.coords.set l k } }
      let waits := { c with waits := c.waits ++ [f] }
      let ours := f.lkt.toNat = l.val ∧ c.state ≠ .free ∧ c.port = p
      (f.opc.toNat = opLKOPEN →
        ((∀ k : Fin 64, s.lock.coords[k].state ≠ .free) → Completes (.lkopen p) s fun t => answered t u rspRETRY 0 0x10) ∧
        (c.state = .free → (∀ k : Fin 64, k < l → s.lock.coords[k].state ≠ .free) → Completes (.lkopen p) s fun t =>
          let v := put { state := .opened, id := s.lock.opens + 1, port := p, timer := s.clk.cyc + cycUs (lkTimeoutUs s) }
          answered t { v with lock := { v.lock with opens := s.lock.opens + 1 } } rspCMP 0 l.val)) ∧
      (f.opc.toNat = opLKCOMMIT →
        let taken := { waits with asap := commitAsap f, t := if commitAsap f then 0 else commitT f, cls := f.cls, qos := f.qos }
        let closing := put { taken with state := .closing }
        (f.lkt.toNat = l.val → ¬ours → Completes (.lkcommit p) s fun t => answered t u rspERR errLOCKET 0) ∧
        (ours → c.state = .opened →
          (∀ x, lkCommitCause s c f = some x → Completes (.lkcommit p) s fun t => aborts t (put taken) x) ∧
          (lkCommitCause s c f = none →
            (commitAsap f = false ∨ lkMissing s l ≠ [] → Completes (.lkcommit p) s fun t => t = closing) ∧
            (commitAsap f = true → c.locs = 0 → c.remote = 0 → Completes (.lkcommit p) s fun t =>
              t = { lkCommit l closing with pending := s.pending } ∧ t.lock.coords[l] = {}))) ∧
        (ours → c.state = .aborted → Completes (.lkcommit p) s fun t =>
          answered t (put {}) (if c.byAbort then rspLKDONE else rspERR) (if c.byAbort then 0 else errLOCKET)
            (if c.byAbort then l.val else c.cause)) ∧
        (ours → c.state ≠ .opened → c.state ≠ .aborted → Completes (.lkcommit p) s fun t => t = put waits)) ∧
      (f.opc.toNat = opLKABORT →
        (f.lkt.toNat = l.val → ¬ours → Completes (.lkabort p) s fun t => answered t u rspLKDONE 0 l.val) ∧
        (ours → undecided → Completes (.lkabort p) s fun t => aborts t (put { waits with byAbort := true }) 0) ∧
        (ours → c.state = .aborted → Completes (.lkabort p) s fun t => answered t (put {}) rspLKDONE 0 l.val) ∧
        (ours → ¬undecided → c.state ≠ .aborted → Completes (.lkabort p) s fun t => t = put waits)))

/-- R241, R248 to R250, R252: an LKSTAGE that its locket may take is injected and adds its lines and its participant; the prepares go to every
participant once the staging is answered, at T - 2 GUARD or at once; a ready vote is noted, the last one commits; a refusal, a late vote or
the deadline aborts; an answered decision or abort is noted; one unanswered for 50 us is sent again to those that have not answered. -/
def Obligations.LocketVotes : Prop :=
  ∀ (s : State) (l : Fin 64),
    let c := s.lock.coords[l]
    let parts := lkMissing s l
    let s0 := { s with out := [] }
    let put := fun (u : State) (k : Coord) => { u with lock := { u.lock with coords := u.lock.coords.set l k } }
    let is := fun (t u : State) (k : Coord) => t.lock = (put u { k with try70 := t.lock.coords[l].try70 }).lock
    let aborts := fun (t u : State) (cause : Nat) => t = { lkAbort l cause u with pending := s.pending } ∧
      (c.locs ≠ 0 ∨ c.remote ≠ 0 → is t u { c with
        state := .aborting, cause := cause, doneL := 0, doneR := 0, resendAt := u.clk.cyc + cycUs 50 })
    (c.state ≠ .closing ∨ c.staging ≠ 0 → Completes (.locketPrepare l) s fun t => t = s0) ∧
    (c.state = .closing → c.staging = 0 → parts ≠ [] → Completes (.locketPrepare l) s fun t =>
      let w := if c.asap then s0 else advanceToTime (c.t.toNat - 2 * lkGuardNs s) s0
      let k := { c with state := .voting, votesL := 0, votesR := 0, deadline := w.clk.cyc + cycNs (2 * lkGuardNs s) }
      (c.asap = true → t.clk = s.clk) ∧
        (c.asap = false → TimeReaches s (c.t.toNat - 2 * lkGuardNs s) → c.t.toNat - 2 * lkGuardNs s ≤ ftimeNs t) ∧
        t = { forEach parts (lkSendOne l opLKCOMMIT) (put w k) with pending := s.pending } ∧ is t w k) ∧
    (c.state = .closing → c.staging = 0 → c.locs = 0 → c.remote = 0 → Completes (.locketPrepare l) s fun t =>
      let w := if c.asap then s0 else advanceToTime c.t.toNat s0
      (c.asap = true → w.clk = s.clk) ∧ (c.asap = false → TimeReaches s c.t.toNat → c.t.toNat ≤ ftimeNs t) ∧
        t = { lkCommit l w with pending := s.pending } ∧ t.lock.coords[l] = {}) ∧
    (c.state ≠ .voting → Completes (.voteDeadline l) s fun t => t = s0) ∧
    (c.state = .voting → Completes (.voteDeadline l) s fun t =>
      let w := if c.asap then advanceTo c.deadline s0 else advanceToTime (c.t.toNat - lkGuardNs s) s0
      (c.asap = true → w.clk.cyc = max s.clk.cyc c.deadline) ∧
        (c.asap = false → TimeReaches s (c.t.toNat - lkGuardNs s) → c.t.toNat - lkGuardNs s ≤ ftimeNs t) ∧ aborts t w 3) ∧
    (∀ f r, s.lock.inbox = f :: r → relayTag f = none → nbits 5 0 f.tag.toNat = l.val →
      let u := { s0 with lock := { s.lock with inbox := r } }
      let x := partOf s f
      let ready := f.arg.getLsbD 6
      let voted := match x with
        | .chan n => { c with votesL := c.votesL ||| (1 <<< n) }
        | .dev n => { c with votesR := c.votesR ||| (1 <<< n) }
      let done := match x with
        | .chan n => { c with doneL := c.doneL ||| (1 <<< n) }
        | .dev n => { c with doneR := c.doneR ||| (1 <<< n) }
      let noted := fun (t : State) => t = { lkFinish l (put u done) with pending := s.pending } ∧
        (lkMissing (put u done) l ≠ [] → t = put u done) ∧
        (lkMissing (put u done) l = [] → c.state = .committed → t.lock.coords[l] = {}) ∧
        (lkMissing (put u done) l = [] → c.state = .aborting → c.waits = [] →
          t = put u { done with state := .aborted, timer := s.clk.cyc + cycUs (lkTimeoutUs s) }) ∧
        (lkMissing (put u done) l = [] → c.state = .aborting → c.waits ≠ [] → t.lock.coords[l] = {})
      (rspOpc rspLKVOTE f = true →
        (isPart s l x = false ∨ c.state ≠ .voting ∧ c.state ≠ .committed ∨ c.state = .committed ∧ ready = false → Completes .lkvoteReceive s fun t =>
          t = u) ∧
        (isPart s l x = true → c.state = .voting → votePast s c = true → Completes .lkvoteReceive s fun t => aborts t u 3) ∧
        (isPart s l x = true → c.state = .voting → votePast s c = false → ready = false → Completes .lkvoteReceive s fun t =>
          aborts t u (nbits 14 11 f.arg.toNat)) ∧
        (isPart s l x = true → c.state = .voting → votePast s c = false → ready = true →
          (voted.votesL ≠ c.locs ∨ voted.votesR ≠ c.remote → Completes .lkvoteReceive s fun t => t = put u voted) ∧
          (voted.votesL = c.locs → voted.votesR = c.remote → (c.locs ≠ 0 ∨ c.remote ≠ 0) → Completes .lkvoteReceive s fun t =>
            t = { lkCommit l (put u voted) with pending := s.pending } ∧
              is t u { voted with state := .committed, doneL := 0, doneR := 0, resendAt := s.clk.cyc + cycUs 50 })) ∧
        (isPart s l x = true → c.state = .committed → ready = true → Completes .lkvoteReceive s noted)) ∧
      (rspOpc rspLKDONE f = true →
        (isPart s l x = false ∨ c.state ≠ .committed ∧ c.state ≠ .aborting → Completes .lkdoneReceive s fun t => t = u) ∧
        (isPart s l x = true → c.state = .committed ∨ c.state = .aborting → Completes .lkdoneReceive s noted))) ∧
    (let mine := c.state = .committed ∨ c.state = .aborting
     let relays := s.lock.relays[l].state = .decided
     let w := advanceTo c.resendAt s0
     (¬mine → ¬relays → Completes (.locketResend l) s fun t => t = s0) ∧
     (mine → ¬relays → Completes (.locketResend l) s fun t => t.clk.cyc = max s.clk.cyc c.resendAt ∧
       is t s { c with resendAt := t.clk.cyc + cycUs 50 } ∧
       t = { forEach parts (lkSendOne l (if c.state = .committed then opLKCOMMIT else opLKABORT)) w with
         pending := s.pending, lock := t.lock }) ∧
     (mine → relays → Completes (.locketResend l) s fun t =>
       t.clk.cyc = max (max s.clk.cyc c.resendAt) s.lock.relays[l].resendAt ∧
       t.lock.coords[l] = { c with resendAt := max s.clk.cyc c.resendAt + cycUs 50, try70 := t.lock.coords[l].try70 } ∧
       t.lock.relays[l] = { s.lock.relays[l] with resendAt := t.clk.cyc + cycUs 50 })) ∧
    (∀ (p : Fin 96) (f : Flit) (dst dev : Nat), amLookup s f.addr.toNat = some (dst, dev) → ∀ i, freeOpen s.ports[p] = some i →
      usedPort p.val = true → isStrandPort p.val = false → f.transit = false → s.ports[p].xu.st = .run → f.lkt.toNat = l.val →
      spGet 0 s.ports[p].injCrd (qKey .req f.cls) ≠ 0 → malformed (ownDev s) p.val (stageFlit f) = false → isFwd (stageFlit f) = false →
      drainRefuses s p (stageFlit f) = false → ejCredit s p .rsp (noGt f.cls) ≠ 0 →
      let n := popCount 4 f.lmask.toNat
      let x := s.ports[p]
      let dd := BitVec.ofNat 5 dev
      let tag := BitVec.ofNat 12 (nbits 9 0 f.tag.toNat + at' x.gen.toNat 10)
      let told := fun (t : State) (cause : Nat) => ∃ g : Flit, t.out = [.deliver p g] ∧ g = { g with
        net := .rsp, opc := BitVec.ofNat 6 rspERR, sub := BitVec.ofNat 4 errLOCKET, arg := BitVec.ofNat 15 cause, tag := tag }
      let refused := fun (t : State) (cause : Nat) => t.ports[p].injq = x.injq ∧ t.ports[p].opens = x.opens ∧ told t cause
      let aborted := fun (t : State) (cause : Nat) => told t cause ∧ (c.locs ≠ 0 ∨ c.remote ≠ 0 → is t s { c with
        state := .aborting, cause := cause, doneL := 0, doneR := 0, resendAt := s.clk.cyc + cycUs 50 })
      (c.port ≠ p ∨ c.state ≠ .opened ∧ c.state ≠ .aborted → Completes (.lkstage p f) s fun t => t.lock = s.lock ∧ refused t 0) ∧
      (c.port = p → c.state = .aborted → Completes (.lkstage p f) s fun t => t.lock = s.lock ∧ refused t c.cause) ∧
      (c.port = p → c.state = .opened → dd ≠ ownDev s → s.time.state ≠ .synced → Completes (.lkstage p f) s fun t => aborted t 3) ∧
      (c.port = p → c.state = .opened → (dd = ownDev s ∨ s.time.state = .synced) →
        (1024 < c.lines + n → Completes (.lkstage p f) s fun t => aborted t 1) ∧
        (c.lines + n ≤ 1024 → Completes (.lkstage p f) s fun t =>
          let here := dd = ownDev s
          let e := spGet 0 s.seqr.ctr (streamKey dd.toNat (streamNum .req))
          let own := { stageFlit f with
            attr := legalAttr p.val (stageFlit f), dst := BitVec.ofNat 7 dst, dstdev := dd, src := BitVec.ofNat 7 p.val
            srcdev := ownDev s, tag := tag, xf := decide ¬here }
          let flow := if f.cls = .gt then flowOf s p.val .req dst dd.toNat else none
          let g := { own with cls := if flow = none then noGt f.cls else f.cls, e2seq := if here then 0 else BitVec.ofNat 16 e }
          let g := { g with vc := injectVc p.val g }
          let q := { flit := g, tid := some x.tids, place := f.cls, flow := flow, since := s.clk.cyc }
          t.lock = (put s { c with
            lines := c.lines + n, staging := c.staging + 1
            locs := if here then c.locs ||| (1 <<< channelOf g.dst.toNat) else c.locs
            remote := if here then c.remote else c.remote ||| (1 <<< dd.toNat) }).lock ∧
          t.out = [.echo p (BitVec.ofNat 10 (nbits 9 0 f.tag.toNat)) g.dst dd] ∧
          t.ports[p].opens = spIns x.opens i { req := g, tid := x.tids, gen := x.gen, stage := c.id } ∧
          t.ports[p].injq = (enqueue p q s).ports[p].injq ∧ t.ports[p].gtq = (enqueue p q s).ports[p].gtq ∧
          t = { s with out := t.out, cnt := t.cnt, seqr := t.seqr, lock := t.lock, ports := s.ports.set p t.ports[p] })))

/-- R237, R239, R249, R251, R252, R253, R259, R260: a relay passes a prepare, a decision and an abort to the 16 HOMEs and answers for them: it
votes once all have voted, ready where all are ready, and answers LKDONE once all have; a prepare that finds no entry is refused with cause
staging full, an abort that finds none waits for one; an answer that names another locket is ignored; what is unanswered for 50 us goes out
again; RESOLVE decides an entry in doubt. A held decision is delivered at T by its tile's copy of FTIME where the HOME holds a credit and
no launch comes before it. 16 us after the entry to DRAIN, READY relays and voted HOMEs abort. -/
def Obligations.Relays : Prop :=
  ∀ (s : State) (e : Fin 64),
    let r := s.lock.relays[e]
    let s0 := { s with out := [] }
    let put := fun (u : State) (k : Relay) => { u with lock := { u.lock with relays := u.lock.relays.set e k } }
    let sends := fun (t u : State) (o : Nat) => t = { relaySend e o u with pending := s.pending } ∧ t.lock = u.lock
    let answers := fun (t u : State) (o arg : Nat) => t = { relayAnswer e o arg u with pending := s.pending } ∧ t.lock = u.lock
    let decided := fun (k : Relay) (c : Bool) => { k with state := .decided, commit := c, done := 0, resendAt := s.clk.cyc + cycUs 50 }
    (∀ f rest, s.lock.inbox = f :: rest → f.net = .req →
      let u := { s0 with lock := { s.lock with inbox := rest } }
      (f.opc.toNat = opLKCOMMIT →
        (relayOf s f.srcdev f.lkt = none → relayFree s = some e → Completes .relayPrepare s fun t => sends t (put u {
          state := .preparing, dev := f.srcdev, lkt := f.lkt, asap := commitAsap f, t := if commitAsap f then 0 else commitT f, req := f }) opLKCOMMIT) ∧
        (relayOf s f.srcdev f.lkt = none → relayFree s = none → Completes .relayPrepare s fun t => t.lock = u.lock ∧ t = {
          lockSend (locketPort s) (answerTo f (locketPort s).val (ownDev s) rspLKVOTE 0 (at' 1 11 + f.lkt.toNat)) u with
            pending := s.pending }) ∧
        (relayOf s f.srcdev f.lkt = some e →
          (r.state = .ready ∨ r.state = .inDoubt → Completes .relayPrepare s fun t => sends t (put u (decided { r with req := f } true)) opLKCOMMIT) ∧
          (r.state = .refused → Completes .relayPrepare s fun t => answers t (put u { r with req := f }) rspLKVOTE (at' r.cause 11)) ∧
          (r.state = .decided → Completes .relayPrepare s fun t => t = put u { r with req := f }) ∧
          (r.state = .preparing → Completes .relayPrepare s fun t => t = u))) ∧
      (f.opc.toNat = opLKABORT →
        (relayOf s f.srcdev f.lkt = none → relayFree s = some e → Completes .relayPrepare s fun t =>
          sends t (put u (decided { dev := f.srcdev, lkt := f.lkt, req := f } false)) opLKABORT) ∧
        (relayOf s f.srcdev f.lkt = none → relayFree s = none → (∀ g ∈ rest, relayCan s g = false) → Completes .relayPrepare s fun t => t = s0) ∧
        (relayOf s f.srcdev f.lkt = some e →
          (r.state ≠ .decided → Completes .relayPrepare s fun t => sends t (put u (decided { r with req := f } false)) opLKABORT) ∧
          (r.state = .decided → Completes .relayPrepare s fun t => t = put u { r with req := f })))) ∧
    (∀ f rest, s.lock.inbox = f :: rest → relayTag f = some e →
      let u := { s0 with lock := { s.lock with inbox := rest } }
      let ch := channelOf f.src.toNat
      let named := nbits 5 0 f.arg.toNat = r.lkt.toNat
      let ready := f.arg.getLsbD 6
      let voted := { r with
        voted := r.voted ||| (1 <<< ch), ready := if ready then r.ready ||| (1 <<< ch) else r.ready
        cause := if ready = false ∧ r.voted &&& ~~~ r.ready = 0 then nbits 14 11 f.arg.toNat else r.cause }
      let done := { r with done := r.done ||| (1 <<< ch) }
      let marked := fun (t : State) => (done.done ≠ BitVec.allOnes 16 → t = put u done) ∧
        (done.done = BitVec.allOnes 16 →
          t = { relayAnswer e rspLKDONE (at' (b2n r.commit) 6) (put u done) with pending := s.pending, lock := (put u {}).lock })
      (rspOpc rspLKVOTE f = true →
        (¬named ∨ r.state ≠ .preparing ∧ ¬(r.state = .decided ∧ r.commit = true ∧ ready = true) → Completes .lkvoteReceive s fun t => t = u) ∧
        (named → r.state = .decided → r.commit = true → ready = true → Completes .lkvoteReceive s marked) ∧
        (named → r.state = .preparing →
          (voted.voted ≠ BitVec.allOnes 16 → Completes .lkvoteReceive s fun t => t = put u voted) ∧
          (voted.voted = BitVec.allOnes 16 → voted.ready = BitVec.allOnes 16 → Completes .lkvoteReceive s fun t =>
            let k := { voted with state := .ready }
            t = { relayAnswer e rspLKVOTE (at' 1 6) (put u k) with
              pending := s.pending, lock := (put u (if relayHolds s r then k else {})).lock }) ∧
          (voted.voted = BitVec.allOnes 16 → voted.ready ≠ BitVec.allOnes 16 → Completes .lkvoteReceive s fun t =>
            answers t (put u { voted with state := .refused }) rspLKVOTE (at' voted.cause 11)))) ∧
      (rspOpc rspLKDONE f = true →
        (r.state ≠ .decided ∨ ¬named → Completes .lkdoneReceive s fun t => t = u) ∧
        (r.state = .decided → named → Completes .lkdoneReceive s marked))) ∧
    (s.lock.coords[e].state ≠ .committed → s.lock.coords[e].state ≠ .aborting → r.state = .decided → Completes (.locketResend e) s fun t =>
      t.clk.cyc = max s.clk.cyc r.resendAt ∧
        t = { relaySend e (if r.commit then opLKCOMMIT else opLKABORT) (advanceTo r.resendAt s0) with
          pending := s.pending, lock := (put s { r with resendAt := t.clk.cyc + cycUs 50 }).lock }) ∧
    (∀ o, Settled s → StoresWf s → Completes (.relayResolve .mgt e o) s fun t =>
      t.lock = if r.state = .inDoubt then (put s (decided r (decide (o = .commit)))).lock else s.lock) ∧
    (∀ (p : Fin 96) (f : Flit), usedPort p.val = true → nextDecision s p = some f →
      let x := s.ports[p]
      let waits := timeRuns s = false ∨ ejCredit s p .req f.cls = 0 ∨ (∃ y ∈ allEntries s, launchKey s y.2 < commitKey s p f) ∨
        ∃ j ∈ commitKeys s, j < commitKey s p f
      (waits → Completes (.decisionDeliver p) s fun t => t = s0) ∧
      (¬waits → f.net = .req → Completes (.decisionDeliver p) s fun t =>
        let w := advanceTo (2 * tbReach s (portOff s p) (commitT f).toNat) s0
        t.out = [.deliver p f] ∧ (portOff s p = 0 → TimeReaches s (commitT f).toNat → (commitT f).toNat ≤ ftimeNs t) ∧
          w.clk.cyc = max s.clk.cyc (2 * tbReach s (portOff s p) (commitT f).toNat) ∧
          t = { toUnit p f { w with ports := s.ports.set p { x with
            heldDec := x.heldDec.erase f, lkSeen := seenAdd f x.lkSeen } } with pending := s.pending })) ∧
    (let due := s.ms.mode = .drain ∧ s.ms.drainShort = false ∧ s.ms.drainRpll = false
     let votes := fun (p : Fin 96) => isHome p.val = true ∧ votedAt s p ≠ []
     (¬due → Completes .doubtAbort s fun t => t = s0) ∧
     (due → Completes .doubtAbort s fun t => t.clk.cyc = max s.clk.cyc (s.ms.drainAt + cycUs 16) ∧
      t = { s with out := [], clk := t.clk, cnt := lateCounted s t.clk, ports := t.ports, lock := t.lock, regs := t.regs } ∧
      t.lock.relays[e] = (if r.state = .ready then {} else r) ∧
      (∀ p : Fin 96, t.ports[p] = if votes p then { s.ports[p] with lkSeen := [] } else s.ports[p]) ∧
      (∀ (p : Fin 96) (k : LkSeen), isHome p.val = true → k ∈ votedAt s p → ∀ y ∈ t.lock.staged,
        ¬(y.1 = channelOf p.val ∧ y.2.1 = k.dev.toNat ∧ y.2.2.1 = k.lkt.toNat)) ∧
      (keyWf regReset 0 s.regs = true → r.state = .ready ∨ (∃ p : Fin 96, votes p) → (regGet t 0x4808).getLsbD 33 = true)))

/-! ### Lanes -/

/-- R290 to R301, R305: detection, and each stage of a training: what ends it, the stage it leads to, and the failures, the third of which in a
row leads to ABSENT. On entering a stage the strand sends a TS, or in CONFIG a TCB, on every lane. -/
def Obligations.TrainingStages : Prop :=
  ∀ (s : State) (n : Fin 10),
    let x := s.strands[n].phy
    let s0 := { s with out := [] }
    let cxB := decide (8 ≤ n.val)
    let base := fun (t : State) (y : PhySt) => { s with
      out := [], clk := t.clk, cnt := lateCounted s t.clk, strands := s.strands.set n { s.strands[n] with phy := y } }
    let late := fun (d : Nat) (t : State) => t.clk.cyc = max s.clk.cyc d
    let sends := fun (u t : State) => t = { trainOut n u with pending := s.pending }
    let enters := fun (st : Stage) (y : PhySt) (t : State) =>
      sends (base t { y with stage := st, stageAt := t.clk.cyc, burstAt := t.clk.cyc }) t
    let failed := fun (why : Nat) (y : PhySt) (t : State) =>
      t = { base t { phyFresh y with
        fails := min 2 (x.fails + 1), failWhy := why, stage := if 2 ≤ x.fails then .absent else .detect, stageAt := t.clk.cyc
        burstAt := t.clk.cyc } with regs := t.regs } ∧
      ∀ k, k ≠ slPage n.val 1 + 0x800 → k ≠ slPage n.val 2 + 0x40 → regGet t k = regGet s k
    let bursts := fun (low : Bool) (t : State) =>
      let u := { base t { x with burstAt := t.clk.cyc + cycMs 12 } with
        out := [.burst n], pins := { s.pins with prsntLow := s.pins.prsntLow.set n low } }
      t = { rowSend n (tsBlock u n) (sendMarker n true u) with pending := s.pending }
    let shows := fun (α : Type) (l : List (Fin 8 × α)) (f : Fin 8 → α → Bool) =>
      ∀ p : Fin 8, x.locked.getLsbD p.val = true → l.any (fun m => decide (m.1 = p) && f p m.2) = true
    (∀ low : Bool,
      (x.stage = .detect → (prsntUse s n = false ∨ low = true) → Completes (.detectBurst ⟨n, low⟩) s fun t => late x.burstAt t ∧ bursts low t) ∧
      (x.stage ≠ .detect ∨ (prsntUse s n = true ∧ low = false) → Completes (.detectBurst ⟨n, low⟩) s fun t =>
        t = { s0 with pins := { s.pins with prsntLow := s.pins.prsntLow.set n low } })) ∧
    (x.stage = .detect → prsntUse s n = true → Completes (.prsntFall n) s fun t => t.clk = s.clk ∧ bursts true t) ∧
    (x.stage = .detect → Completes (.detectSignal n) s fun t => t.clk = s.clk ∧
      enters .bitlock { x with cr := decide (regFld s (slPage n.val 1 + 0x40) 0 0 = 1), preOk := decide (regFld s (slPage n.val 1 + 0x40) 4 4 = 1) } t) ∧
    (∀ (tries : List LaneTry) (ppm : Vector Int 8), x.stage = .bitlock → Completes (.bitlockDone n tries ppm) s fun t =>
      let ok := tries.filter (laneLocks cxB)
      let locked := laneMask fun l => ok.any fun y => y.lane = l
      let inv := laneMask fun l => cxB && ok.any fun y => decide (y.lane = l) && !cwLock false y.codewords
      let k := popCount 8 locked.toNat
      let apart := x.cr = true ∧ ∃ y ∈ ok, 20 < ppm[y.lane].natAbs
      (apart → failed 8 x t ∧ t.clk = s.clk) ∧
      (¬apart → (k < 8 → late (x.stageAt + cycMs 2) t) ∧ (8 ≤ k → t.clk = s.clk) ∧ (k < 2 → failed 1 x t) ∧
        (2 ≤ k → enters .polarity { rxStart x with locked := locked, polB := inv } t))) ∧
    (∀ marks : List (Fin 8 × BitVec 64 × BitVec 64), x.stage = .polarity → Completes (.polarityDone n marks) s fun t =>
      let sync := BitVec.ofNat 64 markerSync
      let inv := laneMask fun l => x.locked.getLsbD l.val && marks.any fun m => decide (m.1 = l ∧ m.2.1 = ~~~sync)
      let found := shows (BitVec 64 × BitVec 64) marks (fun _ m => decide (m.1 = m.2 ∧ (m.1 = sync ∨ m.1 = ~~~sync))) ∧
        (8 ≤ n.val → inv = x.polB &&& x.locked)
      t.clk = s.clk ∧ (found → enters .lanemap { x with polInv := inv } t) ∧ (¬found → sends s0 t)) ∧
    (∀ marks : List (Fin 8 × BitVec 3 × BitVec 3), x.stage = .lanemap → Completes (.lanemapDone n marks) s fun t =>
      let map := fun (g : Nat → Nat) => shows (BitVec 3 × BitVec 3) marks fun p m => decide (m.1.toNat = g p.val ∧ m.2.toNat = g p.val)
      t.clk = s.clk ∧ (map (fun p => p) → enters .deskew { x with reversed := false, laneGood := x.locked } t) ∧
      (¬map (fun p => p) → map (fun p => 7 - p) → enters .deskew { x with reversed := true, laneGood := x.locked.reverse } t) ∧
      (¬map (fun p => p) → ¬map (fun p => 7 - p) → failed 3 x t)) ∧
    (∀ (marks : List (Fin 8 × BitVec 16)) (times : Vector Nat 8), x.stage = .deskew →
      let mine := (arrivals marks times).filter fun a => x.locked.getLsbD a.1.val
      (mine = [] → Completes (.deskewDone n marks times) s fun t => t = s0) ∧
      (∀ a r, mine = a :: r →
        let early := mine.foldl (fun m b => min m b.2.2) a.2.2
        let last := mine.foldl (fun m b => max m b.2.2) a.2.2
        let slow := (mine.filter fun b => b.2.2 = last).map fun b => (logicalOf x b.1).val
        let stored := x.rows.lastValid && decide (regFld s (slPage n.val 2 + 0x40) 0 0 = 0)
        let every := shows (BitVec 16 × Nat) mine fun _ b => decide (b.1 = a.2.1)
        (¬every → Completes (.deskewDone n marks times) s fun t => t = s0) ∧
        (every → Completes (.deskewDone n marks times) s fun t => t.clk = s.clk ∧ (256 < last - early → failed 4 x t) ∧
          (last - early ≤ 256 → enters .preset { alignOn a.2.1 { x with skew := last - early, slow := slow.foldl min 7 } with
            dwell := if stored then x.rows.lastRow else 0, dwellStored := stored, dwellAt := s.clk.cyc, bestRow := 0, bestFom := 0
            swept := false } t)))) ∧
    (∀ eyes : List (BitVec 6 × Nat), x.stage = .preset →
      (x.chosen = true → Completes (.eqDwellEnd n eyes) s fun t => t = s0) ∧
      (x.chosen = false → Completes (.eqDwellEnd n eyes) s fun t =>
        let f := rowFom x eyes
        let choice := fun (r : Store) (y : PhySt) (row best : Nat) => (best < phyFloor s n.val → failed 5 y t) ∧
          (phyFloor s n.val ≤ best →
            sends { base t { y with chosen := true, rxRow := row, bestRow := row, bestFom := best } with regs := r } t)
        let better := x.dwell = 0 ∨ x.bestFom < f
        let row := if better then x.dwell else x.bestRow
        let best := if better then f else x.bestFom
        late (x.dwellAt + cycUs 192) t ∧
        (x.dwellStored = true → phyAccept s n.val ≤ f → choice s.regs x x.dwell f) ∧
        (x.dwellStored = true → f < phyAccept s n.val → sends (base t { x with dwell := 0, dwellStored := false, dwellAt := t.clk.cyc }) t) ∧
        (x.dwellStored = false → x.dwell < 7 →
          sends (base t { x with dwell := x.dwell + 1, bestRow := row, bestFom := best, dwellAt := t.clk.cyc }) t) ∧
        (x.dwellStored = false → 7 ≤ x.dwell →
          choice (regClrBit (slPage n.val 2 + 0x40) 0 s).regs { x with swept := true } row best))) ∧
    (x.stage = .preset → x.chosen = true → x.pDone = true → Completes (.presetDone n) s fun t => t.clk = s.clk ∧ enters .config x t) ∧
    (x.chosen = false ∨ x.pDone = false → Completes (.presetDone n) s fun t => t = s0) ∧
    (∀ tc, x.tcb = some tc → x.stage = .config → 8 ≤ x.ackRx → x.ackOn = true → x.cfgDone = false →
      Completes (.configHandshakeDone n) s fun t => t.clk = s.clk ∧ (commonSet x.laneGood tc.rxGood = none → failed 3 x t) ∧
        ∀ w g, commonSet x.laneGood tc.rxGood = some (w, g) →
          let v := ackRest n s0
          let u := sendMarker n false { v with strands := v.strands.set n { v.strands[n] with phy := { v.strands[n].phy with
            cfgDone := true, width := w, group := g, rxWidth := w, rxGroup := g, trainedW := w, crAgreed := x.cr } } }
          let z := { u with strands := u.strands.set n { u.strands[n] with phy := { u.strands[n].phy with
            precode := cxB && x.preOk && tc.precodeOk } } }
          (x.early = false → t = { z with pending := s.pending }) ∧ (x.early = true → t.strands[n].phy.stage = .active) ∧
          t.strands[n].phy.cfgDone = true ∧ t.strands[n].phy.width = w ∧ t.strands[n].phy.group = g ∧ t.strands[n].phy.mcnt = x.mcnt + 1) ∧
    (inTraining x.stage = true → Completes (.trainStageTimeout n) s fun t => failed (timeoutWhy x.stage) x t ∧ late (x.stageAt + cycMs 2) t) ∧
    (x.stage = .absent → Completes (.absentExpire n) s fun t => late (x.stageAt + cycMs 100) t ∧
      t = base t { x with stage := .detect, stageAt := t.clk.cyc, burstAt := t.clk.cyc, fails := 0 }) ∧
    (∀ (tries : List LaneTry) (ppm : Vector Int 8) (m64 : List (Fin 8 × BitVec 64 × BitVec 64)) (m3 : List (Fin 8 × BitVec 3 × BitVec 3)),
      ∀ c ∈ [(Stage.detect, Instr.detectSignal n), (.bitlock, .bitlockDone n tries ppm), (.polarity, .polarityDone n m64),
          (.lanemap, .lanemapDone n m3), (.config, .configHandshakeDone n), (.absent, .absentExpire n)],
        x.stage ≠ c.1 → Completes c.2 s fun t => t = s0)

/-- R290, R302, R319, R336, R365: SL_CTRL. EN = 1 starts an enabled strand in DETECT where its lane groups and its PLL stand ready and no fault
holds it; EN = 0 takes it to DISABLED and its session down; RETRAIN starts BITLOCK afresh; SRESET ends the session with nothing to re-send. -/
def Obligations.StrandControl : Prop :=
  ∀ (s : State) (n : Fin 10), Settled s → StoresWf s →
    let x := s.strands[n].phy
    let l := s.strands[n].lnk
    let off := slPage n.val 0 + 0x40
    let en := decide (fld 0 0 (regGet s off) = 1)
    let ready := !strandHeld s n && decide (x.groups = 2) && pllOk s n
    let kept := fun (v : Nat) (t : State) => fld 0 0 (regGet t off) = v ∧ fld 5 4 (regGet t off) = fld 5 4 (regGet s off) ∧
      fld 6 6 (regGet t off) = fld 6 6 (regGet s off) ∧ fld 9 8 (regGet t off) = fld 9 8 (regGet s off) ∧
      ∀ k, k ≠ off → k ≠ slPage n.val 1 + 0x800 → regGet t k = regGet s k
    let at' := fun (t : State) => t.strands[n].phy
    let still := fun (t : State) => (at' t).stage = x.stage ∧ t.strands[n].lnk = l
    let began := fun (b : Bool) (t : State) => (at' t).stage = (if b then .detect else .disabled) ∧ (at' t).fails = 0 ∧ (at' t).stageAt = s.clk.cyc
    let downed := fun (why : Nat) (t : State) =>
      (l.link = .inactive ∨ l.link = .down → t.strands[n].lnk = l) ∧
      (l.link = .hello ∨ l.link = .up → t.strands[n].lnk.link = .down ∧ t.strands[n].lnk.downWhy = why ∧ t.strands[n].lnk.fo = true)
    (en = false → Completes (.strandEnable .mgt n) s fun t => kept 1 t ∧ began ready t ∧ t.strands[n].lnk = l) ∧
    (en = true → Completes (.strandEnable .mgt n) s fun t => kept 1 t ∧ still t) ∧
    (en = true → Completes (.strandDisable .mgt n) s fun t => kept 0 t ∧ began false t ∧ downed 7 t) ∧
    (en = false → Completes (.strandDisable .mgt n) s fun t => kept 0 t ∧ still t) ∧
    Completes (.retrain .mgt n) s (fun t => kept (b2n en) t ∧
      (x.stage = .active → (at' t).stage = .bitlock ∧ (at' t).stageAt = s.clk.cyc ∧ downed 5 t) ∧
      (inTraining x.stage = true → (at' t).stage = .bitlock ∧ (at' t).stageAt = s.clk.cyc ∧ t.strands[n].lnk = l) ∧
      (x.stage ≠ .active → inTraining x.stage = false → still t)) ∧
    Completes (.sreset .mgt n) s fun t => kept (b2n en) t ∧ began (en && ready) t ∧ (at' t).failWhy = 0 ∧
      t.strands[n].lnk.replay = [] ∧ t.strands[n].lnk.tx = [] ∧ t.strands[n].lnk.rx = [] ∧
      (l.link = .inactive → t.strands[n].lnk.link = .inactive) ∧
      (l.link ≠ .inactive → t.strands[n].lnk.link = .down ∧ t.strands[n].lnk.downWhy = 7) ∧
      t.ports[strandP n].opens = [] ∧ t.ports[strandP n].st =
        if s.ports[strandP n].st = .active ∨ s.ports[strandP n].st = .fencing then .reset else s.ports[strandP n].st

/-- R266 to R273, R276, R279, R280, R283, R284, R289, R291, R297 to R302, R311, R313, R316, R337: the blocks of a strand. On the line: what one
lane sends, another that stood as it did receives, on complex A with its stuff bits taken out again; levels that are precoded decode; a block
that goes out on every lane goes scrambled by each lane's own register. Then what a strand does with the control blocks it receives and
sends, and with a lost signal or block lock. -/
def Obligations.StrandBlocks : Prop :=
  (∀ (r : RunCnt) (bits : List Bool), r.cnt < 24 →
    let step := fun (a : List Bool × Bool × RunCnt) (b : Bool) =>
      let u := unstuffBit a.2.2 b
      (a.1 ++ u.1.toList, a.2.1 || u.2.1, u.2.2)
    (stuff r bits).1.foldl step ([], false, r) = (bits, false, (stuff r bits).2)) ∧
  (∀ (y : Nat) (ls : List Nat), y < 4 → (∀ a ∈ ls, a < 4) → unprecode y (precode y ls).1 = (ls, (precode y ls).2)) ∧
  (∀ (l : Fin 8) (r : BitVec 31) (b : Block), (unscrambled b = true → rawPlain b = true) →
    (rawMarker b = true ↔ unscrambled b = true ∧ blkType b = tyMARKER) → (unscrambled b = false → rawPlain (scrBlock l.val r b).1 = false) →
    descrBlock l.val r (scrBlock l.val r b).1 = (b, (scrBlock l.val r b).2)) ∧
  ∀ (s : State) (n : Fin 10),
    let x := s.strands[n].phy
    let l := s.strands[n].lnk
    let s0 := { s with out := [] }
    let cxB := decide (8 ≤ n.val)
    let at' := fun (t : State) => t.strands[n].phy
    let only := fun (y : PhySt) (o : List Out) => { s with out := o, strands := s.strands.set n { s.strands[n] with phy := y } }
    let downed := fun (why : Nat) (t : State) =>
      (l.link = .inactive ∨ l.link = .down → t.strands[n].lnk = l) ∧
      (l.link = .hello ∨ l.link = .up → t.strands[n].lnk.link = .down ∧ t.strands[n].lnk.downWhy = why ∧ t.strands[n].lnk.fo = true)
    let failed := fun (why : Nat) (t : State) => (at' t).failWhy = why ∧ (at' t).fails = min 2 (x.fails + 1) ∧
      (at' t).stage = (if 2 ≤ x.fails then .absent else .detect) ∧ (at' t).stageAt = s.clk.cyc ∧ t.strands[n].lnk = l
    let lost := fun (why : Nat) (t : State) => t = { faultEvent (.strand n) srcLos (strandDown n why s0) with pending := s.pending } ∧
      downed why t ∧ (regGet t (slPage n.val 0 + 0x810)).toNat.testBit 10 = true ∧
      (at' t).stage = if s.flt.strands[n].st = .inn ∧ t.flt.strands[n].st ≠ .inn then .disabled else .bitlock
    (∀ (b : Block) (p : Fin 8), cxB = false → x.locked.getLsbD p.val = true → mapped x.stage = true → x.rxPwr ≠ .deep →
      x.rx[p].run.cnt < 24 → x.rx[p].cnt = 0 → x.rx[p].acc = 0 → x.rx[p].bad = false → x.polInv.getLsbD p.val = false → blkH b = 1 ∨ blkH b = 2 →
      (unscrambled b = true → rawPlain b = true) → (rawMarker b = true ↔ unscrambled b = true ∧ blkType b = tyMARKER) →
      let k := logicalOf x p
      (unscrambled b = false → rawPlain (scrBlock k.val x.rx[p].scr b).1 = false) →
      popCount 64 (x.rx[p].hist <<< 1).toNat < 8 →
      let y := { x.tx[k] with scr := x.rx[p].scr, run := x.rx[p].run }
      let u := sendLane false x.precode k.val b y
      let t := laneUis n (p, u.1) s
      t.strands[n].lnk = l ∧ (at' t).rx[p].q = x.rx[p].q ++ [(b, false)] ∧ (at' t).rx[p].scr = u.2.scr ∧ (at' t).rx[p].run = u.2.run ∧
        (at' t).rx[p].cnt = 0 ∧ (at' t).rx[p].bad = false) ∧
    (∀ tr : Bool, (∀ k : Fin 8, x.tx[k].pos = x.tx[(0 : Fin 8)].pos) →
      let goes := fun (b : Fin 8 → Block) (y : PhySt) (z : LaneTx → LaneTx) => only
        { y with strm := 0, tx := Vector.ofFn fun k => z (sendLane cxB x.precode k.val (b k) x.tx[k]).2 }
        (s.out ++ (List.finRange 8).map fun k => Out.lane n k (b k) (sendLane cxB x.precode k.val (b k) x.tx[k]).1)
      rowSend n (tsBlock s n) s = goes (tsBlock s n) x id ∧
      sendMarker n tr s = goes (markerBlock s n tr) { x with mcnt := x.mcnt + 1 } id ∧
      (∀ k : Fin 8, blkGood (tsBlock s n k) = true ∧ blkType (tsBlock s n k) = tyTS ∧ blkFld (tsBlock s n k) 14 12 = k.val ∧
        blkGood (markerBlock s n tr k) = true ∧ blkType (markerBlock s n tr k) = tyMARKER ∧ blkFld (markerBlock s n tr k) 74 72 = k.val ∧
        blkFld (markerBlock s n tr k) 75 75 = b2n tr ∧ blkFld (markerBlock s n tr k) 111 96 = x.mcnt.toNat)) ∧
    (∀ (d : Int) (u : List (Fin 8 × List Nat)),
      ∀ c ∈ [Instr.tsOrTcbReceive n (.lanes d u), .markerReceive n (.lanes d u), .lctlReqReceive n (.lanes d u),
          .lctlAnswerReceive n (.lanes d u), .treqReceive n (.lanes d u), .trespReceive n (.lanes d u), .containerReceive n (.lanes d u) false, .containerReceive n (.lanes d u) true],
        Completes c s fun t => t = { stripIn n l.pSync d u s0 with pending := s.pending } ∧
          (u = [] → x.aligned = false → t = only { x with buf := x.buf + d } [])) ∧
    (∀ (d : Int) (u : List (Fin 8 × List Nat)) (sy : Bool), Completes (.tsyncReceive n ⟨.lanes d u, sy⟩) s fun t =>
      t = { stripIn n sy d u s0 with pending := s.pending } ∧ (u = [] → x.aligned = false → t = only { x with buf := x.buf + d } [])) ∧
    (x.stage = .active → x.deepAt = none → StoresWf s → Completes (.tsInActive n) s (lost 5)) ∧
    (x.stage ≠ .active ∨ x.deepAt ≠ none → Completes (.tsInActive n) s fun t => t = s0) ∧
    (∀ b : Block, blkGood b = false →
      Completes (.tsOrTcbReceive n (.block b)) s (fun t => t = { only { x with same := 0, ackRx := 0 } [] with cnt := (countStrand n 13 s).cnt }) ∧
      Completes (.markerReceive n (.block b)) s (fun t => t = { s with out := [], cnt := (countStrand n 13 s).cnt })) ∧
    (∀ b : Block, blkGood b = true → blkType b = tyTS →
      (inTraining x.stage = true → Completes (.tsOrTcbReceive n (.block b)) s fun t =>
        t = { trainOut n (only { x with
          appRow := if blkFld b 19 19 = 1 then blkFld b 18 16 else x.appRow, pDone := x.pDone || decide (blkFld b 23 23 = 1) } []) with
            pending := s.pending }) ∧
      (x.stage = .active → x.deepAt = none → StoresWf s → Completes (.tsOrTcbReceive n (.block b)) s (lost 5))) ∧
    (∀ b : Block, blkGood b = true → blkType b = tyTCB → x.stage = .config → Completes (.tsOrTcbReceive n (.block b)) s fun t =>
      let tc := tcbOf b
      let foreign := tc.express ≠ cxB ∨ blkFld b 115 112 ≠ 0
      let eq := decide ((x.tcb.map fun u => { u with ack := tc.ack }) = some tc)
      (foreign → failed 9 t) ∧ (¬foreign → tc.cr ≠ x.cr → failed 6 t) ∧
      (¬foreign → tc.cr = x.cr → t = { trainOut n { s with out := [], strands := s.strands.set n {
          lnk := { l with tcbSerial := tc.serial }
          phy := { x with tcb := some tc, ackRx := if tc.ack then min 8 (x.ackRx + 1) else 0, ackOn := x.ackOn || (eq && decide (1 ≤ x.same))
                          same := if eq then min 2 (x.same + 1) else 1 } } } with pending := s.pending })) ∧
    (∀ b : Block, blkGood b = true → blkType b = tyMARKER → blkFld b 75 75 = 1 → Completes (.markerReceive n (.block b)) s fun t => t = s0) ∧
    (∀ b : Block, blkGood b = true → blkType b = tyMARKER → blkFld b 75 75 = 0 →
      let mc := BitVec.ofNat 16 (blkFld b 111 96)
      (x.stage = .config → x.cfgDone = false → Completes (.markerReceive n (.block b)) s fun t =>
        t = only { x with rxMcnt := some mc, early := true } []) ∧
      (x.stage = .config → x.cfgDone = true → Completes (.markerReceive n (.block b)) s fun t =>
        (at' t).stage = .active ∧ (at' t).stageAt = s.clk.cyc ∧ (at' t).fails = 0 ∧ (at' t).rxMcnt = some mc ∧
        (s.ms.mode ≠ .drain → (at' t).rows = { lastRow := x.bestRow, lastFom := x.bestFom, lastValid := true, txRow := x.appRow }) ∧
        (s.ms.mode = .drain → (at' t).rows = x.rows) ∧ t.strands[n].lnk.link = if l.link = .inactive then .hello else l.link) ∧
      (x.stage = .active → x.deepAt = none →
        (∀ m, x.rxMcnt = some m → m + 1 ≠ mc →
          exec (.markerReceive n (.block b)) s = exec (.lossOfSignal n (BitVec.ofNat 3 (physicalOf x (Fin.ofNat 8 (blkFld b 74 72))).val)) s) ∧
        (x.rxMcnt = none ∨ x.rxMcnt = some (mc - 1) →
          let ps := blkFld b 81 80
          let y := { x with
            rxMcnt := if ps = 2 then none else some mc, rxPwr := pwrOf ps x.rxPwr
            rxWidth := blkFld b 77 76, rxGroup := decide (blkFld b 78 78 = 1) }
          (ps ≠ 0 ∨ x.armed ≠ none ∨ x.pwr ≠ .standby → Completes (.markerReceive n (.block b)) s fun t => t = only y []) ∧
          (ps = 0 → x.armed = none → x.pwr = .standby → Completes (.markerReceive n (.block b)) s fun t => (at' t).pwr = .active ∧
            t = { lctlPump n (sendMarker n false (timeRefresh (only { y with pwr := .active } []))) with pending := s.pending })))) ∧
    (inTraining x.stage = true → Completes (.markerSend n) s fun t => (at' t).mcnt = x.mcnt + 1 ∧
      t = { sendMarker n (!x.cfgDone) (alignLanes n 32 s0) with pending := s.pending }) ∧
    (x.stage = .active → x.deepAt = none → x.armed = none → x.pwr ≠ .deep → Completes (.markerSend n) s fun t => (at' t).mcnt = x.mcnt + 1 ∧
      t = { sendMarker n false (alignLanes n 4096 s0) with pending := s.pending }) ∧
    (∀ w, x.armed = some w → x.stage = .active → x.deepAt = none → Completes (.markerSend n) s fun t =>
      let u := alignLanes n 4096 s0
      let y := { applyWhat w (at' u) with armed := none }
      (at' t).mcnt = x.mcnt + 1 ∧ (at' t).armed = none ∧ (at' t).pwr = y.pwr ∧ (at' t).width = y.width ∧ (at' t).group = y.group ∧
      t = { lctlPump n (timeRefresh (sendMarker n false { u with strands := u.strands.set n { u.strands[n] with phy := y } })) with
        pending := s.pending }) ∧
    (∀ lane : BitVec 3,
      let k := logicalOf x (Fin.ofNat 8 lane.toNat)
      let used := (laneSet x.rxWidth x.rxGroup).testBit k.val = true
      let watched := x.stage = .bitlock ∨ x.locked.getLsbD lane.toNat = true
      (StoresWf s → x.stage = .active → x.rxPwr ≠ .deep → used →
        Completes (.lossOfSignal n lane) s (lost 3) ∧ Completes (.lossOfBlockLock n lane) s (lost 3)) ∧
      (x.stage = .active → x.rxPwr = .deep ∨ ¬used → Completes (.lossOfSignal n lane) s (fun t => t = s0) ∧
        Completes (.lossOfBlockLock n lane) s (fun t => t = s0)) ∧
      (inTraining x.stage = true → watched → Completes (.lossOfSignal n lane) s (failed 0xA)) ∧
      (inTraining x.stage = true → ¬watched → Completes (.lossOfSignal n lane) s fun t => t = s0) ∧
      (x.stage ≠ .active → Completes (.lossOfBlockLock n lane) s fun t => t = s0))

/-- R313 to R318: power states and widths. A request goes out in an LCTL REQ where one may be sent, waits where the link is not idle, and takes
hold at the MARKER after its ACK; a REQ is answered by the first answer that applies; of two in collision one end's wins; a request that is
lost leaves REQ_LOST; STANDBY and DEEP are left by a MARKER and by WAKE_n, after which DEEP's exit sends training markers and then the marker
with PS = 0b00. -/
def Obligations.StrandPower : Prop :=
  ∀ (s : State) (n : Fin 10),
    let x := s.strands[n].phy
    let l := s.strands[n].lnk
    let off := slPage n.val 0 + 0x40
    let s0 := { s with out := [] }
    let set' := fun (u : State) (y : PhySt) => { u with strands := u.strands.set n { u.strands[n] with phy := y } }
    let at' := fun (t : State) => t.strands[n].phy
    let same := fun (u t : State) => t = { u with pending := s.pending }
    let quiet := x.wantPwr = none ∧ x.wantWidth = none
    let free := x.stage = .active ∧ x.pwr = .active ∧ x.lctlOut = none ∧ x.armed = none ∧ x.deepAt = none
    let asks := fun (w : LctlWhat) => { x with
      wantPwr := none, wantWidth := none, rid := x.rid + 1
      lctlOut := some { what := w, rid := x.rid, endAt := s.clk.cyc + cycUs 100, idv := s.pool.idv, devId := s.pool.devId } }
    let asked := fun (w : LctlWhat) (u : State) => controlSend n (lctlBlock s 1 (whatNum w) x.rid.toNat 0) (set' u (asks w))
    let acked := fun (u t : State) => t = { u with pending := s.pending, out := u.out ++ [.ack .mgt] }
    let wide := fld 9 8 (regGet s off)
    let sameWidth := x.width ≤ 2 ∧ (if wide = 0 then x.trainedW else wide) = x.width
    let stored := fun (v : Nat) (t : State) => fld 5 4 (regGet t off) = v ∧ fld 9 8 (regGet t off) = wide ∧
      ∀ k, k ≠ off → regGet t k = regGet s k
    (Settled s → StoresWf s → x.stage = .active → x.wantWidth = none → wide ≤ 2 → sameWidth →
      let kept := if widthPending x then some wide else none
      (∀ r w, (r = .standby ∧ w = .standby) ∨ (r = .deep ∧ w = .deep) → x.pwr ≠ r →
        (free → linkIdle l = true → Completes (.strandPwrReq .mgt n r) s fun t =>
          acked (asked w { s0 with regs := t.regs }) t ∧ stored (pwrCode r) t) ∧
        (¬free ∨ linkIdle l = false → Completes (.strandPwrReq .mgt n r) s fun t =>
          acked (set' { s0 with regs := t.regs } { x with wantPwr := some w, wantWidth := kept }) t ∧ stored (pwrCode r) t)) ∧
      (x.pwr = .standby → x.deepAt = none → kept = none → Completes (.strandPwrReq .mgt n .active) s fun t => stored 0 t ∧ (at' t).pwr = .active ∧
        acked (sendMarker n false (timeRefresh (set' { s0 with regs := t.regs } { x with wantPwr := none, pwr := .active }))) t) ∧
      (x.pwr = .deep → x.deepAt = none → Completes (.strandPwrReq .mgt n .active) s fun t => stored 0 t ∧
        acked (set' { s0 with regs := t.regs, out := [.wake n] }
          { laneWake { x with wantPwr := none } with deepAt := some s.clk.cyc, wantWidth := kept }) t) ∧
      (x.pwr = .active → Completes (.strandPwrReq .mgt n .active) s fun t => stored 0 t ∧
        acked (set' { s0 with regs := t.regs } { x with wantPwr := none, wantWidth := kept }) t)) ∧
    (∀ r : WidthReq, Settled s → StoresWf s → fld 5 4 (regGet s off) = 0 →
      let w := if r = .widest then x.trainedW else widthCode r
      let kept := fun (t : State) => fld 9 8 (regGet t off) = widthCode r ∧ ∀ k, k ≠ off → regGet t k = regGet s k
      (free → w ≤ 2 → w ≠ x.width → Completes (.strandWidthReq .mgt n r) s fun t =>
        let what := if w = 0 then LctlWhat.x8 else if w = 1 then .x4 else .x2
        acked (asked what { s0 with regs := t.regs }) t ∧ kept t) ∧
      (free → w ≤ 2 → w = x.width → Completes (.strandWidthReq .mgt n r) s fun t =>
        acked (set' { s0 with regs := t.regs } { x with wantPwr := none, wantWidth := none }) t ∧ kept t) ∧
      (x.stage ≠ .active → x.pwr = .active → Completes (.strandWidthReq .mgt n r) s fun t => kept t ∧
        acked (set' { s0 with regs := t.regs } { x with wantPwr := none, wantWidth := if r = .widest then none else some (widthCode r) }) t)) ∧
    (∀ (b : Block) (w : LctlWhat), whatOf (blkFld b 15 12) = some w → blkGood b = true → blkType b = tyLCTL → blkFld b 11 8 = 1 →
      x.stage = .active →
      let rid := blkFld b 19 16
      let c := lctlJudge s n w
      let answers := fun (u : State) =>
        if c = 0 then controlSend n (lctlBlock s 2 (whatNum w) rid 0) (set' u { at' u with armed := some w })
        else controlSend n (lctlBlock s 3 (whatNum w) rid c) u
      let wins := fun (r : LctlReq) => if r.idv = true ∧ blkFld b 29 29 = 1 then r.devId.toNat < blkFld b 28 24 else s.ident.serial.toNat < blkFld b 127 64
      (x.lctlOut = none → Completes (.lctlReqReceive n (.block b)) s (same (answers s0))) ∧
      (∀ r, x.lctlOut = some r → wins r → Completes (.lctlReqReceive n (.block b)) s (same (controlSend n (lctlBlock s 3 (whatNum w) rid 4) s0))) ∧
      (∀ r, x.lctlOut = some r → ¬wins r → Completes (.lctlReqReceive n (.block b)) s
        (same (answers (reqLost n (set' s0 { x with lctlOut := none })))))) ∧
    (∀ (b : Block) (r : LctlReq), x.lctlOut = some r → blkGood b = true → blkType b = tyLCTL → blkFld b 19 16 = r.rid.toNat →
      (blkFld b 11 8 = 2 → Completes (.lctlAnswerReceive n (.block b)) s (same (set' s0 { x with lctlOut := none, armed := some r.what }))) ∧
      (blkFld b 11 8 = 3 → Completes (.lctlAnswerReceive n (.block b)) s fun t =>
        same (lctlPump n (reqLost n (set' s0 { x with lctlOut := none }))) t ∧
          (quiet → t = { set' s0 { x with lctlOut := none } with regs := (reqLost n s).regs }))) ∧
    (∀ r, x.lctlOut = some r → Completes (.lctlTimeout n) s fun t =>
      let u := set' { s0 with clk := t.clk, cnt := lateCounted s t.clk } { x with lctlOut := none }
      t.clk.cyc = max s.clk.cyc r.endAt ∧ same (lctlPump n (reqLost n u)) t ∧ (quiet → t = { u with regs := (reqLost n s).regs })) ∧
    (x.lctlOut = none → Completes (.lctlTimeout n) s fun t => t = s0) ∧
    (x.stage = .active → x.pwr = .standby → Completes (.standbyExit n) s fun t => (at' t).pwr = .active ∧ (at' t).mcnt = x.mcnt + 1 ∧
      same (lctlPump n (sendMarker n false (timeRefresh (set' s0 { x with pwr := .active })))) t) ∧
    (x.stage ≠ .active ∨ x.pwr ≠ .standby → Completes (.standbyExit n) s fun t => t = s0) ∧
    (x.stage = .active → x.pwr = .deep → x.deepAt = none → Completes (.deepWake n) s fun t =>
      t = set' s0 { laneWake x with deepAt := some s.clk.cyc }) ∧
    (x.stage ≠ .active ∨ x.pwr ≠ .deep ∨ x.deepAt ≠ none → Completes (.deepWake n) s fun t => t = s0) ∧
    (∀ d, x.deepAt = some d → x.stage = .active →
      let w := advanceTo (d + cycUs 10) s0
      (w.clk.cyc < d + cycUs 16 → Completes (.markerSend n) s
        (same (rowSend n (tsBlock w n) (sendMarker n true (alignLanes n 0 w))))) ∧
      (d + cycUs 16 ≤ w.clk.cyc → Completes (.markerSend n) s fun t => (at' t).pwr = .deep ∧ (at' t).mcnt = x.mcnt + 1 ∧
        same (let u := sendMarker n false (set' w { x with pwr := .active }); set' u { at' u with pwr := .deep }) t) ∧
      (∀ b : Block, blkGood b = true → blkType b = tyMARKER → blkFld b 75 75 = 0 →
        (blkFld b 81 80 ≠ 0 → Completes (.markerReceive n (.block b)) s fun t => t = s0) ∧
        (blkFld b 81 80 = 0 → Completes (.markerReceive n (.block b)) s fun t => (at' t).pwr = .active ∧ (at' t).rxPwr = .active ∧
          (at' t).deepAt = none ∧ (at' t).mcnt = x.mcnt + 1 ∧ (at' t).rxMcnt = some (BitVec.ofNat 16 (blkFld b 111 96)))) ∧
      (∀ (marks : List (Fin 8 × BitVec 16)) (times : Vector Nat 8) a r, x.pwr = .deep → arrivals marks times = a :: r →
        (∀ c ∈ a :: r, x.locked.getLsbD c.1.val = true) →
        (∀ c ∈ a :: r, c.2 = a.2) → (∀ p : Fin 8, x.locked.getLsbD p.val = true → ∃ c ∈ a :: r, c.1 = p) →
        Completes (.deskewDone n marks times) s fun t => (at' t).aligned = true ∧ (at' t).skew = 0 ∧ (at' t).stage = .active ∧
          t = set' s0 { alignOn a.2.1 x with skew := 0, slow := (at' t).slow })) ∧
    (x.deepAt = none → Completes (.deepExitTimeout n) s fun t => t = s0) ∧
    (∀ d, x.deepAt = some d → Completes (.deepExitTimeout n) s fun t =>
      t.clk.cyc = max s.clk.cyc (d + cycUs 100) ∧ (at' t).stageAt = t.clk.cyc ∧
      (at' t).stage = (if strandEn s n && !strandHeld s n && decide (x.groups = 2) && pllOk s n then .detect else .disabled) ∧
      (l.link = .inactive ∨ l.link = .down → t.strands[n].lnk = l) ∧
      (l.link = .hello ∨ l.link = .up → t.strands[n].lnk.link = .down ∧ t.strands[n].lnk.downWhy = 5))

/-- R304, R308 to R310, R376, R459, R460: the eyes of a strand's lanes and what follows from them, its calibration blocks, and the power-up
schedule, the PLLs and the references of the strand complexes. -/
def Obligations.LaneHealth : Prop :=
  ∀ (s : State) (n : Fin 10),
    let x := s.strands[n].phy
    let l := s.strands[n].lnk
    let w := s.power
    let only := fun (y : PhySt) (o : List Out) => { s with out := o, strands := s.strands.set n { s.strands[n] with phy := y } }
    let s0 := { s with out := [] }
    let used := fun (i : Fin 8) => (laneSet x.rxWidth x.rxGroup).testBit i.val
    let go := fun (k : Fin 10) => strandEn s k && !strandHeld s k && decide (s.strands[k].phy.groups = 2)
    (∀ eyes : List (BitVec 6 × Nat), x.stage = .active → x.rxPwr = .active → Completes (.fomUpdate n eyes) s fun t =>
      let y := t.strands[n].phy
      let fl := phyFloor s n.val
      let mid := fun (i : Fin 8) => used i && (decide (fl ≤ y.fom[i]) && decide (y.fom[i] < phyRecentre s n.val))
      let again := (List.finRange 8).filter fun i => mid i && !x.inBand[i]
      t.clk.cyc = max s.clk.cyc (x.fomAt + cycNs 1024) ∧
      t = { only { x with fom := y.fom, fomAt := t.clk.cyc, fomLow := y.fomLow, inBand := Vector.ofFn mid, rx := y.rx } [] with
        clk := t.clk, freeCtr := s.freeCtr + again.length
        cnt := (forEach again (fun _ => countStrand n 17) { s with clk := t.clk, cnt := lateCounted s t.clk }).cnt } ∧
      (∀ i : Fin 8, y.fom[i] = if used i then (match eyes[i.val]? with | some v => fomOf v.1 v.2 | none => x.fom[i]) else 0) ∧
      (∀ i : Fin 8, y.fomLow[i] = if used i = true ∧ y.fom[i] < fl then some (x.fomLow[i].getD t.clk.cyc) else none) ∧
      (∀ i : Fin 8, i ∉ again → y.rx[physicalOf x i] = x.rx[physicalOf x i]) ∧
      (∀ i : Fin 8, y.rx[i] = { x.rx[i] with phase := y.rx[i].phase, trim := y.rx[i].trim })) ∧
    (x.stage ≠ .active ∨ x.rxPwr ≠ .active → ∀ eyes, Completes (.fomUpdate n eyes) s fun t => t = s0) ∧
    (∀ d, fomLowest x = some d → StoresWf s → x.stage = .active → Completes (.fomFloor n) s fun t =>
      t.clk.cyc = max s.clk.cyc (d + cycUs 10) ∧ (∃ i : Fin 8, x.fomLow[i] = some d) ∧
      (l.link = .inactive ∨ l.link = .down → t.strands[n].lnk = l) ∧
      (l.link = .hello ∨ l.link = .up → t.strands[n].lnk.link = .down ∧ t.strands[n].lnk.downWhy = 4 ∧ t.strands[n].lnk.fo = true) ∧
      (regGet t (slPage n.val 0 + 0x810)).toNat.testBit 11 = true ∧
      t.strands[n].phy.stage = if s.flt.strands[n].st = .inn ∧ t.flt.strands[n].st ≠ .inn then .disabled else .bitlock) ∧
    (fomLowest x = none ∨ x.stage ≠ .active → Completes (.fomFloor n) s fun t => t = s0) ∧
    (let sends := x.stage = .active ∧ x.pwr = .active ∧ x.deepAt = none
     let u := advanceTo (x.lastCal + cycUs 64) s0
     let p := x.tx.toList.foldl (fun m y => max m y.pos) 0
     let row := fun (v : State) => rowSend n (fun _ => patBlock tyCAL)
       { v with strands := v.strands.set n { v.strands[n] with phy := { v.strands[n].phy with lastCal := u.clk.cyc } } }
     (∀ q, [512, 1536, 2560, 3584].find? (fun q => p ≤ q) = some q → sends → Completes (.calSend n) s fun t =>
       u.clk.cyc = max s.clk.cyc (x.lastCal + cycUs 64) ∧ t = { row (alignLanes n q u) with pending := s.pending }) ∧
     (sends → 3584 < p → Completes (.calSend n) s fun t =>
       t = { row (alignLanes n 512 (sendMarker n false (alignLanes n 4096 u))) with pending := s.pending }) ∧
     (¬sends → Completes (.calSend n) s fun t => t = s0)) ∧
    (∀ (cx : StrandComplex) (pair0 : Bool),
      let on := match cx with | .a => w.pllAOn | .b => w.pllBOn
      let locked := match cx with | .a => w.pllA | .b => w.pllB
      let mine : Fin 10 → Bool := fun k => match cx with | .a => decide (k.val < 8) | .b => decide (8 ≤ k.val)
      (on = false → Completes (.refclkLoss cx pair0) s (fun t => t = { s with out := [] }) ∧
        Completes (.complexPllLocked cx) s (fun t => t = { s with out := [] })) ∧
      (on = true → Completes (.refclkLoss cx pair0) s fun t =>
        t.power = (match cx with | .a => { w with pllA := false, refA1 := !pair0 } | .b => { w with pllB := false, refB1 := !pair0 }) ∧
        (∀ k, mine k → t.strands[k].phy.stage = .disabled) ∧ (∀ k, ¬mine k → t.strands[k].phy = s.strands[k].phy)) ∧
      (on = true → locked = false → Completes (.complexPllLocked cx) s fun t =>
        t.power = (match cx with | .a => { w with pllA := true } | .b => { w with pllB := true }) ∧
        ∀ k, (mine k → s.strands[k].phy.stage = .disabled → t.strands[k].phy.stage = if go k then .detect else .disabled) ∧
          (¬mine k ∨ s.strands[k].phy.stage ≠ .disabled → t.strands[k].phy = s.strands[k].phy))) ∧
    (∀ pair0 : Bool, s.ms.heldReset = none → s.ms.mode ≠ .keep →
      let grouped := fun (k : Nat) (t : State) =>
        let y := s.strands[groupStrand k].phy
        let z := t.strands[groupStrand k].phy
        z.groups = max y.groups (k % 2 + 1) ∧
        z.stage = (if z.groups = 2 ∧ y.stage = .disabled ∧ strandHeld s (groupStrand k) = false ∧ pllOk s (groupStrand k) = true then .detect else y.stage) ∧
        ∀ m, m ≠ groupStrand k → t.strands[m] = s.strands[m]
      (w.done = 0 → w.pllAOn = false → Completes (.laneGroupPowerup pair0) s fun t => t.clk.cyc = max s.clk.cyc w.schedAt ∧
        t = { s with out := [], clk := t.clk, cnt := lateCounted s t.clk, power := { w with done := 1, pllAOn := true, pllA := false, refA1 := !pair0 } }) ∧
      (w.done = 1 → w.pllBOn = false → Completes (.laneGroupPowerup pair0) s fun t => t.clk.cyc = max s.clk.cyc (w.schedAt + cycUs 40) ∧
        t = { s with out := [], clk := t.clk, cnt := lateCounted s t.clk, power := { w with done := 2, pllBOn := true, pllB := false, refB1 := !pair0 } }) ∧
      (∀ k, k < 20 → w.done = k + 2 → Completes (.laneGroupPowerup pair0) s fun t =>
        t.clk.cyc = max s.clk.cyc (w.schedAt + cycUs (80 + 20 * k)) ∧
        (strandEn s (groupStrand k) = false →
          t = { s with out := [], clk := t.clk, cnt := lateCounted s t.clk, power := { w with done := k + 3, owedAt := t.clk.cyc, owed := w.owed ++ [k] } }) ∧
        (strandEn s (groupStrand k) = true → t.power = { w with done := k + 3, owedAt := t.clk.cyc } ∧ grouped k t)) ∧
      (22 ≤ w.done → (∀ k ∈ w.owed, strandEn s (groupStrand k) = false) → Completes (.laneGroupPowerup pair0) s fun t => t = { s with out := [] }) ∧
      (∀ k, w.owed.find? (fun k => strandEn s (groupStrand k)) = some k → 22 ≤ w.done → Completes (.laneGroupPowerup pair0) s fun t =>
        t.clk.cyc = max s.clk.cyc (freeBoundary s) ∧ t.power = { w with owed := w.owed.erase k, owedAt := t.clk.cyc } ∧ grouped k t))

/-! ### Containers, sessions, sequencer -/

/-- R324 to R332, R336, R337, R442, R445: what a strand's transmitter launches, as three blocks of its stream: a SEQC that was named for
replay, a new SEQC with what waits, an ACKC where no SEQC may go and after ACK_INT, the credits of every buffer; what a replay timeout names,
and the end of a window. -/
def Obligations.ContainerSends : Prop :=
  ∀ (s : State) (n : Fin 10),
    let x := s.strands[n].phy
    let l := s.strands[n].lnk
    let s0 := { s with out := [] }
    let only := fun (k : LinkSt) (u : State) => { u with strands := u.strands.set n { u.strands[n] with lnk := k } }
    let ready := x.stage = .active ∧ x.pwr = .active ∧ x.deepAt = none ∧ (l.link = .hello ∨ l.link = .up)
    let none' := ∀ k ∈ bufKeys, creditDue l k = false
    let launched := fun (w : State) (k : LinkSt) (nak : Bool) (ty seq body : Nat) (c t : State) =>
      let r := rawContainer l nak ty seq body
      let v := containerBlocks n r { w with
        out := [.container n r], strands := s.strands.set n { phy := { x with lastCal := w.clk.cyc }, lnk := { k with lastTx := w.clk.cyc } } }
      t = { v with cnt := c.cnt, pending := s.pending }
    let newSeqc := fun (k : LinkSt) (body : Nat) (pkts : List Flit) (c t : State) =>
      launched s0 { k with
        next := l.next + 1, replay := l.replay ++ [{ seq := l.next, body := BitVec.ofNat 704 body, pkts := pkts, sentAt := s.clk.cyc }] }
        false 1 l.next.toNat body (countStrand n 5 (countN (scOff n.val 4) 3 c)) t
    let ackc := fun (w t : State) =>
      let nak := match l.nakAt with | some a => decide (a + cycUs (slReplayTo s n.val) ≤ w.clk.cyc) | none => false
      let c := if nak then countStrand n 8 w else w
      (nak = true → launched w { l with nakAt := some w.clk.cyc } true 2 0 0
        (countN (scOff n.val (idleClass s n)) 3 (countStrand n 7 (countN (scOff n.val 4) 3 c))) t) ∧
      (nak = false → launched w l false 2 0 0 (countN (scOff n.val (idleClass s n)) 3 (countStrand n 7 (countN (scOff n.val 4) 3 c))) t)
    (x.stage ≠ .active → Completes (.containerSend n) s fun t => t = s0) ∧
    (x.stage = .active → x.pwr = .standby → x.deepAt = none → x.armed = none → txWork s n = true → l.link = .hello ∨ l.link = .up →
      Completes (.containerSend n) s fun t => t.strands[n].phy.pwr = .active ∧ t.strands[n].phy.mcnt = x.mcnt + 1) ∧
    (∀ c, l.replay.find? (·.resend) = some c → ready →
      (c.pkts = [] ∨ txPackets s n = true → Completes (.containerSend n) s
        (launched s0 { l with replay := l.replay.map fun d =>
            if d.seq = c.seq then { d with resend := false, replays := d.replays + 1, sentAt := s.clk.cyc } else d }
          false 1 c.seq.toNat c.body.toNat (countStrand n 6 (countN (scOff n.val 4) 3 s)))) ∧
      (c.pkts ≠ [] → txPackets s n = false → none' → l.nakAt = none → Completes (.containerSend n) s (ackc s0))) ∧
    (ready → (∀ c ∈ l.replay, c.resend = false) → 1024 ≤ l.replay.length → none' → l.nakAt = none → Completes (.containerSend n) s (ackc s0)) ∧
    (ready → (∀ c ∈ l.replay, c.resend = false) → l.replay.length < 1024 → none' →
      (∀ m, l.msgs = [m] → l.link = .hello → Completes (.containerSend n) s
        (newSeqc { l with msgs := [] } (itemBits (.msg m)).1 [] s)) ∧
      (∀ (k : Nat) (q : TxFlit), l.tx = [(k, [q])] → l.link = .up → trafficOn s = true → l.msgs = [] → k ∈ bufKeys → k % 3 ≠ 0 → q.flit.cls ≠ .gt →
        txCredit n l k = true → Completes (.containerSend n) s
          (newSeqc { l with tx := [], sent := spSet 0 l.sent k ((spGet 0 l.sent k + 1) % 256), rrIn := (k + 1) % 12, beCnt := 0, llCnt := 0 }
            (itemBits (.pkt q.flit false 0)).1 [q.flit] (countStrand n (25 + 2 * (k / 3)) s))) ∧
      (l.link = .hello → l.msgs = [] → Completes (.containerSend n) s fun t => t = s0)) ∧
    (ready → none' → Completes (.ackcSend n) s fun t =>
      let w := advanceTo (l.lastTx + cycNs (slAckInt s n.val)) s0
      w.clk.cyc = max s.clk.cyc (l.lastTx + cycNs (slAckInt s n.val)) ∧ ackc w t) ∧
    (¬ready → Completes (.ackcSend n) s (fun t => t = s0) ∧ Completes (.creditRefresh n) s fun t => t = s0) ∧
    (ready → (∃ k ∈ bufKeys, creditDue l k = true) → exec (.creditRefresh n) s = exec (.containerSend n) s) ∧
    (ready → (∀ c ∈ l.replay, c.resend = false) → l.replay.length < 1024 → none' → l.link = .hello → l.msgs = [] →
      Completes (.creditRefresh n) s fun t =>
        let body := (bufKeys.zipIdx.map fun e => (itemBits (.credit (e.1 / 3) (e.1 % 3) (spGet 0 l.freedOut e.1))).1 * 2 ^ (20 * e.2)).sum
        t.clk.cyc = max s.clk.cyc (l.credAt + cycUs 4) ∧ t.out.head? = some (.container n (rawContainer l false 1 l.next.toNat body)) ∧
        t.strands[n].lnk.credDue = [] ∧ t.strands[n].lnk.credAt = t.clk.cyc ∧ t.strands[n].lnk.next = l.next + 1 ∧
        (spWf 0 l.freedSent = true → ∀ k ∈ bufKeys, spGet 0 t.strands[n].lnk.freedSent k = spGet 0 l.freedOut k)) ∧
    (l.replay = [] → Completes (.replayTimeout n) s fun t => t = s0) ∧
    (∀ c r, l.replay = c :: r →
      let w := advanceTo (c.sentAt + cycUs (slReplayTo s n.val)) s0
      ((∀ d ∈ l.replay, d.resend = true ∨ d.replays < 8) → Completes (.replayTimeout n) s fun t =>
        w.clk.cyc = max s.clk.cyc (c.sentAt + cycUs (slReplayTo s n.val)) ∧
        t = only { l with replay := l.replay.map fun d => { d with resend := true } } { w with
          cnt := (countN (scOff n.val 1) (3 * (l.replay.filter fun d => !d.resend).length) w).cnt }) ∧
      (StoresWf s → (∃ d ∈ l.replay, d.resend = false ∧ 8 ≤ d.replays) → l.link = .hello ∨ l.link = .up → Completes (.replayTimeout n) s fun t =>
        t.strands[n].lnk.link = .down ∧ t.strands[n].lnk.downWhy = 2 ∧ t.strands[n].lnk.fo = true ∧
        (regGet t (slPage n.val 0 + 0x810)).toNat.testBit srcReplay.val = true)) ∧
    (0 < slWinUs s n.val → s.clk.cyc ≤ l.winAt + cycUs (slWinUs s n.val) → Completes (.crcWindowEnd n) s fun t =>
      t.clk.cyc = l.winAt + cycUs (slWinUs s n.val) ∧
      t = only { l with winAt := t.clk.cyc, winCnt := 0, crcCnt := 0, firstWin := false } { s0 with clk := t.clk, cnt := lateCounted s t.clk })

/-- R325, R327, R329 to R332, R337: what a strand does with a container that arrives whole. Its ACK, NAK and CREDIT items are processed; a
SEQC that is the next is accepted and its items delivered, one ahead is NAKed, one behind is a duplicate; a CRC error that reaches the
threshold takes the strand down. -/
def Obligations.ContainerReceives : Prop :=
  ∀ (s : State) (n : Fin 10) (c : RawContainer),
    let x := s.strands[n].phy
    let l := s.strands[n].lnk
    let v := c.toNat
    let rx := fun (bad : Bool) => Instr.containerReceive n (.whole c) bad
    let items := parseItems 36 0 (nbits 735 32 v)
    let ahead := (nbits 27 16 v + 4096 - l.exp.toNat) % 4096
    let only := fun (k : LinkSt) (o : List Out) (u t : State) =>
      t = { s with out := o, cnt := u.cnt, strands := s.strands.set n { s.strands[n] with lnk := { k with winCnt := l.winCnt + 1 } } }
    let takes := x.stage = .active ∧ x.wantPwr = none ∧ x.wantWidth = none ∧ (l.link = .hello ∨ l.link = .up) ∧
      s.clk.cyc < l.winAt + cycUs (slWinUs s n.val) ∧ l.winCnt + 1 < 2 ^ slWinExp s n.val ∧
      ∀ i ∈ s.flt.injs, ¬(i.kind = 1 ∧ i.dom = some (.strand n))
    let good := takes ∧ crcGood c = true
    let noAck := ∀ d ∈ l.replay, d.seq ≠ BitVec.ofNat 12 (nbits 15 4 v)
    let plain := good ∧ noAck ∧ v.testBit 0 = false
    let seqc := nbits 31 28 v = 1
    let next := { l with exp := l.exp + 1, nakAt := none }
    let bare := fun (i : Item) => match i with | .credit _ _ _ => false | _ => true
    (∀ bad, x.stage ≠ .active ∨ l.link = .inactive ∨ l.link = .down → Completes (rx bad) s fun t => t = { s with out := [] }) ∧
    (plain → items = some [] → ¬seqc → Completes (rx false) s (only l [] s)) ∧
    (plain → items = some [] → seqc → ahead = 0 → Completes (rx false) s (only next [] (countStrand n 10 s))) ∧
    (∀ (f : Flit) (w : Nat), items = some [.pkt f false w] → plain → seqc → ahead = 0 → Completes (rx false) s
      (let k := netNum f.net * 3 + (if f.vc = vcTE then 2 else 1)
       only { next with rx := spSet [] l.rx k (spGet [] l.rx k ++ [{ flit := f, arrived := s.clk.cyc }]) } []
        (countStrand n (26 + 2 * netNum f.net) (countStrand n 10 s)))) ∧
    (∀ m : Msg, items = some [.msg m] → plain → seqc → ahead = 0 → msgMode m = 0 → Completes (rx false) s fun t =>
      t.pool = { s.pool with inbox := s.pool.inbox ++ [(n.val, m)] } ∧ only next [] (countStrand n 10 s) { t with pool := s.pool }) ∧
    (∀ is, items = some is → plain → is.all bare = true → seqc → 0 < ahead → ahead ≤ 2047 → x.pwr = .active → x.deepAt = none →
      (∀ k ∈ bufKeys, creditDue l k = false) → l.nakAt = none → Completes (rx false) s fun t =>
        let y := t.strands[n].phy
        t.out.head? = some (.container n (rawContainer l true 2 0 0)) ∧ y = { x with lastCal := s.clk.cyc, tx := y.tx, strm := y.strm } ∧
        t.strands[n].lnk = { l with winCnt := l.winCnt + 1, lastTx := s.clk.cyc, nakAt := some s.clk.cyc }) ∧
    (∀ is, items = some is → plain → is.all bare = true → seqc → 2047 < ahead →
      Completes (rx false) s (only l [] (countStrand n 12 s))) ∧
    (∀ i, l.replay.findIdx? (fun d => d.seq = BitVec.ofNat 12 (nbits 15 4 v)) = some i → good → items = some [] → ¬seqc → v.testBit 0 = false →
      Completes (rx false) s
        (only { l with replay := l.replay.drop (i + 1), acked := BitVec.ofNat 12 (nbits 15 4 v) } []
          (countN (scOff n.val 0) (3 * ((l.replay.take (i + 1)).filter fun d => !d.resend).length) s))) ∧
    (∀ net buf freed, items = some [.credit net buf freed] → plain → ¬seqc → buf < 3 → net * 3 + buf ≠ 6 →
      let k := net * 3 + buf
      (freed + 256 - spGet 0 l.freedIn k) % 256 ≤ (spGet 0 l.sent k + 256 - spGet 0 l.freedIn k) % 256 →
      Completes (rx false) s (only { l with freedIn := spSet 0 l.freedIn k freed } [] s)) ∧
    (good → noAck → items = some [] → ¬seqc → v.testBit 0 = true → (∀ d ∈ l.replay, d.resend = true ∨ d.replays < 8) →
      Completes (rx false) s
        (only { l with replay := l.replay.map fun d => { d with resend := true } } []
          (countN (scOff n.val 1) (3 * (l.replay.filter fun d => !d.resend).length) (countStrand n 9 s)))) ∧
    (∀ bad, takes → bad = true ∨ crcGood c = false ∨ items = none →
      (if l.firstWin = true then slFirstThr s n.val else slCrcThr s n.val) ≤ l.crcCnt + 1 → s.flt.strands[n].st = .inn →
      Completes (rx bad) s fun t => t.strands[n].lnk.link = .down ∧ t.strands[n].lnk.downWhy = 1)

/-- R336, R339, R346: the session of a strand. A HELLO that is due goes out; a HELLO of the partner brings the session UP and is kept; 100 us
without one, the session goes DOWN; when failover has re-sent every packet the session is INACTIVE, and starts again where the lanes are ACTIVE. -/
def Obligations.Sessions : Prop :=
  ∀ (s : State) (n : Fin 10),
    let x := s.strands[n].phy
    let l := s.strands[n].lnk
    let only := fun (k : LinkSt) (o : List Out) => { s with out := o, strands := s.strands.set n { s.strands[n] with lnk := k } }
    let due := fun (e : Nat × Msg) => decide (msgType e.2 = 1) && decide (e.1 = n.val)
    let rest := { s with out := [], pool := { s.pool with inbox := s.pool.inbox.eraseP due } }
    (l.link = .hello ∨ l.link = .up → Completes (.helloSend n) s fun t =>
      t = { only { l with helloAt := t.clk.cyc + cycUs 64, msgs := l.msgs ++ [helloMsg s n.val] } [] with clk := t.clk, cnt := lateCounted s t.clk } ∧
      t.clk.cyc = max s.clk.cyc l.helloAt) ∧
    (l.link = .inactive ∨ l.link = .down → Completes (.helloSend n) s fun t => t = { s with out := [] }) ∧
    (s.pool.inbox.find? due = none → Completes (.helloReceive n) s fun t => t = { s with out := [] }) ∧
    (∀ e, s.pool.inbox.find? due = some e →
      let h := parseHello e.2
      (l.link = .inactive ∨ l.link = .down ∨ (l.link = .hello ∧ (h.serial ≠ l.tcbSerial ∨ nbits 7 4 h.cap.toNat ≠ 0)) →
        Completes (.helloReceive n) s fun t => t = rest) ∧
      (l.link = .up ∨ (l.link = .hello ∧ h.serial = l.tcbSerial ∧ nbits 7 4 h.cap.toNat = 0) → Completes (.helloReceive n) s fun t =>
        t.strands[n].lnk.link = .up ∧ t.strands[n].lnk.hello = some h ∧ t.clk.cyc = s.clk.cyc ∧ t.regs = s.regs ∧ t.ms = s.ms ∧
        ∀ k : Fin 10, t.strands[k].phy = s.strands[k].phy)) ∧
    (l.link = .hello → Completes (.helloTimeout n) s fun t => t.clk.cyc = max s.clk.cyc (l.startAt + cycUs 100) ∧
      t.strands[n].lnk.link = .down ∧ t.strands[n].lnk.downWhy = 6 ∧ t.strands[n].lnk.fo = true ∧
      (StoresWf s → (regGet t (slPage n.val 0 + 0x810)).toNat.testBit 10 = true) ∧
      t.strands[n].phy.stage = if s.flt.strands[n].st = .inn ∧ t.flt.strands[n].st ≠ .inn then .disabled else .bitlock) ∧
    (l.link ≠ .hello → Completes (.helloTimeout n) s fun t => t = { s with out := [] }) ∧
    (let empty := ∀ k : Net, spGet [] s.ports[strandP n].injq (reKey k) = []
     (l.link ≠ .down ∨ ¬empty → Completes (.failoverDone n) s fun t => t = { s with out := [] }) ∧
     (l.link = .down → empty → x.stage ≠ .active → Completes (.failoverDone n) s fun t => t = only { l with link := .inactive, fo := false } []) ∧
     (l.link = .down → empty → x.stage = .active → Completes (.failoverDone n) s fun t =>
       let k := t.strands[n].lnk
       k.link = .hello ∧ k.fo = false ∧ k.next = 0 ∧ k.exp = 0 ∧ k.acked = 0xFFF ∧ k.replay = [] ∧ k.sent = [] ∧ k.freedIn = [] ∧ k.freedOut = [] ∧
       k.startAt = s.clk.cyc ∧ k.helloAt = s.clk.cyc + cycUs 64 ∧ k.msgs = [helloMsg t n.val]))

/-- R332, R340 to R342: the sequencer. A packet of a strand goes on, is a REPEAT, waits, or is held; what NEXT reaches is released, after the
handover's 2 us where it waited for that; a missing value is skipped after 200 us; E2ACK and SSYNC tell the ends of the streams of each other. -/
def Obligations.Sequencer : Prop :=
  ∀ (s : State),
    let w := s.seqr
    let canon := spWf 0 w.next = true ∧ spWf ([] : List Nat) w.map = true ∧ spWf 0 w.gapAt = true ∧ spWf 0 w.lastOn = true ∧ spWf 0 w.lastAt = true ∧
      spWf 0 w.acked = true ∧ spWf 0 w.e2acked = true ∧ spWf 0 w.peer = true ∧ spWf 0 w.state = true ∧ ∀ m : Fin 10, spWf [] s.strands[m].lnk.rx = true
    let rx := fun (t : State) (m : Fin 10) (k : Nat) => spGet [] t.strands[m].lnk.rx k
    let later := fun (t : State) => { s with out := [], clk := t.clk, cnt := lateCounted s t.clk }
    let released := fun (key : Nat) (m : Fin 10) (k i : Nat) (at' : Nat) (t : State) => t.clk.cyc = at' ∧
      spGet 0 t.seqr.next key = (spGet 0 w.next key + 1) % 2 ^ 16 ∧ spGet [] t.seqr.map key = [] ∧ spGet 0 t.seqr.lastOn key = m.val + 1 ∧
      spGet 0 t.seqr.lastAt key = at' ∧ rx t m k = (rx s m k).eraseIdx i
    (∀ (n : Fin 10) (net : Net) (buf : Fin 3),
      let l := s.strands[n].lnk
      let k := netNum net * 3 + buf.val
      let q := rx s n k
      let only := fun (y : LinkSt) (u t : State) =>
        { s with out := [], clk := t.clk, cnt := u.cnt, seqr := t.seqr, strands := s.strands.set n { s.strands[n] with lnk := y } }
      ((∀ r ∈ q, r.held = true) ∨ portEn s.ports[strandP n] = false → Completes (.sequencerArrival n net buf) s fun t => t = { s with out := [] }) ∧
      (∀ (i : Nat) (r : RxFlit), q.findIdx? (fun r => !r.held) = some i → q[i]? = some r → portEn s.ports[strandP n] = true →
        let f := r.flit
        let key := flitStream f
        let e := f.e2seq.toNat
        let d := (e + 2 ^ 16 - spGet 0 w.next key) % 2 ^ 16
        let mapped := spGet [] w.map key
        let at' := max s.clk.cyc r.arrived
        let mine := f.dstdev = ownDev s ∧ spGet 0 w.peer f.srcdev.toNat = 1
        let taken := { l with
          rx := spSet [] l.rx k (q.eraseIdx i)
          freedOut := if r.old = true then l.freedOut else spSet 0 l.freedOut k ((spGet 0 l.freedOut k + 1) % 256) }
        (f.dstdev ≠ ownDev s → rxCan n f s = false → Completes (.sequencerArrival n net buf) s fun t => t.clk.cyc = at' ∧ t = later t) ∧
        (f.dstdev ≠ ownDev s → canon → rxCan n f s = true → Completes (.sequencerArrival n net buf) s fun t => t.clk.cyc = at' ∧ rx t n k = q.eraseIdx i ∧
          spGet 0 t.seqr.next key = spGet 0 w.next key) ∧
        (f.dstdev = ownDev s → spGet 0 w.peer f.srcdev.toNat ≠ 1 → Completes (.sequencerArrival n net buf) s fun t => t.clk.cyc = at' ∧
          t = { only taken (later t) t with seqr := w }) ∧
        (mine → 32768 ≤ d ∨ (d < 4096 ∧ e ∈ mapped) → Completes (.sequencerArrival n net buf) s fun t => t.clk.cyc = at' ∧
          t = { only taken (countStrand n 18 (later t)) t with seqr := w }) ∧
        (mine → 4096 ≤ d → d < 32768 → Completes (.sequencerArrival n net buf) s fun t => t.clk.cyc = at' ∧ t = later t) ∧
        (mine → 0 < d → d < 4096 → e ∉ mapped → f.cls ≠ .gt → Completes (.sequencerArrival n net buf) s fun t => t.clk.cyc = at' ∧
          t = only { l with rx := spSet [] l.rx k (q.modify i fun r => { r with held := true }) } (countStrand n 19 (later t)) t ∧
          t.seqr = { w with map := spSet [] w.map key (e :: mapped), gapAt := t.seqr.gapAt } ∧
          (spGet 0 w.next key ∉ mapped → k ≠ 6 →
            spGet 0 t.seqr.gapAt key = if spGet 0 w.gapAt key = 0 then at' + 1 else spGet 0 w.gapAt key)) ∧
        (mine → d < 4096 → e ∉ mapped → f.cls = .gt →
          (rxCan n f s = false → Completes (.sequencerArrival n net buf) s fun t => t.clk.cyc = at' ∧ t = later t) ∧
          (rxCan n f s = true → canon → heldAt s key = [] → Completes (.sequencerArrival n net buf) s fun t => t.clk.cyc = at' ∧
            rx t n k = q.eraseIdx i ∧ spGet 0 t.seqr.lastOn key = n.val + 1 ∧ spGet 0 t.seqr.lastAt key = at')) ∧
        (mine → canon → rxCan n f s = true → e = spGet 0 w.next key → mapped = [] → heldAt s key = [] → f.cls ≠ .gt → k ≠ 6 →
          spGet 0 w.lastOn key = 0 ∨ spGet 0 w.lastOn key = n.val + 1 ∨ spGet 0 w.lastAt key + cycUs 2 ≤ at' →
          Completes (.sequencerArrival n net buf) s (released key n k i at')))) ∧
    (∀ (dev : Fin 32) (stream : Fin 3),
      let key := 3 * dev.val + stream.val
      let v := spGet 0 w.next key
      (heldAt s key = [] → Completes (.seqHandoverRelease dev stream) s (fun t => t = { s with out := [] }) ∧
        Completes (.seqGapSkip dev stream) s (fun t => t = { s with out := [] })) ∧
      (∀ m k i r, heldAt s key = [(m, k, i, r)] → canon → r.flit.e2seq.toNat = v → spGet [] w.map key = [v] → rxCan m r.flit s = true →
        Completes (.seqHandoverRelease dev stream) s (released key m k i (max s.clk.cyc (spGet 0 w.lastAt key + cycUs 2)))) ∧
      (∀ m a, firstHeld s key = some m → spGet 0 w.gapAt key = a + 1 → canon → (v + 1) % 2 ^ 16 ∉ spGet [] w.map key →
        Completes (.seqGapSkip dev stream) s fun t => t.clk.cyc = max s.clk.cyc (a + cycUs 200) ∧
          t = { s with out := [], clk := t.clk, cnt := (countStrand m 20 (later t)).cnt, seqr := t.seqr } ∧
          spGet 0 t.seqr.next key = (v + 1) % 2 ^ 16 ∧ spGet 0 t.seqr.gapAt key = t.clk.cyc + 1)) ∧
    (∀ dev : Fin 32,
      let d := dev.val
      let now := fun (k : Nat) => spGet 0 w.next (streamKey d k)
      let carried := fun (m : Msg) => match trExit s s.epoch.active d with | some n => sendOn n m s | none => s
      ((∀ k < 3, now k = spGet 0 w.e2acked (streamKey d k)) → Completes (.e2ackSend dev) s fun t => t = { s with out := [] }) ∧
      (canon → (∃ k < 3, now k ≠ spGet 0 w.e2acked (streamKey d k)) → Completes (.e2ackSend dev) s fun t =>
        t = { s with out := [], strands := (carried (mkMsg s 7 3 d 0xFFFFFFFF 0 (streamBody now))).strands, seqr := { w with e2acked := t.seqr.e2acked } } ∧
        ∀ k < 3, spGet 0 t.seqr.e2acked (streamKey d k) = now k)) ∧
    (∀ ty ∈ [7, 8, 9], ∀ e,
      let due := fun (x : Nat × Msg) => decide (msgType x.2 = ty)
      s.pool.inbox.find? due = some e → canon →
      let d := msgSrc e.2
      let v := msgStream e.2
      let rest := { s with out := [], pool := { s.pool with inbox := s.pool.inbox.eraseP due } }
      (ty = 7 → Completes .e2ackReceive s fun t => t = { rest with seqr := { w with acked := t.seqr.acked } } ∧
        ∀ k < 3, let a := spGet 0 w.acked (streamKey d k)
          spGet 0 t.seqr.acked (streamKey d k) = if (v k + 2 ^ 16 - a) % 2 ^ 16 < 32768 then v k else a) ∧
      (ty = 8 → Completes .ssyncReceive s fun t => spGet 0 t.seqr.peer d = 1 ∧ t.pool = rest.pool ∧
        (∀ k < 3, spGet 0 t.seqr.next (streamKey d k) = v k ∧ spGet 0 t.seqr.e2acked (streamKey d k) = v k ∧
          spGet [] t.seqr.map (streamKey d k) = [] ∧ spGet 0 t.seqr.gapAt (streamKey d k) = 0) ∧
        (∀ (m : Fin 10) (k : Nat), rx t m k = (rx s m k).map fun r => if r.flit.srcdev.toNat = d then { r with held := false } else r) ∧
        ∀ n : Fin 10, trExit s s.epoch.active d = some n.val →
          t.strands[n].lnk.msgs = s.strands[n].lnk.msgs ++ [mkMsg rest 9 3 d 0xFFFFFFFF 0 (streamBody v)]) ∧
      (ty = 9 → spGet 0 w.state d ≠ 1 → Completes .ssyncAckReceive s fun t => t = rest) ∧
      (ty = 9 → spGet 0 w.state d = 1 → Completes .ssyncAckReceive s fun t => spGet 0 t.seqr.state d = 2 ∧
        t = { rest with seqr := { w with acked := t.seqr.acked, state := t.seqr.state } } ∧ ∀ k < 3, spGet 0 t.seqr.acked (streamKey d k) = v k))

/-! ### Pool agent -/

/-- R345 to R347, R385, R386: what the pool agent does at a TOPO, an ENUM and an ENUM_ACK, and when the root has settled. The root keeps what each
device reports and, once settled, gives itself and the others their IDs; a device takes the ID that its ENUM names, or drops its own, and answers;
in DRAIN no ID changes. -/
def Obligations.PoolMessages : Prop :=
  ∀ (s : State),
    let p := s.pool
    let due := fun (ty : Nat) (x : Nat × Msg) => decide (msgType x.2 = ty)
    let rest := fun (ty : Nat) => { s with out := [], pool := { p with inbox := p.inbox.eraseP (due ty) } }
    let first := fun (ty : Nat) => (p.inbox.find? (due ty)).map (·.2)
    let unchanged := fun (i : Instr) => Completes i s fun t => t = { s with out := [] }
    let isRoot := discEn s = true ∧ p.root = true ∧ ∃ pin, bestRoot s = some (pin, s.ident.serial.toNat)
    let acts := fun (t : State) => t.pool.root = true ∧ t.pool.disc = .enumer ∧ t.pool.idv = true ∧ t.pool.devId = (presentId s).getD 0 ∧
      t.pool.rootId = (presentId s).getD 0 ∧ t.ms = s.ms ∧ t.regs = s.regs
    (p.inbox.find? (due 4) = none → unchanged .topoReceive) ∧
    (p.inbox.find? (due 2) = none → unchanged .enumReceive) ∧
    (p.inbox.find? (due 3) = none → unchanged .enumAckReceive) ∧
    (p.root = false ∨ p.disc ≠ .elect → unchanged .rootSettle) ∧
    (isRoot → p.disc = .elect → s.ms.mode ≠ .drain → Completes .rootSettle s fun t => t.clk.cyc = max s.clk.cyc p.settleAt ∧ acts t) ∧
    (∀ m, first 4 = some m →
      let serial := BitVec.ofNat 64 (msgFld m 119 56)
      let old := (p.topo.find? fun t => decide (t.serial = serial)).getD { serial := serial }
      let links := (List.range 10).filterMap fun k =>
        if msgFld m (130 + 6 * k) (130 + 6 * k) = 1 then some (k, msgFld m (135 + 6 * k) (131 + 6 * k)) else none
      let new : Topo := { old with
        idv := msgFld m 129 129 = 1, devId := BitVec.ofNat 5 (msgFld m 128 124), path := pathOfWord (msgPath m)
        links := if msgFld m 123 120 = 1 then links else old.links }
      (discEn s = false ∨ p.root = false → Completes .topoReceive s fun t => t = rest 4) ∧
      (discEn s = true → p.root = true → p.disc = .elect → Completes .topoReceive s fun t =>
        t = { rest 4 with pool := { (rest 4).pool with topo := (p.topo.filter fun t => decide (t.serial ≠ serial)) ++ [new] } }) ∧
      (isRoot → p.disc ≠ .elect → s.ms.mode ≠ .drain → Completes .topoReceive s fun t => t.clk.cyc = s.clk.cyc ∧ acts t)) ∧
    (∀ m, first 2 = some m →
      let forUs := discEn s = true ∧ p.disc ≠ .tooDeep ∧ BitVec.ofNat 64 (msgFld m 119 56) = s.ident.serial
      let leaf := s.ms.mode ≠ .drain ∧ p.root = false ∧ ∀ pin, bestRoot s ≠ some (pin, s.ident.serial.toNat)
      (¬forUs → Completes .enumReceive s fun t => t = rest 2) ∧
      (forUs → s.ms.mode = .drain → Completes .enumReceive s fun t =>
        t.pool = { (rest 2).pool with rootId := BitVec.ofNat 5 (msgSrc m) } ∧ t.regs = s.regs ∧ t.seqr = s.seqr ∧
        ∀ n, p.parent = some n → t.strands = s.strands.set n { s.strands[n] with
          lnk := { s.strands[n].lnk with msgs := s.strands[n].lnk.msgs ++
            [mkMsg s 3 1 0 0xFFFFFFFF 0 (at' s.ident.serial.toNat 56 + at' p.devId.toNat 120)] } }) ∧
      (forUs → leaf → msgFld m 125 125 = 1 → Completes .enumReceive s fun t => t.pool.idv = false ∧ t.regs = s.regs ∧ t.clk.cyc = s.clk.cyc) ∧
      (forUs → leaf → msgFld m 125 125 = 0 → Completes .enumReceive s fun t =>
        t.pool.idv = true ∧ t.pool.devId = BitVec.ofNat 5 (msgFld m 124 120) ∧ t.regs = s.regs ∧ t.clk.cyc = s.clk.cyc)) ∧
    (∀ m, first 3 = some m → Completes .enumAckReceive s fun t =>
      t = { rest 3 with pool := { (rest 3).pool with topo := p.topo.map (fun x => if x.serial = BitVec.ofNat 64 (msgFld m 119 56) then { x with acked := true } else x) } })

/-- R346 to R348, R352, R386: the routes that the root pushes. A ROUTE writes its eight entries into the inactive bank, where the banks may be
written and pushes are taken; the ACTIVATE of that version prepares the other inactive banks; the check refuses the push, or the switch to it is
submitted. -/
def Obligations.PoolPushes : Prop :=
  ∀ (s : State),
    let p := s.pool
    let due := fun (ty : Nat) (x : Nat × Msg) => decide (msgType x.2 = ty)
    let rest := fun (ty : Nat) => { s with out := [], pool := { p with inbox := p.inbox.eraseP (due ty) } }
    let takes := takesPush s = true
    (takes → routeLocked s = true → Completes .routeReceive s (fun t => t = { s with out := [] }) ∧ Completes .activateReceive s (fun t => t = { s with out := [] })) ∧
    (∀ n m, p.inbox.find? (due 5) = some (n, m) →
      (¬takes → Completes .routeReceive s fun t => t = rest 5) ∧
      (takes → routeLocked s = false → StoresWf s → s.epoch.wroteDr = false → Completes .routeReceive s fun t =>
        let first := msgFld m 68 64
        t = { rest 5 with tbls := t.tbls, pool := { (rest 5).pool with pushVer := BitVec.ofNat 8 (msgFld m 63 56) } } ∧
        (∀ i, i < 8 → first + i < 32 →
          tblGet t (drKey (!s.epoch.active) (first + i)) = word (routeWord (msgFld m (87 + 19 * i) (69 + 19 * i)))) ∧
        ∀ k, (∀ i, i < 8 → first + i < 32 → k ≠ drKey (!s.epoch.active) (first + i)) → tblGet t k = tblGet s k)) ∧
    (∀ n m, p.inbox.find? (due 6) = some (n, m) →
      (¬takes → Completes .activateReceive s fun t => t = rest 6) ∧
      (takes → routeLocked s = false → beadLocked s = false → BitVec.ofNat 8 (msgFld m 63 56) ≠ p.pushVer → Completes .activateReceive s fun t => t = rest 6) ∧
      (takes → routeLocked s = false → beadLocked s = false → BitVec.ofNat 8 (msgFld m 63 56) = p.pushVer → Completes .activateReceive s fun t =>
        t.pool = { (rest 6).pool with pushTime := some (msgFld m 127 64) } ∧ t.regs = s.regs ∧ t.strands = s.strands ∧
        t.epoch.plannedOther = s.epoch.planned ∧ t.epoch.beadPlannedOther = s.epoch.beadPlanned ∧ t.epoch.active = s.epoch.active)) ∧
    (p.pushTime = none ∨ ¬takes ∨ routeLocked s = true ∨ beadLocked s = true → Completes .pushCheckDone s fun t => t = { s with out := [] }) ∧
    (∀ at' f, p.pushTime = some at' → checkConfig (begin s) = some f → takes → routeLocked s = false → beadLocked s = false → StoresWf s →
      Completes .pushCheckDone s fun t =>
        t = { s with out := [], pool := { p with pushTime := none }, regs := t.regs } ∧ (regGet t 0x6800).toNat.testBit 41 = true ∧
        ∀ k, k ≠ 0x6800 → regGet t k = regGet s k) ∧
    (∀ at', p.pushTime = some at' → takes → routeLocked s = false → beadLocked s = false → checkConfig (begin s) = none →
      Completes .pushCheckDone s fun t =>
        let z := fillBoth { s with out := [] }
        let r := submitSwitch .push (if at' < ftimeNs s + 2000 then none else some at') z
        t = { r.2 with pending := s.pending, pool := { r.2.pool with pushTime := if r.1 = 1 then none else r.2.pool.pushTime } })
end

