-- ==== Sys2Proof/Laws/Keep.lean ====
section
/-! SUPPORT. What every operation of the machine keeps, in three strengths. Calm: only ports, strands, sequencer, lockets, counters,
registers and the clock move. Quiet: no mode, keepsake, pin, table, CHANGES or view moves. Steady: what every step keeps. -/

namespace Sys2Proof.Machine

/-! ### A property carried through control flow -/

theorem keep_cond {P : State → Prop} {c : Prop} {h : Decidable c} {a b : State} (ha : c → P a) (hb : ¬c → P b) :
    P (ite c a b) := by split <;> simp_all
theorem keep_cond2 {P : State → Prop} {α : Type} {c : Prop} {h : Decidable c} {a b : α × State} (ha : c → P a.2)
    (hb : ¬c → P b.2) : P (ite c a b).2 := by split <;> simp_all
theorem keep_cond3 {P : State → Prop} {α β : Type} {c : Prop} {h : Decidable c} {a b : α × β × State} (ha : c → P a.2.2)
    (hb : ¬c → P b.2.2) : P (ite c a b).2.2 := by split <;> simp_all
theorem keep_dcond {P : State → Prop} {c : Prop} {h : Decidable c} {a : c → State} {b : ¬c → State} (ha : ∀ x, P (a x))
    (hb : ∀ x, P (b x)) : P (dite c a b) := by split <;> simp_all
theorem keep_dcond2 {P : State → Prop} {α : Type} {c : Prop} {h : Decidable c} {a : c → α × State} {b : ¬c → α × State}
    (ha : ∀ x, P (a x).2) (hb : ∀ x, P (b x).2) : P (dite c a b).2 := by split <;> simp_all
theorem keep_pair {P : State → Prop} {α : Type} {p : α × State} {k : α → State → State} (h : P p.2)
    (hk : ∀ a s, P s → P (k a s)) : P (match (generalizing := false) p with | (a, s) => k a s) := hk _ _ h
theorem keep_pair2 {P : State → Prop} {α β : Type} {p : α × State} {k : α → State → β × State} (h : P p.2)
    (hk : ∀ a s, P s → P (k a s).2) : P (match (generalizing := false) p with | (a, s) => k a s).2 := hk _ _ h
theorem keep_pair3 {P : State → Prop} {α γ : Type} {p : α × γ × State} {k : α → γ → State → State} (h : P p.2.2)
    (hk : ∀ a c s, P s → P (k a c s)) : P (match (generalizing := false) p with | (a, c, s) => k a c s) := hk _ _ _ h
theorem keep_pair33 {P : State → Prop} {α γ β δ : Type} {p : α × γ × State} {k : α → γ → State → β × δ × State} (h : P p.2.2)
    (hk : ∀ a c s, P s → P (k a c s).2.2) : P (match (generalizing := false) p with | (a, c, s) => k a c s).2.2 := hk _ _ _ h
theorem keep_pair32 {P : State → Prop} {α γ β : Type} {p : α × γ × State} {k : α → γ → State → β × State} (h : P p.2.2)
    (hk : ∀ a c s, P s → P (k a c s).2) : P (match (generalizing := false) p with | (a, c, s) => k a c s).2 := hk _ _ _ h
theorem keep_pair23 {P : State → Prop} {α β δ : Type} {p : α × State} {k : α → State → β × δ × State} (h : P p.2)
    (hk : ∀ a s, P s → P (k a s).2.2) : P (match (generalizing := false) p with | (a, s) => k a s).2.2 := hk _ _ h
theorem keep_whenB {P : State → Prop} {c : Bool} {f : State → State} {s : State} (hf : ∀ s, P s → P (f s)) (h : P s) :
    P (whenB c f s) := by cases c <;> simp_all [whenB]
theorem keep_mk2 {P : State → Prop} {s : State} {α : Type} {a : α} (h : P s) : P (a, s).2 := h
theorem keep_mk3 {P : State → Prop} {s : State} {α β : Type} {a : α} {b : β} (h : P s) : P (a, b, s).2.2 := h

theorem keep_id {P : State → Prop} {s : State} (h : P s) : P (id s) := h
theorem keep_forEach {P : State → Prop} {α : Type} {l : List α} {f : α → State → State} {s : State}
    (hf : ∀ x s, P s → P (f x s)) (h : P s) : P (forEach l f s) := by
  unfold forEach
  induction l generalizing s with
  | nil => exact h
  | cons x r ih => exact ih (hf x s h)

theorem keep_foldl {P : State → Prop} {α : Type} {l : List α} {f : State → α → State} {s : State}
    (hf : ∀ s x, P s → P (f s x)) (h : P s) : P (l.foldl f s) := by
  induction l generalizing s with
  | nil => exact h
  | cons x r ih => exact ih (hf s x h)

theorem keep_foldlPair {P : State → Prop} {α β : Type} {l : List α} {f : β × State → α → β × State} {s : β × State}
    (hf : ∀ s x, P s.2 → P (f s x).2) (h : P s.2) : P (l.foldl f s).2 := by
  induction l generalizing s with
  | nil => exact h
  | cons x r ih => exact ih (hf s x h)


/-! ### Sparse maps in canonical form -/

theorem keyWf_mono {α : Type} [DecidableEq α] {d : Nat → α} {b c : Nat} {m : Sparse α} (h : keyWf d b m = true) (hc : c ≤ b) :
    keyWf d c m = true := by
  cases m with
  | nil => rfl
  | cons e r => simp only [keyWf, Bool.and_eq_true, decide_eq_true_eq] at *; exact ⟨⟨by omega, h.1.2⟩, h.2⟩

theorem keyWf_del {α : Type} [DecidableEq α] {d : Nat → α} {m : Sparse α} : ∀ {b k : Nat}, keyWf d b m = true → keyWf d b (spDel m k) = true := by
  induction m with
  | nil => intro b k h; rfl
  | cons e r ih =>
    intro b k h
    obtain ⟨j, v⟩ := e
    simp only [keyWf, Bool.and_eq_true, decide_eq_true_eq] at h
    simp only [spDel]
    split
    · exact keyWf_mono h.2 (by omega)
    · simp only [keyWf, Bool.and_eq_true, decide_eq_true_eq]; exact ⟨h.1, ih h.2⟩

theorem keyWf_ins {α : Type} [DecidableEq α] {d : Nat → α} {m : Sparse α} :
    ∀ {b k : Nat} {v : α}, v ≠ d k → b ≤ k → keyWf d b m = true → keyWf d b (spIns m k v) = true := by
  induction m with
  | nil => intro b k v hv hb h; simp only [spIns, keyWf, Bool.and_eq_true, decide_eq_true_eq]; exact ⟨⟨hb, hv⟩, trivial⟩
  | cons e r ih =>
    intro b k v hv hb h
    obtain ⟨j, w⟩ := e
    simp only [keyWf, Bool.and_eq_true, decide_eq_true_eq] at h
    simp only [spIns]
    split
    · simp only [keyWf, Bool.and_eq_true, decide_eq_true_eq]; exact ⟨⟨hb, hv⟩, ⟨by omega, h.1.2⟩, h.2⟩
    · split
      · next hj => subst hj; simp only [keyWf, Bool.and_eq_true, decide_eq_true_eq]; exact ⟨⟨hb, hv⟩, h.2⟩
      · simp only [keyWf, Bool.and_eq_true, decide_eq_true_eq]; exact ⟨h.1, ih hv (by omega) h.2⟩

theorem keyWf_set {α : Type} [DecidableEq α] {d : Nat → α} {m : Sparse α} {k : Nat} {v : α} (h : keyWf d 0 m = true) :
    keyWf d 0 (spSet (d k) m k v) = true := by
  unfold spSet; split
  · exact keyWf_del h
  · next hv => exact keyWf_ins hv (by omega) h

theorem spWfFrom_eq {α : Type} [DecidableEq α] {d : α} {m : Sparse α} : ∀ {b}, spWfFrom d b m = keyWf (fun _ => d) b m := by
  induction m with
  | nil => intro b; rfl
  | cons e r ih => intro b; obtain ⟨j, v⟩ := e; simp only [spWfFrom, keyWf, ih]

theorem spWf_set {α : Type} [DecidableEq α] {d : α} {m : Sparse α} {k : Nat} {v : α} (h : spWf d m = true) :
    spWf d (spSet d m k v) = true := by
  unfold spWf at *; rw [spWfFrom_eq] at *; exact keyWf_set (d := fun _ => d) h

theorem spDel_mem {α : Type} {e : Nat × α} {m : Sparse α} {k : Nat} (h : e ∈ spDel m k) : e ∈ m := by
  induction m with
  | nil => exact h
  | cons x r ih =>
    obtain ⟨j, v⟩ := x
    simp only [spDel] at h
    split at h
    · exact List.mem_cons_of_mem _ h
    · rcases List.mem_cons.mp h with h | h
      · exact h ▸ List.mem_cons_self
      · exact List.mem_cons_of_mem _ (ih h)

theorem spIns_mem {α : Type} {e : Nat × α} {m : Sparse α} {k : Nat} {v : α} (h : e ∈ spIns m k v) : e = (k, v) ∨ e ∈ m := by
  induction m with
  | nil => simp only [spIns, List.mem_singleton] at h; exact .inl h
  | cons x r ih =>
    obtain ⟨j, w⟩ := x
    simp only [spIns] at h
    split at h
    · simpa using h
    · split at h
      · rcases List.mem_cons.mp h with h | h
        · exact .inl h
        · exact .inr (List.mem_cons_of_mem _ h)
      · rcases List.mem_cons.mp h with h | h
        · exact .inr (h ▸ List.mem_cons_self)
        · rcases ih h with h | h
          · exact .inl h
          · exact .inr (List.mem_cons_of_mem _ h)

theorem spSet_mem {α : Type} [DecidableEq α] {d : α} {e : Nat × α} {m : Sparse α} {k : Nat} {v : α} (h : e ∈ spSet d m k v) :
    e = (k, v) ∨ e ∈ m := by
  unfold spSet at h; split at h
  · exact .inr (spDel_mem h)
  · exact spIns_mem h

theorem cntOk_set {m : Sparse Nat} {c v : Nat} (h : cntOk m = true) : cntOk (spSet 0 m c (v % 2 ^ 48)) = true := by
  simp only [cntOk, Bool.and_eq_true, List.all_eq_true, decide_eq_true_eq] at *
  refine ⟨spWf_set h.1, fun e he => ?_⟩
  rcases spSet_mem he with h' | h'
  · subst h'; exact Nat.mod_lt _ (by decide)
  · exact h.2 e h'

/-! ### The three relations -/

/-- Neither the cycle count nor the count of free values goes back, and registers and counters stay canonical. -/
structure Sound (s0 s : State) : Prop where
  cyc : s0.clk.cyc ≤ s.clk.cyc
  free : s0.freeCtr ≤ s.freeCtr
  regs : keyWf regReset 0 s0.regs = true → keyWf regReset 0 s.regs = true
  cnt : cntOk s0.cnt.val = true → cntOk s.cnt.val = true

/-- What a Quiet operation leaves as it was. -/
def quietPart (s : State) :=
  (s.ident, s.straps, pinsHeld s.pins, s.ms, s.ks, s.tbls, s.changes, s.views, s.halves, s.selHeld, s.withheld, s.epoch)
/-- What a Calm operation leaves as it was besides. -/
def calmPart (s : State) :=
  (s.time, s.hm, s.planner, s.rtr, s.tiles, s.pool, s.flt, s.samps, s.clasp, s.power)
/-- What Sound speaks of. -/
def soundPart (s : State) := (s.clk.cyc, s.freeCtr, s.regs, s.cnt.val)

structure Quiet (s0 s : State) : Prop where
  part : quietPart s = quietPart s0
  sound : Sound s0 s

structure Calm (s0 s : State) : Prop where
  more : calmPart s = calmPart s0
  quiet : Quiet s0 s

structure Steady (s0 s : State) : Prop where
  ident : s.ident = s0.ident
  cyc : s0.clk.cyc ≤ s.clk.cyc
  free : s0.freeCtr ≤ s.freeCtr
  stores : StoresWf s0 → StoresWf s

theorem Sound.refl (s : State) : Sound s s := ⟨Nat.le_refl _, Nat.le_refl _, id, id⟩
theorem Sound.trans {a b c : State} (h : Sound a b) (g : Sound b c) : Sound a c :=
  ⟨Nat.le_trans h.cyc g.cyc, Nat.le_trans h.free g.free, fun w => g.regs (h.regs w), fun w => g.cnt (h.cnt w)⟩
theorem Sound.of_eq {x t : State} (e : soundPart t = soundPart x) : Sound x t := by
  simp only [soundPart, Prod.mk.injEq] at e
  exact ⟨e.1 ▸ Nat.le_refl _, e.2.1 ▸ Nat.le_refl _, fun w => e.2.2.1 ▸ w, fun w => e.2.2.2 ▸ w⟩
theorem Quiet.refl (s : State) : Quiet s s := ⟨rfl, Sound.refl s⟩
theorem Quiet.upd {s0 x t : State} (h : Quiet s0 x) (e : (quietPart t, soundPart t) = (quietPart x, soundPart x)) : Quiet s0 t := by
  obtain ⟨e1, e2⟩ := Prod.mk.inj e
  exact ⟨Eq.trans e1 h.part, h.sound.trans (Sound.of_eq e2)⟩
theorem Calm.refl (s : State) : Calm s s := ⟨rfl, Quiet.refl s⟩
theorem Calm.upd {s0 x t : State} (h : Calm s0 x)
    (e : (calmPart t, quietPart t, soundPart t) = (calmPart x, quietPart x, soundPart x)) : Calm s0 t := by
  obtain ⟨e1, e2⟩ := Prod.mk.inj e
  exact ⟨Eq.trans e1 h.more, h.quiet.upd e2⟩
theorem Steady.refl (s : State) : Steady s s := ⟨rfl, Nat.le_refl _, Nat.le_refl _, id⟩
theorem Steady.upd {s0 x t : State} (h : Steady s0 x)
    (e : ((t.ident, t.freeCtr, t.tbls, t.ks.image, t.clk.cyc, t.regs, t.cnt.val)) =
      ((x.ident, x.freeCtr, x.tbls, x.ks.image, x.clk.cyc, x.regs, x.cnt.val))) : Steady s0 t := by
  simp only [Prod.mk.injEq] at e
  obtain ⟨e1, e2, e3, e4, e5, e6, e7⟩ := e
  exact ⟨e1.trans h.ident, e5 ▸ h.cyc, e2 ▸ h.free, fun w => by
    have := h.stores w
    simp only [StoresWf, e3, e4, e6, e7] at *; exact this⟩

/-- A Calm operation keeps what a Quiet one does. -/
theorem Calm.toQuiet {s0 s t : State} (h : Calm s t) (g : Quiet s0 s) : Quiet s0 t :=
  ⟨h.quiet.part.trans g.part, g.sound.trans h.quiet.sound⟩
/-- A Quiet operation keeps what every step keeps. -/
theorem Quiet.toSteady {s0 s t : State} (h : Quiet s t) (g : Steady s0 s) : Steady s0 t := by
  have e := h.part
  simp only [quietPart, Prod.mk.injEq] at e
  obtain ⟨e1, _, _, _, e5, e6, _⟩ := e
  refine ⟨e1.trans g.ident, Nat.le_trans g.cyc h.sound.cyc, Nat.le_trans g.free h.sound.free, fun w => ?_⟩
  have ⟨w1, w2⟩ := g.stores w
  simp only [storesOk, Bool.and_eq_true] at w1
  refine ⟨?_, e5 ▸ w2⟩
  simp only [storesOk, Bool.and_eq_true]
  exact ⟨⟨h.sound.regs w1.1.1, e6 ▸ w1.1.2⟩, h.sound.cnt w1.2⟩
theorem Calm.toSteady {s0 s t : State} (h : Calm s t) (g : Steady s0 s) : Steady s0 t := h.quiet.toSteady g

/-! ### The operations they rest on -/

theorem regSet_calm {s0 : State} {a1 a2 a3} (g3 : Calm s0 a3) : Calm s0 (regSet a1 a2 a3) :=
  ⟨g3.more, ⟨g3.quiet.part, g3.quiet.sound.trans ⟨Nat.le_refl _, Nat.le_refl _, fun w => keyWf_set w, id⟩⟩⟩
theorem cntSet_calm {s0 : State} {a1 a2 a3} (g3 : Calm s0 a3) : Calm s0 (cntSet a1 a2 a3) :=
  ⟨g3.more, ⟨g3.quiet.part, g3.quiet.sound.trans ⟨Nat.le_refl _, Nat.le_refl _, id, fun w => cntOk_set w⟩⟩⟩
theorem countN_calm {s0 : State} {a1 a2 a3} (g3 : Calm s0 a3) : Calm s0 (countN a1 a2 a3) := by
  unfold countN
  refine keep_cond (P := Calm s0) (fun _ => g3) (fun _ => ?_)
  extract_lets v s
  exact keep_cond (P := Calm s0) (fun _ => cntSet_calm g3) (fun _ => Calm.upd (cntSet_calm g3) rfl)
theorem countDue_calm {s0 : State} {a1} (g1 : Calm s0 a1) : Calm s0 (countDue a1) := by
  unfold countDue count
  exact keep_foldl (P := Calm s0) (fun _ _ h => countN_calm h) (Calm.upd g1 rfl)
theorem advance_calm {s0 : State} {a1 a2} (g2 : Calm s0 a2) : Calm s0 (advance a1 a2) :=
  countDue_calm ⟨g2.more, ⟨g2.quiet.part, g2.quiet.sound.trans ⟨Nat.le_add_right _ _, Nat.le_refl _, id, id⟩⟩⟩
theorem useFree_calm {s0 : State} {a1} (g1 : Calm s0 a1) : Calm s0 (useFree a1) :=
  ⟨g1.more, ⟨g1.quiet.part, g1.quiet.sound.trans ⟨Nat.le_refl _, Nat.le_succ _, id, id⟩⟩⟩
theorem tblSet_steady {s0 : State} {a1 a2 a3} (g3 : Steady s0 a3) : Steady s0 (tblSet a1 a2 a3) :=
  ⟨g3.ident, g3.cyc, g3.free, fun w => by
    have := g3.stores w
    simp only [StoresWf, storesOk, tblSet, Bool.and_eq_true] at *
    exact ⟨⟨⟨this.1.1.1, keyWf_set this.1.1.2⟩, this.1.2⟩, this.2⟩⟩

/-! ### What the resets and the keepsake keep of the registers -/
theorem keyWf_filterMap {m : Store} {f : Word → Nat → Option Word} (hf : ∀ v j w, f v j = some w → w ≠ regReset j) :
    ∀ {b}, keyWf regReset b m = true →
      keyWf regReset b (m.filterMap fun e => (f e.2 e.1).map fun w => (e.1, w)) = true := by
  induction m with
  | nil => intro b _; rfl
  | cons e r ih =>
    intro b h
    obtain ⟨j, v⟩ := e
    simp only [keyWf, Bool.and_eq_true, decide_eq_true_eq] at h
    simp only [List.filterMap_cons]
    cases hv : f v j with
    | none => exact keyWf_mono (ih h.2) (by omega)
    | some w => simp only [Option.map_some, keyWf, Bool.and_eq_true, decide_eq_true_eq]; exact ⟨⟨h.1.1, hf v j w hv⟩, ih h.2⟩

theorem regsSurvive_wf {k : Nat} {m : Store} (h : keyWf regReset 0 m = true) : keyWf regReset 0 (regsSurvive k m) = true := by
  have := keyWf_filterMap (m := m) (b := 0) (f := fun v j => match pageOf j with
    | some pg =>
      let w := word (surviveFields (fieldsAt pg (inPage pg j)) k v.toNat)
      if w = regReset j then none else some w
    | none => none) (by
      intro v j w hw
      split at hw
      · dsimp only at hw; split at hw
        · cases hw
        · cases hw; assumption
      · cases hw) h
  unfold regsSurvive
  refine (congrArg (fun g => keyWf regReset 0 (List.filterMap g m)) (funext fun e => ?_)).trans this
  cases pageOf e.1 with
  | none => rfl
  | some pg =>
    dsimp only
    split
    · rfl
    · rfl

theorem regsSurvive_ok {k : Nat} {r t : Store} {c : Sparse Nat} (h : storesOk r t c = true) : storesOk (regsSurvive k r) [] [] = true := by
  simp only [storesOk, Bool.and_eq_true] at *
  exact ⟨⟨regsSurvive_wf h.1.1, rfl⟩, rfl⟩

theorem saveImage_ok {s : State} (h : storesOk s.regs s.tbls s.cnt.val = true) :
    storesOk (saveImage s).regs (saveImage s).tbls (saveImage s).counters = true := by
  simp only [storesOk, Bool.and_eq_true, saveImage] at *
  refine ⟨⟨regsSurvive_wf h.1.1, h.1.2⟩, ?_⟩
  split
  · exact h.2
  · rfl

theorem coreOff_steady {s0 : State} {a1} (g1 : Steady s0 a1) : Steady s0 (coreOff a1) :=
  ⟨g1.ident, g1.cyc, g1.free, fun w => ⟨rfl, (g1.stores w).2⟩⟩
theorem fabricReset_steady {s0 : State} {a1 a2} (g2 : Steady s0 a2) : Steady s0 (fabricReset a1 a2) :=
  ⟨g2.ident, g2.cyc, g2.free, fun w => ⟨regsSurvive_ok (g2.stores w).1, (g2.stores w).2⟩⟩
theorem saveDo_steady {s0 : State} {a1 a2} (g2 : Steady s0 a2) : Steady s0 (saveDo a1 a2) :=
  ⟨g2.ident, g2.cyc, g2.free, fun w => ⟨(g2.stores w).1, saveImage_ok (g2.stores w).1⟩⟩
theorem keepGoneDo_steady {s0 : State} {a1} (g1 : Steady s0 a1) : Steady s0 (keepGoneDo a1) :=
  ⟨g1.ident, g1.cyc, g1.free, fun w => ⟨(g1.stores w).1, rfl⟩⟩

end Sys2Proof.Machine
end

