-- ==== Sys2Proof/Laws/KeepCalm.lean ====
section
/-! SUPPORT. One lemma per operation that is calm: only ports, strands, sequencer, lockets, counters, registers, free values and the clock move. -/

namespace Sys2Proof.Machine

theorem updStrand_calm {s0 : State} {a1 a2 a3} (g3 : Calm s0 a3) : Calm s0 (updStrand a1 a2 a3) := by
  unfold updStrand
  exact Calm.upd g3 rfl

theorem updLnk_calm {s0 : State} {a1 a2 a3} (g3 : Calm s0 a3) : Calm s0 (updLnk a1 a2 a3) := by
  unfold updLnk
  refine updStrand_calm ?_
  exact g3

theorem begin_calm {s0 : State} {a1} (g1 : Calm s0 a1) : Calm s0 (begin a1) := by
  unfold begin
  exact Calm.upd g1 rfl

theorem emit_calm {s0 : State} {a1 a2} (g2 : Calm s0 a2) : Calm s0 (emit a1 a2) := by
  unfold emit
  exact Calm.upd g2 rfl

theorem updPhy_calm {s0 : State} {a1 a2 a3} (g3 : Calm s0 a3) : Calm s0 (updPhy a1 a2 a3) := by
  unfold updPhy
  refine updStrand_calm ?_
  exact g3

theorem takeFreeBit_calm {s0 : State} {a1} (g1 : Calm s0 a1) : Calm s0 (takeFreeBit a1).2 := by
  unfold takeFreeBit
  refine keep_mk2 (P := Calm s0) ?_
  refine useFree_calm ?_
  exact g1

theorem updPort_calm {s0 : State} {a1 a2 a3} (g3 : Calm s0 a3) : Calm s0 (updPort a1 a2 a3) := by
  unfold updPort
  exact Calm.upd g3 rfl

theorem regClrBit_calm {s0 : State} {a1 a2 a3} (g3 : Calm s0 a3) : Calm s0 (regClrBit a1 a2 a3) := by
  unfold regClrBit
  refine regSet_calm ?_
  exact g3

theorem regPut_calm {s0 : State} {a1 a2 a3 a4 a5} (g5 : Calm s0 a5) : Calm s0 (regPut a1 a2 a3 a4 a5) := by
  unfold regPut
  refine regSet_calm ?_
  exact g5

theorem staleClear_calm {s0 : State} {a1 a2} (g2 : Calm s0 a2) : Calm s0 (staleClear a1 a2) := by
  unfold staleClear
  refine regClrBit_calm ?_
  exact g2

theorem regSetBit_calm {s0 : State} {a1 a2 a3} (g3 : Calm s0 a3) : Calm s0 (regSetBit a1 a2 a3) := by
  unfold regSetBit
  refine regSet_calm ?_
  exact g3

theorem count_calm {s0 : State} {a1 a2} (g2 : Calm s0 a2) : Calm s0 (count a1 a2) := by
  unfold count
  refine countN_calm ?_
  exact g2

theorem countTile_calm {s0 : State} {a1 a2 a3 a4 a5} (g5 : Calm s0 a5) : Calm s0 (countTile a1 a2 a3 a4 a5) := by
  unfold countTile
  refine count_calm ?_
  exact g5

theorem countStrand_calm {s0 : State} {a1 a2 a3} (g3 : Calm s0 a3) : Calm s0 (countStrand a1 a2 a3) := by
  unfold countStrand
  refine count_calm ?_
  exact g3

theorem countPort_calm {s0 : State} {a1 a2 a3} (g3 : Calm s0 a3) : Calm s0 (countPort a1 a2 a3) := by
  unfold countPort
  refine keep_cond (P := Calm s0) (fun _ => ?_) (fun _ => ?_)
  · exact g3
  · refine count_calm ?_
    exact g3

theorem countLate_calm {s0 : State} {a1 a2} (g2 : Calm s0 a2) : Calm s0 (countLate a1 a2) := by
  unfold countLate
  exact Calm.upd g2 rfl

theorem readHalf_calm {s0 : State} {a1 a2 a3 a4 a5 a6} (g6 : Calm s0 a6) : Calm s0 (readHalf a1 a2 a3 a4 a5 a6).2 := by
  unfold readHalf
  extract_lets +onlyGivenNames k1
  clear_value k1
  refine keep_cond2 (P := Calm s0) (fun _ => ?_) (fun _ => ?_)
  · split
    refine keep_mk2 (P := Calm s0) ?_
    exact g6
  · refine keep_mk2 (P := Calm s0) ?_
    exact Calm.upd g6 rfl

theorem preset_calm {s0 : State} {a1 a2 a3} (g3 : Calm s0 a3) : Calm s0 (preset a1 a2 a3) := by
  unfold preset
  extract_lets +onlyGivenNames s1
  have h2 : Calm s0 s1 := by
    simp only [s1]
    refine cntSet_calm ?_
    exact g3
  clear_value s1
  exact Calm.upd h2 rfl

theorem presetHalf_calm {s0 : State} {a1 a2 a3 a4 a5 a6} (g6 : Calm s0 a6) : Calm s0 (presetHalf a1 a2 a3 a4 a5 a6) := by
  unfold presetHalf
  extract_lets +onlyGivenNames k1
  clear_value k1
  revert k1
  refine id ?_
  intro k1
  refine keep_cond (P := Calm s0) (fun _ => ?_) (fun _ => ?_)
  · split
    · rename_i v2 v3 v4 v5 v6
      extract_lets +onlyGivenNames low7
      clear_value low7
      revert low7
      refine id ?_
      intro low7
      extract_lets +onlyGivenNames s8
      have h9 : Calm s0 s8 := by
        simp only [s8]
        refine preset_calm ?_
        exact g6
      clear_value s8
      revert s8
      refine id ?_
      intro s8 h9
      exact Calm.upd h9 rfl
  · exact Calm.upd g6 rfl

theorem takeCameo_calm {s0 : State} {a1} (g1 : Calm s0 a1) : Calm s0 (takeCameo a1) := by
  unfold takeCameo
  exact Calm.upd g1 rfl

theorem clearOvf_calm {s0 : State} {a1 a2} (g2 : Calm s0 a2) : Calm s0 (clearOvf a1 a2) := by
  unfold clearOvf
  exact Calm.upd g2 rfl

theorem advanceToTime_calm {s0 : State} {a1 a2} (g2 : Calm s0 a2) : Calm s0 (advanceToTime a1 a2) := by
  unfold advanceToTime
  refine keep_cond (P := Calm s0) (fun _ => ?_) (fun _ => ?_)
  · refine advance_calm ?_
    exact g2
  · exact g2

theorem advanceToSlot_calm {s0 : State} {a1 a2} (g2 : Calm s0 a2) : Calm s0 (advanceToSlot a1 a2) := by
  unfold advanceToSlot
  refine advance_calm ?_
  exact g2

theorem setSlots_calm {s0 : State} {a1} (g1 : Calm s0 a1) : Calm s0 (setSlots a1) := by
  unfold setSlots
  exact Calm.upd g1 rfl

theorem advanceToFrame_calm {s0 : State} {a1} (g1 : Calm s0 a1) : Calm s0 (advanceToFrame a1) := by
  unfold advanceToFrame
  refine advance_calm ?_
  exact g1

theorem advanceTo_calm {s0 : State} {a1 a2} (g2 : Calm s0 a2) : Calm s0 (advanceTo a1 a2) := by
  unfold advanceTo
  refine advance_calm ?_
  exact g2

theorem noteMap_calm {s0 : State} {a1 a2} (g1 : Calm s0 a1) : Calm s0 (noteMap a1 a2) := by
  unfold noteMap
  split
  · refine regPut_calm ?_
    refine regPut_calm ?_
    exact g1
  · exact g1

theorem deliver_calm {s0 : State} {a1 a2 a3} (g3 : Calm s0 a3) : Calm s0 (deliver a1 a2 a3) := by
  unfold deliver
  extract_lets +onlyGivenNames s1
  have h2 : Calm s0 s1 := by
    simp only [s1]
    refine advanceTo_calm ?_
    exact g3
  clear_value s1
  extract_lets +onlyGivenNames s3
  have h4 : Calm s0 s3 := by
    simp only [s3]
    refine updPort_calm ?_
    refine emit_calm ?_
    exact h2
  clear_value s3
  extract_lets +onlyGivenNames s5
  have h6 : Calm s0 s5 := by
    simp only [s5]
    refine keep_cond (P := Calm s0) (fun _ => ?_) (fun _ => ?_)
    · refine updPort_calm ?_
      exact h4
    · exact h4
  clear_value s5
  refine countPort_calm ?_
  exact h6

theorem setEjCredit_calm {s0 : State} {a1 a2 a3 a4 a5} (g5 : Calm s0 a5) : Calm s0 (setEjCredit a1 a2 a3 a4 a5) := by
  unfold setEjCredit
  refine updPort_calm ?_
  exact g5

theorem toUnit_calm {s0 : State} {a1 a2 a3} (g3 : Calm s0 a3) : Calm s0 (toUnit a1 a2 a3) := by
  unfold toUnit
  extract_lets +onlyGivenNames c1
  clear_value c1
  refine keep_cond (P := Calm s0) (fun _ => ?_) (fun _ => ?_)
  · refine deliver_calm ?_
    refine setEjCredit_calm ?_
    exact g3
  · refine updPort_calm ?_
    exact g3

theorem errToUnit_calm {s0 : State} {a1 a2 a3 a4 a5} (g5 : Calm s0 a5) : Calm s0 (errToUnit a1 a2 a3 a4 a5) := by
  unfold errToUnit
  refine toUnit_calm ?_
  exact g5

theorem drawSeq_calm {s0 : State} {a1 a2 a3 a4} (g4 : Calm s0 a4) : Calm s0 (drawSeq a1 a2 a3 a4).2 := by
  unfold drawSeq
  extract_lets +onlyGivenNames k1
  clear_value k1
  extract_lets +onlyGivenNames v2
  clear_value v2
  refine keep_mk2 (P := Calm s0) ?_
  exact Calm.upd g4 rfl

theorem gtTest_calm {s0 : State} {a1 a2 a3} (g3 : Calm s0 a3) : Calm s0 (gtTest a1 a2 a3).2.2 := by
  unfold gtTest
  refine keep_cond3 (P := Calm s0) (fun _ => ?_) (fun _ => ?_)
  · refine keep_mk3 (P := Calm s0) ?_
    exact g3
  · split
    · refine keep_mk3 (P := Calm s0) ?_
      exact g3
    · refine keep_mk3 (P := Calm s0) ?_
      refine countPort_calm ?_
      exact g3

theorem regrant_calm {s0 : State} {a1 a2} (g2 : Calm s0 a2) : Calm s0 (regrant a1 a2) := by
  unfold regrant
  refine updPort_calm ?_
  exact g2

theorem enqueue_calm {s0 : State} {a1 a2 a3} (g3 : Calm s0 a3) : Calm s0 (enqueue a1 a2 a3) := by
  unfold enqueue
  split
  · refine updPort_calm ?_
    exact g3
  · refine updPort_calm ?_
    exact g3

theorem flushUnit_calm {s0 : State} {a1 a2} (g2 : Calm s0 a2) : Calm s0 (flushUnit a1 a2) := by
  unfold flushUnit
  extract_lets +onlyGivenNames l1
  clear_value l1
  refine keep_foldl (P := Calm s0) ?_ ?_
  · intro x2 x3 h4
    refine toUnit_calm ?_
    exact h4
  · refine updPort_calm ?_
    exact g2

theorem fabSendAs_calm {s0 : State} {a1 a2 a3 a4} (g4 : Calm s0 a4) : Calm s0 (fabSendAs a1 a2 a3 a4) := by
  unfold fabSendAs
  extract_lets +onlyGivenNames xf1
  clear_value xf1
  split
  rename_i v4 s5 e6
  have h7 : Calm s0 s5 := by
    refine (congrArg (fun q => Calm s0 q.2) e6).mp ?_
    refine keep_cond2 (P := Calm s0) (fun _ => ?_) (fun _ => ?_)
    · refine drawSeq_calm ?_
      exact g4
    · refine keep_mk2 (P := Calm s0) ?_
      exact g4
  generalize hp10 : @gtTest _ _ _ = p9
  have h11 : Calm s0 p9.2.2 := by
    rw [← hp10]
    refine gtTest_calm ?_
    exact h7
  clear hp10
  revert p9
  rintro ⟨v12, v13, s14⟩ h15
  replace h15 : Calm s0 s14 := h15
  dsimp -zeta only
  refine enqueue_calm ?_
  exact h15

theorem agentLostTo_calm {s0 : State} {a1 a2 a3 a4 a5 a6} (g6 : Calm s0 a6) : Calm s0 (agentLostTo a1 a2 a3 a4 a5 a6) := by
  unfold agentLostTo
  refine keep_forEach (P := Calm s0) ?_ ?_
  · intro x1 x2 h3
    refine fabSendAs_calm ?_
    exact h3
  · exact g6

theorem lockSend_calm {s0 : State} {a1 a2 a3} (g3 : Calm s0 a3) : Calm s0 (lockSend a1 a2 a3) := by
  unfold lockSend
  refine fabSendAs_calm ?_
  exact g3

theorem deviceLost_calm {s0 : State} {a1 a2} (g2 : Calm s0 a2) : Calm s0 (deviceLost a1 a2) := by
  unfold deviceLost
  refine keep_forEach (P := Calm s0) ?_ ?_
  · intro x1 x2 h3
    refine keep_forEach (P := Calm s0) ?_ ?_
    · intro x4 x5 h6
      refine agentLostTo_calm ?_
      exact h6
    · exact h3
  · exact g2

theorem useCredit_calm {s0 : State} {a1 a2 a3 a4} (g4 : Calm s0 a4) : Calm s0 (useCredit a1 a2 a3 a4) := by
  unfold useCredit
  refine updPort_calm ?_
  exact g4

theorem fabSend_calm {s0 : State} {a1 a2 a3} (g3 : Calm s0 a3) : Calm s0 (fabSend a1 a2 a3) := by
  unfold fabSend
  refine fabSendAs_calm ?_
  exact g3

theorem answerFrom_calm {s0 : State} {a1 a2 a3 a4 a5 a6} (g6 : Calm s0 a6) : Calm s0 (answerFrom a1 a2 a3 a4 a5 a6) := by
  unfold answerFrom
  refine fabSend_calm ?_
  exact g6

theorem sendAgentLost_calm {s0 : State} {a1 a2 a3 a4} (g4 : Calm s0 a4) : Calm s0 (sendAgentLost a1 a2 a3 a4) := by
  unfold sendAgentLost
  extract_lets +onlyGivenNames own1
  clear_value own1
  refine keep_forEach (P := Calm s0) ?_ ?_
  · intro x2 x3 h4
    refine agentLostTo_calm ?_
    exact h4
  · exact g4

theorem updCoord_calm {s0 : State} {a1 a2 a3} (g3 : Calm s0 a3) : Calm s0 (updCoord a1 a2 a3) := by
  unfold updCoord
  exact Calm.upd g3 rfl

theorem lkFree_calm {s0 : State} {a1 a2 a3} (g3 : Calm s0 a3) : Calm s0 (lkFree a1 a2 a3) := by
  unfold lkFree
  refine count_calm ?_
  refine updCoord_calm ?_
  exact g3

theorem lkAnswer_calm {s0 : State} {a1 a2 a3 a4 a5 a6} (g6 : Calm s0 a6) : Calm s0 (lkAnswer a1 a2 a3 a4 a5 a6) := by
  unfold lkAnswer
  refine toUnit_calm ?_
  exact g6

theorem lkAbortAnswer_calm {s0 : State} {a1 a2 a3} (g3 : Calm s0 a3) : Calm s0 (lkAbortAnswer a1 a2 a3) := by
  unfold lkAbortAnswer
  extract_lets +onlyGivenNames c1
  clear_value c1
  refine keep_cond (P := Calm s0) (fun _ => ?_) (fun _ => ?_)
  · refine lkAnswer_calm ?_
    exact g3
  · refine lkAnswer_calm ?_
    exact g3

theorem lkFinish_calm {s0 : State} {a1 a2} (g2 : Calm s0 a2) : Calm s0 (lkFinish a1 a2) := by
  unfold lkFinish
  extract_lets +onlyGivenNames c1
  clear_value c1
  refine keep_cond (P := Calm s0) (fun _ => ?_) (fun _ => ?_)
  · exact g2
  · refine keep_cond (P := Calm s0) (fun _ => ?_) (fun _ => ?_)
    · refine lkFree_calm ?_
      refine keep_forEach (P := Calm s0) ?_ ?_
      · intro x2 x3 h4
        refine lkAnswer_calm ?_
        exact h4
      · exact g2
    · refine keep_cond (P := Calm s0) (fun _ => ?_) (fun _ => ?_)
      · refine keep_cond (P := Calm s0) (fun _ => ?_) (fun _ => ?_)
        · refine updCoord_calm ?_
          exact g2
        · refine lkFree_calm ?_
          refine keep_forEach (P := Calm s0) ?_ ?_
          · intro x5 x6 h7
            refine lkAbortAnswer_calm ?_
            exact h7
          · exact g2
      · exact g2

theorem lkMark_calm {s0 : State} {a1 a2 a3} (g3 : Calm s0 a3) : Calm s0 (lkMark a1 a2 a3) := by
  unfold lkMark
  refine updCoord_calm ?_
  exact g3

theorem lkSendOne_calm {s0 : State} {a1 a2 a3 a4} (g4 : Calm s0 a4) : Calm s0 (lkSendOne a1 a2 a3 a4) := by
  unfold lkSendOne
  extract_lets +onlyGivenNames c1
  clear_value c1
  extract_lets +onlyGivenNames f2
  clear_value f2
  split
  extract_lets +onlyGivenNames s3
  have h4 : Calm s0 s3 := by
    simp only [s3]
    refine keep_cond (P := Calm s0) (fun _ => ?_) (fun _ => ?_)
    · refine updCoord_calm ?_
      exact g4
    · exact g4
  clear_value s3
  refine lockSend_calm ?_
  exact h4

theorem lkAbort_calm {s0 : State} {a1 a2 a3} (g3 : Calm s0 a3) : Calm s0 (lkAbort a1 a2 a3) := by
  unfold lkAbort
  extract_lets +onlyGivenNames c1
  clear_value c1
  refine keep_cond (P := Calm s0) (fun _ => ?_) (fun _ => ?_)
  · extract_lets +onlyGivenNames s2
    have h3 : Calm s0 s2 := by
      simp only [s2]
      refine updCoord_calm ?_
      exact g3
    clear_value s2
    refine lkFinish_calm ?_
    refine keep_forEach (P := Calm s0) ?_ ?_
    · intro x4 x5 h6
      refine lkSendOne_calm ?_
      exact h6
    · exact h3
  · exact g3

theorem lkCommit_calm {s0 : State} {a1 a2} (g2 : Calm s0 a2) : Calm s0 (lkCommit a1 a2) := by
  unfold lkCommit
  extract_lets +onlyGivenNames s1
  have h2 : Calm s0 s1 := by
    simp only [s1]
    refine updCoord_calm ?_
    exact g2
  clear_value s1
  refine lkFinish_calm ?_
  refine keep_forEach (P := Calm s0) ?_ ?_
  · intro x3 x4 h5
    refine lkSendOne_calm ?_
    exact h5
  · exact h2

theorem coordVote_calm {s0 : State} {a1 a2 a3} (g3 : Calm s0 a3) : Calm s0 (coordVote a1 a2 a3) := by
  unfold coordVote
  extract_lets +onlyGivenNames c1
  clear_value c1
  extract_lets +onlyGivenNames x2
  clear_value x2
  refine keep_cond (P := Calm s0) (fun _ => ?_) (fun _ => ?_)
  · exact g3
  · refine keep_cond (P := Calm s0) (fun _ => ?_) (fun _ => ?_)
    · refine keep_cond (P := Calm s0) (fun _ => ?_) (fun _ => ?_)
      · refine lkFinish_calm ?_
        refine lkMark_calm ?_
        exact g3
      · exact g3
    · refine keep_cond (P := Calm s0) (fun _ => ?_) (fun _ => ?_)
      · exact g3
      · refine keep_cond (P := Calm s0) (fun _ => ?_) (fun _ => ?_)
        · refine lkAbort_calm ?_
          exact g3
        · refine keep_cond (P := Calm s0) (fun _ => ?_) (fun _ => ?_)
          · refine lkAbort_calm ?_
            exact g3
          · extract_lets +onlyGivenNames s3
            have h4 : Calm s0 s3 := by
              simp only [s3]
              refine updCoord_calm ?_
              exact g3
            clear_value s3
            extract_lets +onlyGivenNames c5
            clear_value c5
            refine keep_cond (P := Calm s0) (fun _ => ?_) (fun _ => ?_)
            · refine lkCommit_calm ?_
              exact h4
            · exact h4

theorem updRelay_calm {s0 : State} {a1 a2 a3} (g3 : Calm s0 a3) : Calm s0 (updRelay a1 a2 a3) := by
  unfold updRelay
  exact Calm.upd g3 rfl

theorem relayAnswer_calm {s0 : State} {a1 a2 a3 a4} (g4 : Calm s0 a4) : Calm s0 (relayAnswer a1 a2 a3 a4) := by
  unfold relayAnswer
  extract_lets +onlyGivenNames r1
  clear_value r1
  extract_lets +onlyGivenNames p2
  clear_value p2
  refine lockSend_calm ?_
  exact g4

theorem relayDone_calm {s0 : State} {a1 a2 a3} (g3 : Calm s0 a3) : Calm s0 (relayDone a1 a2 a3) := by
  unfold relayDone
  extract_lets +onlyGivenNames s1
  have h2 : Calm s0 s1 := by
    simp only [s1]
    refine updRelay_calm ?_
    exact g3
  clear_value s1
  extract_lets +onlyGivenNames r3
  clear_value r3
  refine keep_cond (P := Calm s0) (fun _ => ?_) (fun _ => ?_)
  · refine updRelay_calm ?_
    refine relayAnswer_calm ?_
    exact h2
  · exact h2

theorem relayVote_calm {s0 : State} {a1 a2 a3} (g3 : Calm s0 a3) : Calm s0 (relayVote a1 a2 a3) := by
  unfold relayVote
  extract_lets +onlyGivenNames r1
  clear_value r1
  extract_lets +onlyGivenNames ch2
  clear_value ch2
  extract_lets +onlyGivenNames ready3
  clear_value ready3
  refine keep_cond (P := Calm s0) (fun _ => ?_) (fun _ => ?_)
  · exact g3
  · refine keep_cond (P := Calm s0) (fun _ => ?_) (fun _ => ?_)
    · refine keep_cond (P := Calm s0) (fun _ => ?_) (fun _ => ?_)
      · refine relayDone_calm ?_
        exact g3
      · exact g3
    · refine keep_cond (P := Calm s0) (fun _ => ?_) (fun _ => ?_)
      · exact g3
      · extract_lets +onlyGivenNames first4
        clear_value first4
        extract_lets +onlyGivenNames s5
        have h6 : Calm s0 s5 := by
          simp only [s5]
          refine updRelay_calm ?_
          exact g3
        clear_value s5
        extract_lets +onlyGivenNames r7
        clear_value r7
        refine keep_cond (P := Calm s0) (fun _ => ?_) (fun _ => ?_)
        · exact h6
        · refine keep_cond (P := Calm s0) (fun _ => ?_) (fun _ => ?_)
          · extract_lets +onlyGivenNames s8
            have h9 : Calm s0 s8 := by
              simp only [s8]
              refine relayAnswer_calm ?_
              refine updRelay_calm ?_
              exact h6
            clear_value s8
            refine keep_cond (P := Calm s0) (fun _ => ?_) (fun _ => ?_)
            · exact h9
            · refine updRelay_calm ?_
              exact h9
          · refine relayAnswer_calm ?_
            refine updRelay_calm ?_
            exact h6

theorem decisionOut_calm {s0 : State} {a1 a2 a3} (g3 : Calm s0 a3) : Calm s0 (decisionOut a1 a2 a3) := by
  unfold decisionOut
  refine toUnit_calm ?_
  refine updPort_calm ?_
  exact g3

theorem relaySendOne_calm {s0 : State} {a1 a2 a3 a4} (g4 : Calm s0 a4) : Calm s0 (relaySendOne a1 a2 a3 a4) := by
  unfold relaySendOne
  extract_lets +onlyGivenNames r1
  clear_value r1
  extract_lets +onlyGivenNames f2
  clear_value f2
  extract_lets +onlyGivenNames p3
  clear_value p3
  generalize hp5 : @gtTest _ _ _ = p4
  have h6 : Calm s0 p4.2.2 := by
    rw [← hp5]
    refine gtTest_calm ?_
    exact g4
  clear hp5
  revert p4
  rintro ⟨v7, v8, s9⟩ h10
  replace h10 : Calm s0 s9 := h10
  dsimp -zeta only
  refine enqueue_calm ?_
  exact h10

theorem relaySend_calm {s0 : State} {a1 a2 a3} (g3 : Calm s0 a3) : Calm s0 (relaySend a1 a2 a3) := by
  unfold relaySend
  refine keep_forEach (P := Calm s0) ?_ ?_
  · intro x1 x2 h3
    refine relaySendOne_calm ?_
    exact h3
  · exact g3

theorem relayDecide_calm {s0 : State} {a1 a2 a3} (g3 : Calm s0 a3) : Calm s0 (relayDecide a1 a2 a3) := by
  unfold relayDecide
  extract_lets +onlyGivenNames s1
  have h2 : Calm s0 s1 := by
    simp only [s1]
    refine updRelay_calm ?_
    exact g3
  clear_value s1
  refine relaySend_calm ?_
  exact h2

theorem relayAbort_calm {s0 : State} {a1 a2} (g2 : Calm s0 a2) : Calm s0 (relayAbort a1 a2) := by
  unfold relayAbort
  split
  · extract_lets +onlyGivenNames s1
    have h2 : Calm s0 s1 := by
      simp only [s1]
      refine updRelay_calm ?_
      exact g2
    clear_value s1
    refine keep_cond (P := Calm s0) (fun _ => ?_) (fun _ => ?_)
    · exact h2
    · refine relayDecide_calm ?_
      exact h2
  · split
    · exact g2
    · refine relayDecide_calm ?_
      refine updRelay_calm ?_
      exact g2

theorem takeInbox_calm {s0 : State} {a1 a2} (g2 : Calm s0 a2) : Calm s0 (takeInbox a1 a2).2 := by
  unfold takeInbox
  split
  · refine keep_mk2 (P := Calm s0) ?_
    exact g2
  · refine keep_mk2 (P := Calm s0) ?_
    exact Calm.upd g2 rfl

theorem lkVote_calm {s0 : State} {a1} (g1 : Calm s0 a1) : Calm s0 (lkVote a1) := by
  unfold lkVote
  generalize hp2 : @takeInbox _ _ = p1
  have h3 : Calm s0 p1.2 := by
    rw [← hp2]
    refine takeInbox_calm ?_
    exact g1
  clear hp2
  revert p1
  rintro ⟨_ | v4, s5⟩ h6
  · replace h6 : Calm s0 s5 := h6
    dsimp -zeta only
    exact h6
  · replace h6 : Calm s0 s5 := h6
    dsimp -zeta only
    split
    · refine relayVote_calm ?_
      exact h6
    · refine coordVote_calm ?_
      exact h6

theorem relayCommit_calm {s0 : State} {a1 a2} (g2 : Calm s0 a2) : Calm s0 (relayCommit a1 a2) := by
  unfold relayCommit
  split
  · extract_lets +onlyGivenNames s1
    have h2 : Calm s0 s1 := by
      simp only [s1]
      refine updRelay_calm ?_
      exact g2
    clear_value s1
    split
    · refine relayDecide_calm ?_
      exact h2
    · refine relayDecide_calm ?_
      exact h2
    · refine relayAnswer_calm ?_
      exact h2
    · exact h2
    · exact g2
  · split
    · extract_lets +onlyGivenNames p3
      clear_value p3
      refine lockSend_calm ?_
      exact g2
    · extract_lets +onlyGivenNames s4
      have h5 : Calm s0 s4 := by
        simp only [s4]
        refine updRelay_calm ?_
        exact g2
      clear_value s4
      refine relaySend_calm ?_
      exact h5

theorem relayTake_calm {s0 : State} {a1} (g1 : Calm s0 a1) : Calm s0 (relayTake a1) := by
  unfold relayTake
  generalize hp2 : @takeInbox _ _ = p1
  have h3 : Calm s0 p1.2 := by
    rw [← hp2]
    refine takeInbox_calm ?_
    exact g1
  clear hp2
  revert p1
  rintro ⟨_ | v4, s5⟩ h6
  · replace h6 : Calm s0 s5 := h6
    dsimp -zeta only
    exact h6
  · replace h6 : Calm s0 s5 := h6
    dsimp -zeta only
    refine keep_cond (P := Calm s0) (fun _ => ?_) (fun _ => ?_)
    · refine relayCommit_calm ?_
      exact h6
    · refine relayAbort_calm ?_
      exact h6

theorem lkDeadline_calm {s0 : State} {a1 a2} (g2 : Calm s0 a2) : Calm s0 (lkDeadline a1 a2) := by
  unfold lkDeadline
  extract_lets +onlyGivenNames c1
  clear_value c1
  refine keep_cond (P := Calm s0) (fun _ => ?_) (fun _ => ?_)
  · exact g2
  · refine lkAbort_calm ?_
    refine keep_cond (P := Calm s0) (fun _ => ?_) (fun _ => ?_)
    · refine advanceTo_calm ?_
      exact g2
    · refine advanceToTime_calm ?_
      exact g2

theorem stagedAdd_calm {s0 : State} {a1 a2 a3 a4 a5} (g5 : Calm s0 a5) : Calm s0 (stagedAdd a1 a2 a3 a4 a5) := by
  unfold stagedAdd
  extract_lets +onlyGivenNames hit1
  clear_value hit1
  extract_lets +onlyGivenNames old2
  clear_value old2
  exact Calm.upd g5 rfl

theorem stagedDrop_calm {s0 : State} {a1 a2 a3 a4} (g4 : Calm s0 a4) : Calm s0 (stagedDrop a1 a2 a3 a4) := by
  unfold stagedDrop
  exact Calm.upd g4 rfl

theorem lkDrain_calm {s0 : State} {a1} (g1 : Calm s0 a1) : Calm s0 (lkDrain a1) := by
  unfold lkDrain
  extract_lets +onlyGivenNames s1
  have h2 : Calm s0 s1 := by
    simp only [s1]
    refine keep_forEach (P := Calm s0) ?_ ?_
    · intro x3 x4 h5
      refine lkAbort_calm ?_
      exact h5
    · exact g1
  clear_value s1
  extract_lets +onlyGivenNames s6
  have h7 : Calm s0 s6 := by
    simp only [s6]
    refine keep_forEach (P := Calm s0) ?_ ?_
    · intro x8 x9 h10
      refine keep_forEach (P := Calm s0) ?_ ?_
      · intro x11 x12 h13
        refine decisionOut_calm ?_
        exact h13
      · refine updPort_calm ?_
        exact h10
    · exact h2
  clear_value s6
  refine keep_forEach (P := Calm s0) ?_ ?_
  · intro x14 x15 h16
    refine regSetBit_calm ?_
    refine relayDecide_calm ?_
    exact h16
  · exact h7

theorem lkDoubt_calm {s0 : State} {a1} (g1 : Calm s0 a1) : Calm s0 (lkDoubt a1) := by
  unfold lkDoubt
  extract_lets +onlyGivenNames homes1
  clear_value homes1
  extract_lets +onlyGivenNames rel2
  clear_value rel2
  extract_lets +onlyGivenNames s3
  have h4 : Calm s0 s3 := by
    simp only [s3]
    refine keep_cond (P := Calm s0) (fun _ => ?_) (fun _ => ?_)
    · exact g1
    · refine regSetBit_calm ?_
      exact g1
  clear_value s3
  extract_lets +onlyGivenNames s5
  have h6 : Calm s0 s5 := by
    simp only [s5]
    refine keep_forEach (P := Calm s0) ?_ ?_
    · intro x7 x8 h9
      refine keep_forEach (P := Calm s0) ?_ ?_
      · intro x10 x11 h12
        refine stagedDrop_calm ?_
        exact h12
      · refine updPort_calm ?_
        exact h9
    · exact h4
  clear_value s5
  refine keep_forEach (P := Calm s0) ?_ ?_
  · intro x13 x14 h15
    refine updRelay_calm ?_
    exact h15
  · exact h6

theorem takePath_calm {s0 : State} {a1 a2 a3} (g3 : Calm s0 a3) : Calm s0 (takePath a1 a2 a3).2 := by
  unfold takePath
  extract_lets +onlyGivenNames hit1
  clear_value hit1
  split
  · refine keep_mk2 (P := Calm s0) ?_
    exact g3
  · refine keep_mk2 (P := Calm s0) ?_
    exact Calm.upd g3 rfl

theorem stageReport_calm {s0 : State} {a1 a2 a3 a4 a5} (g5 : Calm s0 a5) : Calm s0 (stageReport a1 a2 a3 a4 a5) := by
  unfold stageReport
  exact Calm.upd g5 rfl

theorem lkOpen_calm {s0 : State} {a1 a2} (g2 : Calm s0 a2) : Calm s0 (lkOpen a1 a2) := by
  unfold lkOpen
  generalize hp2 : @takePath _ _ _ = p1
  have h3 : Calm s0 p1.2 := by
    rw [← hp2]
    refine takePath_calm ?_
    exact g2
  clear hp2
  revert p1
  rintro ⟨_ | v4, s5⟩ h6
  · replace h6 : Calm s0 s5 := h6
    dsimp -zeta only
    exact h6
  · replace h6 : Calm s0 s5 := h6
    dsimp -zeta only
    split
    · refine lkAnswer_calm ?_
      exact h6
    · extract_lets +onlyGivenNames s7
      extract_lets +onlyGivenNames s8
      have h9 : Calm s0 s8 := by
        simp only [s8]
        exact Calm.upd h6 rfl
      clear_value s8
      refine lkAnswer_calm ?_
      refine updCoord_calm ?_
      exact h9

theorem stageRefused_calm {s0 : State} {a1 a2 a3} (g3 : Calm s0 a3) : Calm s0 (stageRefused a1 a2 a3) := by
  unfold stageRefused
  extract_lets +onlyGivenNames c1
  clear_value c1
  refine keep_cond (P := Calm s0) (fun _ => ?_) (fun _ => ?_)
  · refine stageReport_calm ?_
    exact g3
  · exact g3

theorem relayDevLost_calm {s0 : State} {a1 a2 a3} (g3 : Calm s0 a3) : Calm s0 (relayDevLost a1 a2 a3) := by
  unfold relayDevLost
  extract_lets +onlyGivenNames r1
  clear_value r1
  refine keep_cond (P := Calm s0) (fun _ => ?_) (fun _ => ?_)
  · exact g3
  · split
    · refine updRelay_calm ?_
      refine relaySend_calm ?_
      exact g3
    · refine updRelay_calm ?_
      refine relaySend_calm ?_
      exact g3
    · refine updRelay_calm ?_
      exact g3
    · exact g3

theorem lkPartLost_calm {s0 : State} {a1 a2 a3} (g3 : Calm s0 a3) : Calm s0 (lkPartLost a1 a2 a3) := by
  unfold lkPartLost
  extract_lets +onlyGivenNames c1
  clear_value c1
  refine keep_cond (P := Calm s0) (fun _ => ?_) (fun _ => ?_)
  · exact g3
  · split
    · refine lkFinish_calm ?_
      refine lkMark_calm ?_
      refine lkAbort_calm ?_
      exact g3
    · refine lkFinish_calm ?_
      refine lkMark_calm ?_
      refine lkAbort_calm ?_
      exact g3
    · refine lkFinish_calm ?_
      refine lkMark_calm ?_
      refine lkAbort_calm ?_
      exact g3
    · refine keep_cond (P := Calm s0) (fun _ => ?_) (fun _ => ?_)
      · refine lkFinish_calm ?_
        refine updCoord_calm ?_
        refine lkMark_calm ?_
        exact g3
      · exact g3
    · refine lkFinish_calm ?_
      refine lkMark_calm ?_
      exact g3
    · exact g3

theorem lkDeviceLost_calm {s0 : State} {a1 a2} (g2 : Calm s0 a2) : Calm s0 (lkDeviceLost a1 a2) := by
  unfold lkDeviceLost
  refine keep_forEach (P := Calm s0) ?_ ?_
  · intro x1 x2 h3
    refine relayDevLost_calm ?_
    exact h3
  · refine keep_forEach (P := Calm s0) ?_ ?_
    · intro x4 x5 h6
      refine lkPartLost_calm ?_
      exact h6
    · exact g2

theorem homeNote_calm {s0 : State} {a1 a2 a3} (g3 : Calm s0 a3) : Calm s0 (homeNote a1 a2 a3) := by
  unfold homeNote
  refine keep_cond (P := Calm s0) (fun _ => ?_) (fun _ => ?_)
  · exact g3
  · refine keep_cond (P := Calm s0) (fun _ => ?_) (fun _ => ?_)
    · extract_lets +onlyGivenNames k1
      clear_value k1
      extract_lets +onlyGivenNames vote2
      clear_value vote2
      refine updPort_calm ?_
      exact g3
    · refine keep_cond (P := Calm s0) (fun _ => ?_) (fun _ => ?_)
      · extract_lets +onlyGivenNames k3
        clear_value k3
        refine stagedDrop_calm ?_
        refine updPort_calm ?_
        exact g3
      · split
        · exact g3
        · extract_lets +onlyGivenNames s4
          have h5 : Calm s0 s4 := by
            simp only [s4]
            refine updPort_calm ?_
            exact g3
          clear_value s4
          refine keep_cond (P := Calm s0) (fun _ => ?_) (fun _ => ?_)
          · refine stagedAdd_calm ?_
            exact h5
          · exact h5

theorem lkPrepare_calm {s0 : State} {a1 a2} (g2 : Calm s0 a2) : Calm s0 (lkPrepare a1 a2) := by
  unfold lkPrepare
  extract_lets +onlyGivenNames c1
  clear_value c1
  refine keep_cond (P := Calm s0) (fun _ => ?_) (fun _ => ?_)
  · exact g2
  · extract_lets +onlyGivenNames none2
    clear_value none2
    extract_lets +onlyGivenNames s3
    have h4 : Calm s0 s3 := by
      simp only [s3]
      refine keep_cond (P := Calm s0) (fun _ => ?_) (fun _ => ?_)
      · exact g2
      · refine advanceToTime_calm ?_
        exact g2
    clear_value s3
    refine keep_cond (P := Calm s0) (fun _ => ?_) (fun _ => ?_)
    · refine lkCommit_calm ?_
      exact h4
    · extract_lets +onlyGivenNames s5
      have h6 : Calm s0 s5 := by
        simp only [s5]
        refine updCoord_calm ?_
        exact h4
      clear_value s5
      refine keep_forEach (P := Calm s0) ?_ ?_
      · intro x7 x8 h9
        refine lkSendOne_calm ?_
        exact h9
      · exact h6

theorem lkStageAnswer_calm {s0 : State} {a1} (g1 : Calm s0 a1) : Calm s0 (lkStageAnswer a1) := by
  unfold lkStageAnswer
  split
  · exact g1
  · extract_lets +onlyGivenNames l1
    extract_lets +onlyGivenNames s2
    extract_lets +onlyGivenNames s3
    have h4 : Calm s0 s3 := by
      simp only [s3]
      exact Calm.upd g1 rfl
    clear_value s3
    refine keep_cond (P := Calm s0) (fun _ => ?_) (fun _ => ?_)
    · exact h4
    · extract_lets +onlyGivenNames s5
      have h6 : Calm s0 s5 := by
        simp only [s5]
        refine updCoord_calm ?_
        exact h4
      clear_value s5
      split
      · exact h6
      · refine keep_cond (P := Calm s0) (fun _ => ?_) (fun _ => ?_)
        · exact h6
        · refine lkAbort_calm ?_
          exact h6

theorem lkResend_calm {s0 : State} {a1 a2} (g2 : Calm s0 a2) : Calm s0 (lkResend a1 a2) := by
  unfold lkResend
  extract_lets +onlyGivenNames c1
  clear_value c1
  extract_lets +onlyGivenNames s2
  have h3 : Calm s0 s2 := by
    simp only [s2]
    refine advanceTo_calm ?_
    exact g2
  clear_value s2
  extract_lets +onlyGivenNames s4
  have h5 : Calm s0 s4 := by
    simp only [s4]
    refine keep_forEach (P := Calm s0) ?_ ?_
    · intro x6 x7 h8
      refine lkSendOne_calm ?_
      exact h8
    · exact h3
  clear_value s4
  extract_lets +onlyGivenNames s9
  have h10 : Calm s0 s9 := by
    simp only [s9]
    refine keep_cond (P := Calm s0) (fun _ => ?_) (fun _ => ?_)
    · refine updCoord_calm ?_
      exact h5
    · exact g2
  clear_value s9
  extract_lets +onlyGivenNames r11
  clear_value r11
  refine keep_cond (P := Calm s0) (fun _ => ?_) (fun _ => ?_)
  · extract_lets +onlyGivenNames s12
    have h13 : Calm s0 s12 := by
      simp only [s12]
      refine advanceTo_calm ?_
      exact h10
    clear_value s12
    extract_lets +onlyGivenNames s14
    have h15 : Calm s0 s14 := by
      simp only [s14]
      refine relaySend_calm ?_
      exact h13
    clear_value s14
    refine updRelay_calm ?_
    exact h15
  · exact h10

theorem lkClear_calm {s0 : State} {a1} (g1 : Calm s0 a1) : Calm s0 (lkClear a1) := by
  unfold lkClear
  exact Calm.upd g1 rfl

theorem lkTimeout_calm {s0 : State} {a1 a2} (g2 : Calm s0 a2) : Calm s0 (lkTimeout a1 a2) := by
  unfold lkTimeout
  split
  · refine lkAbort_calm ?_
    refine advanceTo_calm ?_
    exact g2
  · refine lkFree_calm ?_
    refine advanceTo_calm ?_
    exact g2
  · exact g2

theorem lkDone_calm {s0 : State} {a1} (g1 : Calm s0 a1) : Calm s0 (lkDone a1) := by
  unfold lkDone
  generalize hp2 : @takeInbox _ _ = p1
  have h3 : Calm s0 p1.2 := by
    rw [← hp2]
    refine takeInbox_calm ?_
    exact g1
  clear hp2
  revert p1
  rintro ⟨_ | v4, s5⟩ h6
  · replace h6 : Calm s0 s5 := h6
    dsimp -zeta only
    exact h6
  · replace h6 : Calm s0 s5 := h6
    dsimp -zeta only
    split
    · refine keep_cond (P := Calm s0) (fun _ => ?_) (fun _ => ?_)
      · refine relayDone_calm ?_
        exact h6
      · exact h6
    · extract_lets +onlyGivenNames l7
      extract_lets +onlyGivenNames c8
      clear_value c8
      refine keep_cond (P := Calm s0) (fun _ => ?_) (fun _ => ?_)
      · refine keep_cond (P := Calm s0) (fun _ => ?_) (fun _ => ?_)
        · refine lkFinish_calm ?_
          refine lkMark_calm ?_
          exact h6
        · exact h6
      · exact h6

theorem lkCommitReq_calm {s0 : State} {a1 a2} (g2 : Calm s0 a2) : Calm s0 (lkCommitReq a1 a2) := by
  unfold lkCommitReq
  generalize hp2 : @takePath _ _ _ = p1
  have h3 : Calm s0 p1.2 := by
    rw [← hp2]
    refine takePath_calm ?_
    exact g2
  clear hp2
  revert p1
  rintro ⟨_ | v4, s5⟩ h6
  · replace h6 : Calm s0 s5 := h6
    dsimp -zeta only
    exact h6
  · replace h6 : Calm s0 s5 := h6
    dsimp -zeta only
    extract_lets +onlyGivenNames l7
    extract_lets +onlyGivenNames c8
    clear_value c8
    extract_lets +onlyGivenNames wait9
    have h10 : Calm s0 wait9 := by
      simp only [wait9]
      refine updCoord_calm ?_
      exact h6
    clear_value wait9
    refine keep_cond (P := Calm s0) (fun _ => ?_) (fun _ => ?_)
    · refine lkAnswer_calm ?_
      exact h6
    · split
      · extract_lets +onlyGivenNames s11
        have h12 : Calm s0 s11 := by
          simp only [s11]
          refine updCoord_calm ?_
          exact h10
        clear_value s11
        split
        · refine lkAbort_calm ?_
          exact h12
        · extract_lets +onlyGivenNames s13
          have h14 : Calm s0 s13 := by
            simp only [s13]
            refine updCoord_calm ?_
            exact h12
          clear_value s13
          refine keep_cond (P := Calm s0) (fun _ => ?_) (fun _ => ?_)
          · refine lkCommit_calm ?_
            exact h14
          · exact h14
      · refine lkFree_calm ?_
        refine lkAbortAnswer_calm ?_
        exact h6
      · exact h10

theorem lkAbortReq_calm {s0 : State} {a1 a2} (g2 : Calm s0 a2) : Calm s0 (lkAbortReq a1 a2) := by
  unfold lkAbortReq
  generalize hp2 : @takePath _ _ _ = p1
  have h3 : Calm s0 p1.2 := by
    rw [← hp2]
    refine takePath_calm ?_
    exact g2
  clear hp2
  revert p1
  rintro ⟨_ | v4, s5⟩ h6
  · replace h6 : Calm s0 s5 := h6
    dsimp -zeta only
    exact h6
  · replace h6 : Calm s0 s5 := h6
    dsimp -zeta only
    extract_lets +onlyGivenNames l7
    extract_lets +onlyGivenNames c8
    clear_value c8
    extract_lets +onlyGivenNames wait9
    have h10 : Calm s0 wait9 := by
      simp only [wait9]
      refine updCoord_calm ?_
      exact h6
    clear_value wait9
    refine keep_cond (P := Calm s0) (fun _ => ?_) (fun _ => ?_)
    · refine lkAnswer_calm ?_
      exact h6
    · split
      · refine lkAbort_calm ?_
        refine updCoord_calm ?_
        exact h10
      · refine lkAbort_calm ?_
        refine updCoord_calm ?_
        exact h10
      · refine lkAbort_calm ?_
        refine updCoord_calm ?_
        exact h10
      · refine lkFree_calm ?_
        refine lkAbortAnswer_calm ?_
        exact h6
      · exact h10

theorem relayResolveDo_calm {s0 : State} {a1 a2 a3} (g3 : Calm s0 a3) : Calm s0 (relayResolveDo a1 a2 a3) := by
  unfold relayResolveDo
  refine keep_cond (P := Calm s0) (fun _ => ?_) (fun _ => ?_)
  · refine relayDecide_calm ?_
    exact g3
  · exact g3

theorem lkErr_calm {s0 : State} {a1 a2} (g2 : Calm s0 a2) : Calm s0 (lkErr a1 a2) := by
  unfold lkErr
  extract_lets +onlyGivenNames l1
  split
  · exact g2
  · extract_lets +onlyGivenNames tried2
    clear_value tried2
    refine keep_cond (P := Calm s0) (fun _ => ?_) (fun _ => ?_)
    · exact g2
    · refine keep_cond (P := Calm s0) (fun _ => ?_) (fun _ => ?_)
      · refine lkPartLost_calm ?_
        exact g2
      · extract_lets +onlyGivenNames s3
        extract_lets +onlyGivenNames s4
        have h5 : Calm s0 s4 := by
          simp only [s4]
          refine keep_cond (P := Calm s0) (fun _ => ?_) (fun _ => ?_)
          · exact Calm.upd g2 rfl
          · exact g2
        clear_value s4
        extract_lets +onlyGivenNames s6
        have h7 : Calm s0 s6 := by
          simp only [s6]
          refine updCoord_calm ?_
          exact h5
        clear_value s6
        refine keep_cond (P := Calm s0) (fun _ => ?_) (fun _ => ?_)
        · split
          · refine lkSendOne_calm ?_
            exact h7
          · refine lkSendOne_calm ?_
            exact h7
          · refine lkSendOne_calm ?_
            exact h7
          · exact h7
        · exact h7
  · refine lkPartLost_calm ?_
    exact g2

theorem lkTileLost_calm {s0 : State} {a1 a2} (g2 : Calm s0 a2) : Calm s0 (lkTileLost a1 a2) := by
  unfold lkTileLost
  refine keep_forEach (P := Calm s0) ?_ ?_
  · intro x1 x2 h3
    refine keep_forEach (P := Calm s0) ?_ ?_
    · intro x4 x5 h6
      refine lkPartLost_calm ?_
      exact h6
    · exact h3
  · exact g2

theorem lkStage_calm {s0 : State} {a1 a2 a3} (g3 : Calm s0 a3) : Calm s0 (lkStage a1 a2 a3).2 := by
  unfold lkStage
  extract_lets +onlyGivenNames l1
  extract_lets +onlyGivenNames c2
  clear_value c2
  extract_lets +onlyGivenNames n3
  clear_value n3
  refine keep_cond2 (P := Calm s0) (fun _ => ?_) (fun _ => ?_)
  · refine keep_mk2 (P := Calm s0) ?_
    exact g3
  · refine keep_cond2 (P := Calm s0) (fun _ => ?_) (fun _ => ?_)
    · refine keep_mk2 (P := Calm s0) ?_
      exact g3
    · refine keep_cond2 (P := Calm s0) (fun _ => ?_) (fun _ => ?_)
      · refine keep_mk2 (P := Calm s0) ?_
        refine lkAbort_calm ?_
        exact g3
      · refine keep_cond2 (P := Calm s0) (fun _ => ?_) (fun _ => ?_)
        · refine keep_mk2 (P := Calm s0) ?_
          refine lkAbort_calm ?_
          exact g3
        · refine keep_mk2 (P := Calm s0) ?_
          refine updCoord_calm ?_
          exact g3

theorem lkPortReset_calm {s0 : State} {a1 a2} (g2 : Calm s0 a2) : Calm s0 (lkPortReset a1 a2) := by
  unfold lkPortReset
  extract_lets +onlyGivenNames s1
  extract_lets +onlyGivenNames s2
  have h3 : Calm s0 s2 := by
    simp only [s2]
    exact Calm.upd g2 rfl
  clear_value s2
  refine keep_forEach (P := Calm s0) ?_ ?_
  · intro x4 x5 h6
    refine lkAbort_calm ?_
    refine updCoord_calm ?_
    exact h6
  · exact h3

theorem setTrim_calm {s0 : State} {a1 a2} (g2 : Calm s0 a2) : Calm s0 (setTrim a1 a2) := by
  unfold setTrim
  exact Calm.upd g2 rfl

theorem exchangeDone_calm {s0 : State} {a1 a2 a3} (g3 : Calm s0 a3) : Calm s0 (exchangeDone a1 a2 a3) := by
  unfold exchangeDone
  refine updLnk_calm ?_
  exact g3

theorem sendOn_calm {s0 : State} {a1 a2 a3} (g3 : Calm s0 a3) : Calm s0 (sendOn a1 a2 a3) := by
  unfold sendOn
  refine keep_dcond (P := Calm s0) (fun _ => ?_) (fun _ => ?_)
  · refine updLnk_calm ?_
    exact g3
  · exact g3

theorem sendDev_calm {s0 : State} {a1 a2 a3} (g3 : Calm s0 a3) : Calm s0 (sendDev a1 a2 a3) := by
  unfold sendDev
  split
  · refine sendOn_calm ?_
    exact g3
  · exact g3

theorem setStream_calm {s0 : State} {a1 a2 a3} (g3 : Calm s0 a3) : Calm s0 (setStream a1 a2 a3) := by
  unfold setStream
  exact Calm.upd g3 rfl

theorem peerOpen_calm {s0 : State} {a1 a2} (g2 : Calm s0 a2) : Calm s0 (peerOpen a1 a2) := by
  unfold peerOpen
  refine sendDev_calm ?_
  refine setStream_calm ?_
  exact g2

theorem sendPath_calm {s0 : State} {a1 a2 a3} (g3 : Calm s0 a3) : Calm s0 (sendPath a1 a2 a3) := by
  unfold sendPath
  split
  · refine sendOn_calm ?_
    exact g3
  · exact g3

theorem sendUp_calm {s0 : State} {a1 a2} (g2 : Calm s0 a2) : Calm s0 (sendUp a1 a2) := by
  unfold sendUp
  split
  · refine sendOn_calm ?_
    exact g2
  · exact g2

theorem peerClosed_calm {s0 : State} {a1 a2} (g2 : Calm s0 a2) : Calm s0 (peerClosed a1 a2) := by
  unfold peerClosed
  refine lkDeviceLost_calm ?_
  refine deviceLost_calm ?_
  refine setStream_calm ?_
  exact g2

theorem sendHello_calm {s0 : State} {a1 a2} (g2 : Calm s0 a2) : Calm s0 (sendHello a1 a2) := by
  unfold sendHello
  refine updLnk_calm ?_
  refine sendOn_calm ?_
  exact g2

theorem takeBlock_calm {s0 : State} {a1 a2 a3 a4 a5} (g5 : ∀ y1, Calm s0 y1 → Calm s0 (a5 y1)) (g4 : Calm s0 a4) : Calm s0 (takeBlock a1 a2 a3 a4 a5) := by
  unfold takeBlock
  refine keep_cond (P := Calm s0) (fun _ => ?_) (fun _ => ?_)
  · refine countStrand_calm ?_
    exact g4
  · refine keep_cond (P := Calm s0) (fun _ => ?_) (fun _ => ?_)
    · refine g5 _ ?_
      exact g4
    · exact g4

theorem countIdle_calm {s0 : State} {a1 a2 a3} (g3 : Calm s0 a3) : Calm s0 (countIdle a1 a2 a3) := by
  unfold countIdle
  refine countN_calm ?_
  refine countN_calm ?_
  exact g3

theorem laneSend_calm {s0 : State} {a1 a2 a3 a4} (g4 : Calm s0 a4) : Calm s0 (laneSend a1 a2 a3 a4) := by
  unfold laneSend
  extract_lets +onlyGivenNames x1
  clear_value x1
  split
  refine emit_calm ?_
  refine updPhy_calm ?_
  exact g4

theorem streamSend_calm {s0 : State} {a1 a2 a3} (g3 : Calm s0 a3) : Calm s0 (streamSend a1 a2 a3) := by
  unfold streamSend
  extract_lets +onlyGivenNames x1
  clear_value x1
  extract_lets +onlyGivenNames ls2
  clear_value ls2
  split
  · exact g3
  · extract_lets +onlyGivenNames s3
    have h4 : Calm s0 s3 := by
      simp only [s3]
      refine keep_cond (P := Calm s0) (fun _ => ?_) (fun _ => ?_)
      · refine laneSend_calm ?_
        exact g3
      · exact g3
    clear_value s3
    refine updPhy_calm ?_
    refine laneSend_calm ?_
    exact h4

theorem controlSend_calm {s0 : State} {a1 a2 a3} (g3 : Calm s0 a3) : Calm s0 (controlSend a1 a2 a3) := by
  unfold controlSend
  refine countIdle_calm ?_
  refine streamSend_calm ?_
  refine emit_calm ?_
  exact g3

theorem fillOne_calm {s0 : State} {a1 a2 a3} (g3 : Calm s0 a3) : Calm s0 (fillOne a1 a2 a3) := by
  unfold fillOne
  extract_lets +onlyGivenNames x1
  clear_value x1
  extract_lets +onlyGivenNames p2
  clear_value p2
  refine keep_whenB (P := Calm s0) ?_ ?_
  · intro x3 h4
    refine countIdle_calm ?_
    exact h4
  · refine laneSend_calm ?_
    exact g3

theorem levelLane_calm {s0 : State} {a1 a2 a3 a4} (g4 : Calm s0 a4) : Calm s0 (levelLane a1 a2 a3 a4) := by
  unfold levelLane
  refine keep_forEach (P := Calm s0) ?_ ?_
  · intro x1 x2 h3
    refine fillOne_calm ?_
    exact h3
  · exact g4

theorem levelLanes_calm {s0 : State} {a1 a2} (g2 : Calm s0 a2) : Calm s0 (levelLanes a1 a2) := by
  unfold levelLanes
  extract_lets +onlyGivenNames q1
  clear_value q1
  refine updPhy_calm ?_
  refine keep_forEach (P := Calm s0) ?_ ?_
  · intro x2 x3 h4
    refine levelLane_calm ?_
    exact h4
  · exact g2

theorem fillTo_calm {s0 : State} {a1 a2 a3 a4} (g4 : Calm s0 a4) : Calm s0 (fillTo a1 a2 a3 a4) := by
  unfold fillTo
  extract_lets +onlyGivenNames x1
  clear_value x1
  extract_lets +onlyGivenNames v2
  clear_value v2
  extract_lets +onlyGivenNames idle3
  clear_value idle3
  extract_lets +onlyGivenNames s4
  have h5 : Calm s0 s4 := by
    simp only [s4]
    refine emit_calm ?_
    refine updPhy_calm ?_
    exact g4
  clear_value s4
  refine countIdle_calm ?_
  exact h5

theorem alignLanes_calm {s0 : State} {a1 a2 a3} (g3 : Calm s0 a3) : Calm s0 (alignLanes a1 a2 a3) := by
  unfold alignLanes
  extract_lets +onlyGivenNames s1
  have h2 : Calm s0 s1 := by
    simp only [s1]
    refine levelLanes_calm ?_
    exact g3
  clear_value s1
  refine keep_cond (P := Calm s0) (fun _ => ?_) (fun _ => ?_)
  · exact h2
  · refine keep_forEach (P := Calm s0) ?_ ?_
    · intro x3 x4 h5
      refine fillTo_calm ?_
      exact h5
    · exact h2

theorem rowSend_calm {s0 : State} {a1 a2 a3} (g3 : Calm s0 a3) : Calm s0 (rowSend a1 a2 a3) := by
  unfold rowSend
  refine keep_forEach (P := Calm s0) ?_ ?_
  · intro x1 x2 h3
    refine laneSend_calm ?_
    exact h3
  · refine levelLanes_calm ?_
    exact g3

theorem containerBlocks_calm {s0 : State} {a1 a2 a3} (g3 : Calm s0 a3) : Calm s0 (containerBlocks a1 a2 a3) := by
  unfold containerBlocks
  refine keep_forEach (P := Calm s0) ?_ ?_
  · intro x1 x2 h3
    refine streamSend_calm ?_
    exact h3
  · exact g3

theorem noteAckTx_calm {s0 : State} {a1 a2} (g2 : Calm s0 a2) : Calm s0 (noteAckTx a1 a2) := by
  unfold noteAckTx
  refine updPhy_calm ?_
  exact g2

theorem trainOut_calm {s0 : State} {a1 a2} (g2 : Calm s0 a2) : Calm s0 (trainOut a1 a2) := by
  unfold trainOut
  split
  · refine rowSend_calm ?_
    exact g2
  · refine rowSend_calm ?_
    exact g2
  · refine rowSend_calm ?_
    exact g2
  · refine rowSend_calm ?_
    exact g2
  · refine rowSend_calm ?_
    exact g2
  · refine noteAckTx_calm ?_
    refine rowSend_calm ?_
    exact g2
  · exact g2

theorem sendMarker_calm {s0 : State} {a1 a2 a3} (g3 : Calm s0 a3) : Calm s0 (sendMarker a1 a2 a3) := by
  unfold sendMarker
  refine updPhy_calm ?_
  refine rowSend_calm ?_
  exact g3

theorem phyStage_calm {s0 : State} {a1 a2 a3} (g3 : Calm s0 a3) : Calm s0 (phyStage a1 a2 a3) := by
  unfold phyStage
  refine updPhy_calm ?_
  exact g3

theorem sessionStart_calm {s0 : State} {a1 a2} (g2 : Calm s0 a2) : Calm s0 (sessionStart a1 a2) := by
  unfold sessionStart
  refine keep_cond (P := Calm s0) (fun _ => ?_) (fun _ => ?_)
  · exact g2
  · extract_lets +onlyGivenNames s1
    have h2 : Calm s0 s1 := by
      simp only [s1]
      refine updLnk_calm ?_
      exact g2
    clear_value s1
    extract_lets +onlyGivenNames s3
    extract_lets +onlyGivenNames s4
    have h5 : Calm s0 s4 := by
      simp only [s4]
      refine updPort_calm ?_
      exact h2
    clear_value s4
    refine sendHello_calm ?_
    refine updPhy_calm ?_
    exact h5

theorem wasteUnacked_calm {s0 : State} {a1 a2} (g2 : Calm s0 a2) : Calm s0 (wasteUnacked a1 a2) := by
  unfold wasteUnacked
  refine countN_calm ?_
  exact g2

theorem reinject_calm {s0 : State} {a1 a2 a3} (g3 : Calm s0 a3) : Calm s0 (reinject a1 a2 a3) := by
  unfold reinject
  refine keep_forEach (P := Calm s0) ?_ ?_
  · intro x1 x2 h3
    refine updPort_calm ?_
    exact h3
  · exact g3

theorem phyModes_calm {s0 : State} {a1 a2} (g2 : Calm s0 a2) : Calm s0 (phyModes a1 a2) := by
  unfold phyModes
  extract_lets +onlyGivenNames c1
  clear_value c1
  refine updPhy_calm ?_
  exact g2

theorem rxFree_calm {s0 : State} {a1 a2 a3} (g3 : Calm s0 a3) : Calm s0 (rxFree a1 a2 a3) := by
  unfold rxFree
  refine updLnk_calm ?_
  exact g3

theorem clearTraffic_calm {s0 : State} {a1 a2} (g2 : Calm s0 a2) : Calm s0 (clearTraffic a1 a2) := by
  unfold clearTraffic
  extract_lets +onlyGivenNames x1
  clear_value x1
  extract_lets +onlyGivenNames s2
  have h3 : Calm s0 s2 := by
    simp only [s2]
    split
    · refine keep_forEach (P := Calm s0) ?_ ?_
      · intro x4 x5 h6
        refine rxFree_calm ?_
        exact h6
      · exact g2
    · exact g2
  clear_value s2
  refine updPort_calm ?_
  exact h3

theorem clearUnit_calm {s0 : State} {a1 a2} (g2 : Calm s0 a2) : Calm s0 (clearUnit a1 a2) := by
  unfold clearUnit
  extract_lets +onlyGivenNames x1
  clear_value x1
  refine updPort_calm ?_
  refine clearTraffic_calm ?_
  exact g2

theorem failoverEnd_calm {s0 : State} {a1 a2} (g2 : Calm s0 a2) : Calm s0 (failoverEnd a1 a2) := by
  unfold failoverEnd
  extract_lets +onlyGivenNames l1
  clear_value l1
  extract_lets +onlyGivenNames left2
  clear_value left2
  refine keep_cond (P := Calm s0) (fun _ => ?_) (fun _ => ?_)
  · exact g2
  · extract_lets +onlyGivenNames s3
    have h4 : Calm s0 s3 := by
      simp only [s3]
      refine updLnk_calm ?_
      exact g2
    clear_value s3
    refine keep_cond (P := Calm s0) (fun _ => ?_) (fun _ => ?_)
    · refine sessionStart_calm ?_
      exact h4
    · exact h4

theorem reqLost_calm {s0 : State} {a1 a2} (g2 : Calm s0 a2) : Calm s0 (reqLost a1 a2) := by
  unfold reqLost
  refine regSetBit_calm ?_
  exact g2

theorem phyRestart_calm {s0 : State} {a1 a2} (g2 : Calm s0 a2) : Calm s0 (phyRestart a1 a2) := by
  unfold phyRestart
  extract_lets +onlyGivenNames x1
  clear_value x1
  refine updPhy_calm ?_
  refine keep_whenB (P := Calm s0) ?_ ?_
  · intro x2 h3
    refine reqLost_calm ?_
    exact h3
  · exact g2

theorem phyRetrain_calm {s0 : State} {a1 a2} (g2 : Calm s0 a2) : Calm s0 (phyRetrain a1 a2) := by
  unfold phyRetrain
  refine trainOut_calm ?_
  refine phyModes_calm ?_
  refine phyStage_calm ?_
  refine phyRestart_calm ?_
  exact g2

theorem phyFail_calm {s0 : State} {a1 a2 a3} (g3 : Calm s0 a3) : Calm s0 (phyFail a1 a2 a3) := by
  unfold phyFail
  extract_lets +onlyGivenNames f1
  clear_value f1
  extract_lets +onlyGivenNames s2
  have h3 : Calm s0 s2 := by
    simp only [s2]
    refine updPhy_calm ?_
    refine phyRestart_calm ?_
    exact g3
  clear_value s2
  refine phyStage_calm ?_
  exact h3

theorem phyIdle_calm {s0 : State} {a1 a2} (g2 : Calm s0 a2) : Calm s0 (phyIdle a1 a2) := by
  unfold phyIdle
  extract_lets +onlyGivenNames go1
  clear_value go1
  extract_lets +onlyGivenNames s2
  have h3 : Calm s0 s2 := by
    simp only [s2]
    refine phyRestart_calm ?_
    exact g2
  clear_value s2
  refine phyStage_calm ?_
  refine updPhy_calm ?_
  exact h3

theorem portDisable_calm {s0 : State} {a1 a2} (g2 : Calm s0 a2) : Calm s0 (portDisable a1 a2) := by
  unfold portDisable
  refine clearTraffic_calm ?_
  refine updPort_calm ?_
  exact g2

theorem xInitDo_calm {s0 : State} {a1 a2 a3} (g3 : Calm s0 a3) : Calm s0 (xInitDo a1 a2 a3) := by
  unfold xInitDo
  refine updPort_calm ?_
  exact g3

theorem powerTo_calm {s0 : State} {a1 a2 a3} (g3 : Calm s0 a3) : Calm s0 (powerTo a1 a2 a3) := by
  unfold powerTo
  extract_lets +onlyGivenNames x1
  clear_value x1
  refine keep_cond (P := Calm s0) (fun _ => ?_) (fun _ => ?_)
  · refine updPort_calm ?_
    exact g3
  · refine updPort_calm ?_
    exact g3

theorem portFence_calm {s0 : State} {a1 a2} (g2 : Calm s0 a2) : Calm s0 (portFence a1 a2) := by
  unfold portFence
  extract_lets +onlyGivenNames s1
  have h2 : Calm s0 s1 := by
    simp only [s1]
    refine updPort_calm ?_
    exact g2
  clear_value s1
  refine powerTo_calm ?_
  exact h2

theorem portOpen_calm {s0 : State} {a1 a2} (g2 : Calm s0 a2) : Calm s0 (portOpen a1 a2) := by
  unfold portOpen
  refine regrant_calm ?_
  refine updPort_calm ?_
  exact g2

theorem portActivateDo_calm {s0 : State} {a1 a2} (g2 : Calm s0 a2) : Calm s0 (portActivateDo a1 a2) := by
  unfold portActivateDo
  extract_lets +onlyGivenNames s1
  have h2 : Calm s0 s1 := by
    simp only [s1]
    refine updPort_calm ?_
    exact g2
  clear_value s1
  extract_lets +onlyGivenNames x3
  clear_value x3
  extract_lets +onlyGivenNames tl4
  clear_value tl4
  refine keep_cond (P := Calm s0) (fun _ => ?_) (fun _ => ?_)
  · exact h2
  · extract_lets +onlyGivenNames s5
    have h6 : Calm s0 s5 := by
      simp only [s5]
      refine advanceTo_calm ?_
      exact h2
    clear_value s5
    refine keep_cond (P := Calm s0) (fun _ => ?_) (fun _ => ?_)
    · refine portFence_calm ?_
      exact h6
    · refine portOpen_calm ?_
      exact h6

theorem pwrAckDo_calm {s0 : State} {a1 a2} (g2 : Calm s0 a2) : Calm s0 (pwrAckDo a1 a2) := by
  unfold pwrAckDo
  refine keep_cond (P := Calm s0) (fun _ => ?_) (fun _ => ?_)
  · extract_lets +onlyGivenNames s1
    have h2 : Calm s0 s1 := by
      simp only [s1]
      refine updPort_calm ?_
      exact g2
    clear_value s1
    refine keep_cond (P := Calm s0) (fun _ => ?_) (fun _ => ?_)
    · refine clearTraffic_calm ?_
      exact h2
    · exact h2
  · exact g2

theorem setFence_calm {s0 : State} {a1 a2 a3} (g3 : Calm s0 a3) : Calm s0 (setFence a1 a2 a3) := by
  unfold setFence
  refine regPut_calm ?_
  exact g3

theorem powerUpDoneDo_calm {s0 : State} {a1 a2} (g2 : Calm s0 a2) : Calm s0 (powerUpDoneDo a1 a2) := by
  unfold powerUpDoneDo
  split
  · exact g2
  · refine keep_cond (P := Calm s0) (fun _ => ?_) (fun _ => ?_)
    · exact g2
    · extract_lets +onlyGivenNames s1
      have h2 : Calm s0 s1 := by
        simp only [s1]
        refine advanceTo_calm ?_
        exact g2
      clear_value s1
      refine keep_cond (P := Calm s0) (fun _ => ?_) (fun _ => ?_)
      · refine updPort_calm ?_
        exact h2
      · refine setFence_calm ?_
        refine updPort_calm ?_
        exact h2

theorem xArmDo_calm {s0 : State} {a1 a2 a3} (g3 : Calm s0 a3) : Calm s0 (xArmDo a1 a2 a3) := by
  unfold xArmDo
  refine updPort_calm ?_
  exact g3

theorem portSticky_calm {s0 : State} {a1 a2 a3} (g3 : Calm s0 a3) : Calm s0 (portSticky a1 a2 a3) := by
  unfold portSticky
  refine regSetBit_calm ?_
  exact g3

theorem abandon_calm {s0 : State} {a1 a2 a3} (g3 : Calm s0 a3) : Calm s0 (abandon a1 a2 a3) := by
  unfold abandon
  refine fabSend_calm ?_
  exact g3

theorem peerDownSteps_calm {s0 : State} {a1 a2 a3} (g3 : Calm s0 a3) : Calm s0 (peerDownSteps a1 a2 a3) := by
  unfold peerDownSteps
  refine keep_cond (P := Calm s0) (fun _ => ?_) (fun _ => ?_)
  · exact g3
  · extract_lets +onlyGivenNames bursts1
    clear_value bursts1
    extract_lets +onlyGivenNames crit2
    extract_lets +onlyGivenNames s3
    have h4 : Calm s0 s3 := by
      simp only [s3]
      refine updPort_calm ?_
      refine clearUnit_calm ?_
      exact g3
    clear_value s3
    extract_lets +onlyGivenNames s5
    have h6 : Calm s0 s5 := by
      simp only [s5]
      refine keep_forEach (P := Calm s0) ?_ ?_
      · intro x7 x8 h9
        refine abandon_calm ?_
        exact h9
      · exact h4
    clear_value s5
    extract_lets +onlyGivenNames s10
    have h11 : Calm s0 s10 := by
      simp only [s10]
      refine lkPortReset_calm ?_
      exact h6
    clear_value s10
    extract_lets +onlyGivenNames s12
    have h13 : Calm s0 s12 := by
      simp only [s12]
      refine keep_cond (P := Calm s0) (fun _ => ?_) (fun _ => ?_)
      · refine sendAgentLost_calm ?_
        exact h11
      · exact h11
    clear_value s12
    extract_lets +onlyGivenNames s14
    have h15 : Calm s0 s14 := by
      simp only [s14]
      refine updPort_calm ?_
      exact h13
    clear_value s14
    refine staleClear_calm ?_
    refine regSet_calm ?_
    exact h15

theorem peerDownDo_calm {s0 : State} {a1 a2 a3} (g3 : Calm s0 a3) : Calm s0 (peerDownDo a1 a2 a3) := by
  unfold peerDownDo
  refine keep_cond (P := Calm s0) (fun _ => ?_) (fun _ => ?_)
  · exact g3
  · refine portSticky_calm ?_
    refine peerDownSteps_calm ?_
    refine countPort_calm ?_
    exact g3

theorem xPeerDown_calm {s0 : State} {a1 a2 a3} (g3 : Calm s0 a3) : Calm s0 (xPeerDown a1 a2 a3) := by
  unfold xPeerDown
  extract_lets +onlyGivenNames s1
  have h2 : Calm s0 s1 := by
    simp only [s1]
    refine updPort_calm ?_
    exact g3
  clear_value s1
  split
  · refine peerDownDo_calm ?_
    exact h2
  · exact h2

theorem sidePass_calm {s0 : State} {a1 a2 a3 a4 a5} (g5 : Calm s0 a5) : Calm s0 (sidePass a1 a2 a3 a4 a5) := by
  unfold sidePass
  split
  · refine advanceTo_calm ?_
    exact g5
  · split
    · refine advanceTo_calm ?_
      exact g5
    · exact g5

theorem xAliveMissDo_calm {s0 : State} {a1 a2 a3} (g3 : Calm s0 a3) : Calm s0 (xAliveMissDo a1 a2 a3) := by
  unfold xAliveMissDo
  extract_lets +onlyGivenNames v1
  clear_value v1
  refine keep_cond (P := Calm s0) (fun _ => ?_) (fun _ => ?_)
  · refine xPeerDown_calm ?_
    refine sidePass_calm ?_
    exact g3
  · exact g3

theorem xRunDo_calm {s0 : State} {a1 a2 a3} (g3 : Calm s0 a3) : Calm s0 (xRunDo a1 a2 a3) := by
  unfold xRunDo
  extract_lets +onlyGivenNames v1
  clear_value v1
  extract_lets +onlyGivenNames o2
  clear_value o2
  refine keep_cond (P := Calm s0) (fun _ => ?_) (fun _ => ?_)
  · extract_lets +onlyGivenNames s3
    have h4 : Calm s0 s3 := by
      simp only [s3]
      refine sidePass_calm ?_
      exact g3
    clear_value s3
    refine updPort_calm ?_
    exact h4
  · exact g3

theorem pwrNoackDo_calm {s0 : State} {a1 a2} (g2 : Calm s0 a2) : Calm s0 (pwrNoackDo a1 a2) := by
  unfold pwrNoackDo
  split
  · exact g2
  · refine portSticky_calm ?_
    refine updPort_calm ?_
    refine advanceTo_calm ?_
    exact g2

theorem isolationReport_calm {s0 : State} {a1 a2} (g2 : Calm s0 a2) : Calm s0 (isolationReport a1 a2) := by
  unfold isolationReport
  refine keep_forEach (P := Calm s0) ?_ ?_
  · intro x1 x2 h3
    refine sendAgentLost_calm ?_
    exact h3
  · exact g2

theorem portIsolate_calm {s0 : State} {a1 a2} (g2 : Calm s0 a2) : Calm s0 (portIsolate a1 a2) := by
  unfold portIsolate
  refine lkPortReset_calm ?_
  refine updPort_calm ?_
  refine clearTraffic_calm ?_
  exact g2

theorem portWave_calm {s0 : State} {a1 a2} (g2 : Calm s0 a2) : Calm s0 (portWave a1 a2) := by
  unfold portWave
  refine keep_cond (P := Calm s0) (fun _ => ?_) (fun _ => ?_)
  · refine updPort_calm ?_
    exact g2
  · exact g2

theorem fenceStuckDo_calm {s0 : State} {a1 a2} (g2 : Calm s0 a2) : Calm s0 (fenceStuckDo a1 a2) := by
  unfold fenceStuckDo
  refine keep_cond (P := Calm s0) (fun _ => ?_) (fun _ => ?_)
  · refine portSticky_calm ?_
    refine updPort_calm ?_
    refine advanceTo_calm ?_
    exact g2
  · exact g2

theorem xRdyLowDo_calm {s0 : State} {a1 a2 a3} (g3 : Calm s0 a3) : Calm s0 (xRdyLowDo a1 a2 a3) := by
  unfold xRdyLowDo
  extract_lets +onlyGivenNames v1
  clear_value v1
  extract_lets +onlyGivenNames o2
  clear_value o2
  refine keep_cond (P := Calm s0) (fun _ => ?_) (fun _ => ?_)
  · exact g3
  · extract_lets +onlyGivenNames s3
    have h4 : Calm s0 s3 := by
      simp only [s3]
      refine keep_cond (P := Calm s0) (fun _ => ?_) (fun _ => ?_)
      · refine updPort_calm ?_
        exact g3
      · exact g3
    clear_value s3
    extract_lets +onlyGivenNames s5
    have h6 : Calm s0 s5 := by
      simp only [s5]
      refine updPort_calm ?_
      exact h4
    clear_value s5
    split
    · refine peerDownDo_calm ?_
      exact h6
    · exact h6

theorem portReturn_calm {s0 : State} {a1 a2} (g2 : Calm s0 a2) : Calm s0 (portReturn a1 a2) := by
  unfold portReturn
  refine keep_cond (P := Calm s0) (fun _ => ?_) (fun _ => ?_)
  · refine updPort_calm ?_
    exact g2
  · exact g2

theorem fenceWrite_calm {s0 : State} {a1 a2 a3 a4} (g4 : Calm s0 a4) : Calm s0 (fenceWrite a1 a2 a3 a4) := by
  unfold fenceWrite
  extract_lets +onlyGivenNames x1
  clear_value x1
  refine keep_cond (P := Calm s0) (fun _ => ?_) (fun _ => ?_)
  · extract_lets +onlyGivenNames c2
    clear_value c2
    extract_lets +onlyGivenNames s3
    have h4 : Calm s0 s3 := by
      simp only [s3]
      refine updPort_calm ?_
      exact g4
    clear_value s3
    refine keep_cond (P := Calm s0) (fun _ => ?_) (fun _ => ?_)
    · refine setFence_calm ?_
      refine updPort_calm ?_
      exact h4
    · refine setFence_calm ?_
      exact h4
  · split
    · refine setFence_calm ?_
      refine updPort_calm ?_
      exact g4
    · refine setFence_calm ?_
      exact g4
    · refine setFence_calm ?_
      exact g4

theorem fenceDrainedDo_calm {s0 : State} {a1 a2} (g2 : Calm s0 a2) : Calm s0 (fenceDrainedDo a1 a2) := by
  unfold fenceDrainedDo
  extract_lets +onlyGivenNames x1
  clear_value x1
  refine keep_cond (P := Calm s0) (fun _ => ?_) (fun _ => ?_)
  · refine portFence_calm ?_
    exact g2
  · exact g2

theorem tileCmdRej_calm {s0 : State} {a1 a2} (g2 : Calm s0 a2) : Calm s0 (tileCmdRej a1 a2) := by
  unfold tileCmdRej
  refine regSetBit_calm ?_
  exact g2

theorem tileEv_calm {s0 : State} {a1 a2 a3 a4 a5} (g5 : Calm s0 a5) : Calm s0 (tileEv a1 a2 a3 a4 a5) := by
  unfold tileEv
  refine countTile_calm ?_
  exact g5

theorem countSlot_calm {s0 : State} {a1 a2 a3 a4 a5} (g5 : Calm s0 a5) : Calm s0 (countSlot a1 a2 a3 a4 a5) := by
  unfold countSlot
  refine countLate_calm ?_
  exact g5

theorem strandOffer_calm {s0 : State} {a1 a2 a3 a4} (g4 : Calm s0 a4) : Calm s0 (strandOffer a1 a2 a3 a4) := by
  unfold strandOffer
  generalize hp2 : @gtTest _ _ _ = p1
  have h3 : Calm s0 p1.2.2 := by
    rw [← hp2]
    refine gtTest_calm ?_
    refine useCredit_calm ?_
    exact g4
  clear hp2
  revert p1
  rintro ⟨v4, v5, s6⟩ h7
  replace h7 : Calm s0 s6 := h7
  dsimp -zeta only
  refine enqueue_calm ?_
  refine countPort_calm ?_
  exact h7

theorem injStarve_calm {s0 : State} {a1 a2 a3 a4 a5} (g5 : Calm s0 a5) : Calm s0 (injStarve a1 a2 a3 a4 a5) := by
  unfold injStarve
  extract_lets +onlyGivenNames k1
  clear_value k1
  extract_lets +onlyGivenNames step2
  clear_value step2
  refine updPort_calm ?_
  exact g5

theorem countPortN_calm {s0 : State} {a1 a2 a3 a4} (g4 : Calm s0 a4) : Calm s0 (countPortN a1 a2 a3 a4) := by
  unfold countPortN
  refine keep_cond (P := Calm s0) (fun _ => ?_) (fun _ => ?_)
  · exact g4
  · refine countN_calm ?_
    exact g4

theorem noteInfl_calm {s0 : State} {a1 a2 a3} (g3 : Calm s0 a3) : Calm s0 (noteInfl a1 a2 a3) := by
  unfold noteInfl
  extract_lets +onlyGivenNames f1
  clear_value f1
  refine keep_cond (P := Calm s0) (fun _ => ?_) (fun _ => ?_)
  · exact g3
  · split
    · refine updPort_calm ?_
      exact g3
    · refine keep_cond (P := Calm s0) (fun _ => ?_) (fun _ => ?_)
      · refine updPort_calm ?_
        exact g3
      · exact g3
    · refine updPort_calm ?_
      exact g3
    · exact g3

theorem recredit_calm {s0 : State} {a1 a2} (g2 : Calm s0 a2) : Calm s0 (recredit a1 a2) := by
  unfold recredit
  refine keep_cond (P := Calm s0) (fun _ => ?_) (fun _ => ?_)
  · refine regrant_calm ?_
    exact g2
  · exact g2

theorem popQ_calm {s0 : State} {a1 a2 a3} (g3 : Calm s0 a3) : Calm s0 (popQ a1 a2 a3) := by
  unfold popQ
  refine updPort_calm ?_
  exact g3

theorem countHeld_calm {s0 : State} {a1 a2 a3} (g3 : Calm s0 a3) : Calm s0 (countHeld a1 a2 a3) := by
  unfold countHeld
  extract_lets +onlyGivenNames x1
  clear_value x1
  extract_lets +onlyGivenNames s2
  have h3 : Calm s0 s2 := by
    simp only [s2]
    refine keep_cond (P := Calm s0) (fun _ => ?_) (fun _ => ?_)
    · refine countPort_calm ?_
      refine updPort_calm ?_
      exact g3
    · exact g3
  clear_value s2
  extract_lets +onlyGivenNames s4
  have h5 : Calm s0 s4 := by
    simp only [s4]
    refine keep_cond (P := Calm s0) (fun _ => ?_) (fun _ => ?_)
    · refine countPort_calm ?_
      exact h3
    · exact h3
  clear_value s4
  refine keep_cond (P := Calm s0) (fun _ => ?_) (fun _ => ?_)
  · split
    · refine keep_dcond (P := Calm s0) (fun _ => ?_) (fun _ => ?_)
      · refine countStrand_calm ?_
        exact h5
      · exact h5
    · exact h5
  · exact h5

theorem stamp_calm {s0 : State} {a1 a2 a3} (g3 : Calm s0 a3) : Calm s0 (stamp a1 a2 a3).2.2 := by
  unfold stamp
  extract_lets +onlyGivenNames fwd1
  clear_value fwd1
  extract_lets +onlyGivenNames f2
  clear_value f2
  extract_lets +onlyGivenNames f3
  clear_value f3
  extract_lets +onlyGivenNames f4
  clear_value f4
  generalize hp6 : @gtTest _ _ _ = p5
  have h7 : Calm s0 p5.2.2 := by
    rw [← hp6]
    refine gtTest_calm ?_
    exact g3
  clear hp6
  revert p5
  rintro ⟨v8, v9, s10⟩ h11
  replace h11 : Calm s0 s10 := h11
  dsimp -zeta only
  extract_lets +onlyGivenNames f12
  clear_value f12
  refine keep_mk3 (P := Calm s0) ?_
  refine keep_cond2 (P := Calm s0) (fun _ => ?_) (fun _ => ?_)
  · refine drawSeq_calm ?_
    exact h11
  · refine keep_mk2 (P := Calm s0) ?_
    exact h11

theorem offerQueue_calm {s0 : State} {a1 a2 a3 a4 a5 a6} (g6 : Calm s0 a6) : Calm s0 (offerQueue a1 a2 a3 a4 a5 a6) := by
  unfold offerQueue
  refine enqueue_calm ?_
  exact g6

theorem acceptReq_calm {s0 : State} {a1 a2 a3} (g3 : Calm s0 a3) : Calm s0 (acceptReq a1 a2 a3) := by
  unfold acceptReq
  extract_lets +onlyGivenNames place1
  clear_value place1
  generalize hp3 : @stamp _ _ _ = p2
  have h4 : Calm s0 p2.2.2 := by
    rw [← hp3]
    refine stamp_calm ?_
    exact g3
  clear hp3
  revert p2
  rintro ⟨v5, v6, s7⟩ h8
  replace h8 : Calm s0 s7 := h8
  dsimp -zeta only
  extract_lets +onlyGivenNames tid9
  clear_value tid9
  refine keep_cond (P := Calm s0) (fun _ => ?_) (fun _ => ?_)
  · refine offerQueue_calm ?_
    refine updPort_calm ?_
    exact h8
  · split
    · exact h8
    · refine offerQueue_calm ?_
      refine updPort_calm ?_
      exact h8

theorem offerRsp_calm {s0 : State} {a1 a2 a3} (g3 : Calm s0 a3) : Calm s0 (offerRsp a1 a2 a3) := by
  unfold offerRsp
  extract_lets +onlyGivenNames place1
  clear_value place1
  extract_lets +onlyGivenNames s2
  have h3 : Calm s0 s2 := by
    simp only [s2]
    refine homeNote_calm ?_
    exact g3
  clear_value s2
  generalize hp5 : @stamp _ _ _ = p4
  have h6 : Calm s0 p4.2.2 := by
    rw [← hp5]
    refine stamp_calm ?_
    exact h3
  clear hp5
  revert p4
  rintro ⟨v7, v8, s9⟩ h10
  replace h10 : Calm s0 s9 := h10
  dsimp -zeta only
  refine offerQueue_calm ?_
  refine updPort_calm ?_
  exact h10

theorem offerSnp_calm {s0 : State} {a1 a2 a3} (g3 : Calm s0 a3) : Calm s0 (offerSnp a1 a2 a3) := by
  unfold offerSnp
  extract_lets +onlyGivenNames place1
  clear_value place1
  generalize hp3 : @stamp _ _ _ = p2
  have h4 : Calm s0 p2.2.2 := by
    rw [← hp3]
    refine stamp_calm ?_
    exact g3
  clear hp3
  revert p2
  rintro ⟨v5, v6, s7⟩ h8
  replace h8 : Calm s0 s7 := h8
  dsimp -zeta only
  refine offerQueue_calm ?_
  exact h8

theorem refuseReq_calm {s0 : State} {a1 a2 a3 a4} (g4 : Calm s0 a4) : Calm s0 (refuseReq a1 a2 a3 a4) := by
  unfold refuseReq
  refine stageRefused_calm ?_
  refine errToUnit_calm ?_
  exact g4

theorem toPath_calm {s0 : State} {a1 a2 a3} (g3 : Calm s0 a3) : Calm s0 (toPath a1 a2 a3) := by
  unfold toPath
  extract_lets +onlyGivenNames f1
  clear_value f1
  extract_lets +onlyGivenNames f2
  clear_value f2
  exact Calm.upd g3 rfl

theorem offerReq_calm {s0 : State} {a1 a2 a3} (g3 : Calm s0 a3) : Calm s0 (offerReq a1 a2 a3) := by
  unfold offerReq
  extract_lets +onlyGivenNames o1
  clear_value o1
  extract_lets +onlyGivenNames f2
  clear_value f2
  extract_lets +onlyGivenNames mem3
  clear_value mem3
  refine keep_cond (P := Calm s0) (fun _ => ?_) (fun _ => ?_)
  · split
    · refine refuseReq_calm ?_
      exact g3
    · extract_lets +onlyGivenNames f4
      clear_value f4
      extract_lets +onlyGivenNames echo5
      have h6 : ∀ y1, Calm s0 y1 → Calm s0 (echo5 y1) := by
        intro x7 h8
        simp only [echo5]
        refine countPort_calm ?_
        refine emit_calm ?_
        exact h8
      clear_value echo5
      refine keep_cond (P := Calm s0) (fun _ => ?_) (fun _ => ?_)
      · generalize hp10 : @lkStage _ _ _ = p9
        have h11 : Calm s0 p9.2 := by
          rw [← hp10]
          refine lkStage_calm ?_
          exact g3
        clear hp10
        revert p9
        rintro ⟨_ | v12, s13⟩ h14
        · replace h14 : Calm s0 s13 := h14
          dsimp -zeta only
          refine acceptReq_calm ?_
          refine h6 _ ?_
          exact h14
        · replace h14 : Calm s0 s13 := h14
          dsimp -zeta only
          refine errToUnit_calm ?_
          exact h14
      · refine acceptReq_calm ?_
        refine h6 _ ?_
        exact g3
  · refine keep_cond (P := Calm s0) (fun _ => ?_) (fun _ => ?_)
    · refine toPath_calm ?_
      exact g3
    · refine acceptReq_calm ?_
      exact g3

theorem companion_calm {s0 : State} {a1 a2 a3 a4 a5} (g5 : Calm s0 a5) : Calm s0 (companion a1 a2 a3 a4 a5) := by
  unfold companion
  extract_lets +onlyGivenNames place1
  clear_value place1
  extract_lets +onlyGivenNames base2
  clear_value base2
  extract_lets +onlyGivenNames f3
  clear_value f3
  generalize hp5 : @gtTest _ _ _ = p4
  have h6 : Calm s0 p4.2.2 := by
    rw [← hp5]
    refine gtTest_calm ?_
    exact g5
  clear hp5
  revert p4
  rintro ⟨v7, v8, s9⟩ h10
  replace h10 : Calm s0 s9 := h10
  dsimp -zeta only
  refine offerQueue_calm ?_
  exact h10

theorem offerDat_calm {s0 : State} {a1 a2 a3} (g3 : Calm s0 a3) : Calm s0 (offerDat a1 a2 a3) := by
  unfold offerDat
  extract_lets +onlyGivenNames x1
  clear_value x1
  split
  · refine companion_calm ?_
    refine updPort_calm ?_
    exact g3
  · split
    · refine keep_cond (P := Calm s0) (fun _ => ?_) (fun _ => ?_)
      · refine countPort_calm ?_
        exact g3
      · extract_lets +onlyGivenNames e2
        clear_value e2
        refine companion_calm ?_
        refine updPort_calm ?_
        exact g3
    · refine keep_cond (P := Calm s0) (fun _ => ?_) (fun _ => ?_)
      · exact g3
      · refine countPort_calm ?_
        exact g3

theorem freeCredit_calm {s0 : State} {a1 a2 a3} (g3 : Calm s0 a3) : Calm s0 (freeCredit a1 a2 a3) := by
  unfold freeCredit
  refine keep_cond (P := Calm s0) (fun _ => ?_) (fun _ => ?_)
  · refine setEjCredit_calm ?_
    exact g3
  · exact g3

theorem orphan_calm {s0 : State} {a1 a2} (g2 : Calm s0 a2) : Calm s0 (orphan a1 a2) := by
  unfold orphan
  refine countPort_calm ?_
  exact g2

theorem dropEntry_calm {s0 : State} {a1 a2 a3} (g3 : Calm s0 a3) : Calm s0 (dropEntry a1 a2 a3) := by
  unfold dropEntry
  refine recredit_calm ?_
  refine updPort_calm ?_
  exact g3

theorem putEntry_calm {s0 : State} {a1 a2 a3 a4} (g4 : Calm s0 a4) : Calm s0 (putEntry a1 a2 a3 a4) := by
  unfold putEntry
  refine updPort_calm ?_
  exact g4

theorem keepGhost_calm {s0 : State} {a1 a2 a3 a4} (g4 : Calm s0 a4) : Calm s0 (keepGhost a1 a2 a3 a4) := by
  unfold keepGhost
  refine keep_cond (P := Calm s0) (fun _ => ?_) (fun _ => ?_)
  · refine dropEntry_calm ?_
    exact g4
  · refine putEntry_calm ?_
    exact g4

theorem toGhost_calm {s0 : State} {a1 a2 a3 a4} (g4 : Calm s0 a4) : Calm s0 (toGhost a1 a2 a3 a4) := by
  unfold toGhost
  refine keepGhost_calm ?_
  exact g4

theorem tryCollected_calm {s0 : State} {a1 a2 a3 a4} (g4 : Calm s0 a4) : Calm s0 (tryCollected a1 a2 a3 a4) := by
  unfold tryCollected
  split
  · refine putEntry_calm ?_
    exact g4
  · refine keep_cond (P := Calm s0) (fun _ => ?_) (fun _ => ?_)
    · refine putEntry_calm ?_
      exact g4
    · extract_lets +onlyGivenNames bad1
      clear_value bad1
      extract_lets +onlyGivenNames r2
      clear_value r2
      extract_lets +onlyGivenNames lines3
      clear_value lines3
      refine toGhost_calm ?_
      refine keep_forEach (P := Calm s0) ?_ ?_
      · intro x4 x5 h6
        refine deliver_calm ?_
        exact h6
      · refine keep_cond (P := Calm s0) (fun _ => ?_) (fun _ => ?_)
        · exact g4
        · refine deliver_calm ?_
          exact g4

theorem entryLine_calm {s0 : State} {a1 a2 a3 a4 a5} (g5 : Calm s0 a5) : Calm s0 (entryLine a1 a2 a3 a4 a5) := by
  unfold entryLine
  extract_lets +onlyGivenNames e1
  clear_value e1
  extract_lets +onlyGivenNames bit2
  clear_value bit2
  extract_lets +onlyGivenNames psn3
  clear_value psn3
  refine keep_cond (P := Calm s0) (fun _ => ?_) (fun _ => ?_)
  · refine keepGhost_calm ?_
    refine freeCredit_calm ?_
    refine orphan_calm ?_
    exact g5
  · refine keep_cond (P := Calm s0) (fun _ => ?_) (fun _ => ?_)
    · extract_lets +onlyGivenNames e4
      clear_value e4
      extract_lets +onlyGivenNames s5
      have h6 : Calm s0 s5 := by
        simp only [s5]
        refine deliver_calm ?_
        exact g5
      clear_value s5
      refine keep_cond (P := Calm s0) (fun _ => ?_) (fun _ => ?_)
      · refine dropEntry_calm ?_
        exact h6
      · refine putEntry_calm ?_
        exact h6
    · refine keep_cond (P := Calm s0) (fun _ => ?_) (fun _ => ?_)
      · refine putEntry_calm ?_
        refine freeCredit_calm ?_
        refine orphan_calm ?_
        exact g5
      · refine tryCollected_calm ?_
        exact g5

theorem lineIn_calm {s0 : State} {a1 a2 a3} (g3 : Calm s0 a3) : Calm s0 (lineIn a1 a2 a3) := by
  unfold lineIn
  refine keep_cond (P := Calm s0) (fun _ => ?_) (fun _ => ?_)
  · refine deliver_calm ?_
    exact g3
  · split
    · refine entryLine_calm ?_
      exact g3
    · refine deliver_calm ?_
      exact g3

theorem paired_calm {s0 : State} {a1 a2 a3 a4} (g4 : Calm s0 a4) : Calm s0 (paired a1 a2 a3 a4) := by
  unfold paired
  refine lineIn_calm ?_
  refine countPort_calm ?_
  exact g4

theorem pairNow_calm {s0 : State} {a1 a2 a3 a4} (g4 : Calm s0 a4) : Calm s0 (pairNow a1 a2 a3 a4) := by
  unfold pairNow
  extract_lets +onlyGivenNames s1
  have h2 : Calm s0 s1 := by
    simp only [s1]
    refine updPort_calm ?_
    exact g4
  clear_value s1
  refine keep_cond (P := Calm s0) (fun _ => ?_) (fun _ => ?_)
  · refine freeCredit_calm ?_
    refine keep_cond (P := Calm s0) (fun _ => ?_) (fun _ => ?_)
    · refine orphan_calm ?_
      exact h2
    · exact h2
  · refine paired_calm ?_
    exact h2

theorem awaitPairs_calm {s0 : State} {a1 a2 a3 a4} (g4 : Calm s0 a4) : Calm s0 (awaitPairs a1 a2 a3 a4) := by
  unfold awaitPairs
  refine keep_cond (P := Calm s0) (fun _ => ?_) (fun _ => ?_)
  · exact g4
  · extract_lets +onlyGivenNames s1
    have h2 : Calm s0 s1 := by
      simp only [s1]
      refine updPort_calm ?_
      exact g4
    clear_value s1
    refine keep_forEach (P := Calm s0) ?_ ?_
    · intro x3 x4 h5
      split
      · refine pairNow_calm ?_
        refine updPort_calm ?_
        exact h5
      · exact h5
    · exact h2

theorem fenceReq_calm {s0 : State} {a1 a2 a3} (g3 : Calm s0 a3) : Calm s0 (fenceReq a1 a2 a3) := by
  unfold fenceReq
  extract_lets +onlyGivenNames s1
  have h2 : Calm s0 s1 := by
    simp only [s1]
    refine freeCredit_calm ?_
    exact g3
  clear_value s1
  refine keep_cond (P := Calm s0) (fun _ => ?_) (fun _ => ?_)
  · exact h2
  · extract_lets +onlyGivenNames s3
    have h4 : Calm s0 s3 := by
      simp only [s3]
      refine answerFrom_calm ?_
      refine countPort_calm ?_
      exact h2
    clear_value s3
    refine keep_cond (P := Calm s0) (fun _ => ?_) (fun _ => ?_)
    · exact h4
    · refine keep_cond (P := Calm s0) (fun _ => ?_) (fun _ => ?_)
      · refine awaitPairs_calm ?_
        exact h4
      · extract_lets +onlyGivenNames a5
        clear_value a5
        refine updPort_calm ?_
        exact h4

theorem resetRsp_calm {s0 : State} {a1 a2 a3} (g3 : Calm s0 a3) : Calm s0 (resetRsp a1 a2 a3) := by
  unfold resetRsp
  refine keep_cond (P := Calm s0) (fun _ => ?_) (fun _ => ?_)
  · refine orphan_calm ?_
    refine updPort_calm ?_
    exact g3
  · refine keep_cond (P := Calm s0) (fun _ => ?_) (fun _ => ?_)
    · refine orphan_calm ?_
      exact g3
    · exact g3

theorem popGt_calm {s0 : State} {a1 a2 a3} (g3 : Calm s0 a3) : Calm s0 (popGt a1 a2 a3) := by
  unfold popGt
  refine updPort_calm ?_
  exact g3

theorem snoopAnswer_calm {s0 : State} {a1 a2 a3} (g3 : Calm s0 a3) : Calm s0 (snoopAnswer a1 a2 a3) := by
  unfold snoopAnswer
  refine keep_cond (P := Calm s0) (fun _ => ?_) (fun _ => ?_)
  · exact g3
  · refine fabSend_calm ?_
    exact g3

theorem transitIn_calm {s0 : State} {a1 a2 a3} (g3 : Calm s0 a3) : Calm s0 (transitIn a1 a2 a3) := by
  unfold transitIn
  split
  · refine pairNow_calm ?_
    exact g3
  · refine updPort_calm ?_
    exact g3

theorem demoteKin_calm {s0 : State} {a1 a2 a3} (g3 : Calm s0 a3) : Calm s0 (demoteKin a1 a2 a3) := by
  unfold demoteKin
  extract_lets +onlyGivenNames kin1
  clear_value kin1
  extract_lets +onlyGivenNames toLl2
  clear_value toLl2
  extract_lets +onlyGivenNames s3
  have h4 : Calm s0 s3 := by
    simp only [s3]
    refine updPort_calm ?_
    exact g3
  clear_value s3
  refine keep_forEach (P := Calm s0) ?_ ?_
  · intro x5 x6 h7
    extract_lets +onlyGivenNames f8
    clear_value f8
    refine enqueue_calm ?_
    refine countPort_calm ?_
    exact h7
  · exact h4

theorem rehome_calm {s0 : State} {a1 a2 a3} (g3 : Calm s0 a3) : Calm s0 (rehome a1 a2 a3) := by
  unfold rehome
  extract_lets +onlyGivenNames lost1
  clear_value lost1
  refine keep_cond (P := Calm s0) (fun _ => ?_) (fun _ => ?_)
  · exact g3
  · extract_lets +onlyGivenNames s2
    have h3 : Calm s0 s2 := by
      simp only [s2]
      refine updPort_calm ?_
      exact g3
    clear_value s2
    refine keep_forEach (P := Calm s0) ?_ ?_
    · intro x4 x5 h6
      generalize hp8 : @gtTest _ _ _ = p7
      have h9 : Calm s0 p7.2.2 := by
        rw [← hp8]
        refine gtTest_calm ?_
        exact h6
      clear hp8
      revert p7
      rintro ⟨v10, v11, s12⟩ h13
      replace h13 : Calm s0 s12 := h13
      dsimp -zeta only
      extract_lets +onlyGivenNames s14
      have h15 : Calm s0 s14 := by
        simp only [s14]
        split
        · refine keep_cond (P := Calm s0) (fun _ => ?_) (fun _ => ?_)
          · refine demoteKin_calm ?_
            exact h13
          · exact h13
        · exact h13
      clear_value s14
      refine enqueue_calm ?_
      exact h15
    · exact h3

theorem letGo_calm {s0 : State} {a1 a2 a3} (g3 : Calm s0 a3) : Calm s0 (letGo a1 a2 a3) := by
  unfold letGo
  refine keep_forEach (P := Calm s0) ?_ ?_
  · intro x1 x2 h3
    refine freeCredit_calm ?_
    refine orphan_calm ?_
    exact h3
  · exact g3

theorem reportStage_calm {s0 : State} {a1 a2 a3} (g3 : Calm s0 a3) : Calm s0 (reportStage a1 a2 a3) := by
  unfold reportStage
  refine keep_cond (P := Calm s0) (fun _ => ?_) (fun _ => ?_)
  · exact g3
  · extract_lets +onlyGivenNames cause1
    clear_value cause1
    refine stageReport_calm ?_
    exact g3

theorem entryRsp_calm {s0 : State} {a1 a2 a3 a4 a5} (g5 : Calm s0 a5) : Calm s0 (entryRsp a1 a2 a3 a4 a5) := by
  unfold entryRsp
  extract_lets +onlyGivenNames m1
  clear_value m1
  extract_lets +onlyGivenNames e2
  clear_value e2
  refine keep_cond (P := Calm s0) (fun _ => ?_) (fun _ => ?_)
  · refine keepGhost_calm ?_
    refine freeCredit_calm ?_
    refine orphan_calm ?_
    exact g5
  · refine keep_cond (P := Calm s0) (fun _ => ?_) (fun _ => ?_)
    · extract_lets +onlyGivenNames s3
      have h4 : Calm s0 s3 := by
        simp only [s3]
        refine reportStage_calm ?_
        refine deliver_calm ?_
        exact g5
      clear_value s3
      extract_lets +onlyGivenNames e5
      clear_value e5
      refine keep_cond (P := Calm s0) (fun _ => ?_) (fun _ => ?_)
      · refine dropEntry_calm ?_
        exact h4
      · refine putEntry_calm ?_
        exact h4
    · refine keep_cond (P := Calm s0) (fun _ => ?_) (fun _ => ?_)
      · refine putEntry_calm ?_
        refine freeCredit_calm ?_
        refine orphan_calm ?_
        exact g5
      · refine keep_cond (P := Calm s0) (fun _ => ?_) (fun _ => ?_)
        · refine toGhost_calm ?_
          refine letGo_calm ?_
          refine deliver_calm ?_
          exact g5
        · refine tryCollected_calm ?_
          exact g5

theorem strandIn_calm {s0 : State} {a1 a2 a3} (g3 : Calm s0 a3) : Calm s0 (strandIn a1 a2 a3) := by
  unfold strandIn
  extract_lets +onlyGivenNames f1
  clear_value f1
  refine keep_cond (P := Calm s0) (fun _ => ?_) (fun _ => ?_)
  · refine reinject_calm ?_
    exact g3
  · extract_lets +onlyGivenNames buf2
    clear_value buf2
    extract_lets +onlyGivenNames k3
    clear_value k3
    extract_lets +onlyGivenNames left4
    clear_value left4
    refine updLnk_calm ?_
    exact g3

theorem reqIn_calm {s0 : State} {a1 a2 a3} (g3 : Calm s0 a3) : Calm s0 (reqIn a1 a2 a3) := by
  unfold reqIn
  refine keep_cond (P := Calm s0) (fun _ => ?_) (fun _ => ?_)
  · refine fenceReq_calm ?_
    exact g3
  · refine keep_cond (P := Calm s0) (fun _ => ?_) (fun _ => ?_)
    · refine freeCredit_calm ?_
      refine updPort_calm ?_
      exact g3
    · extract_lets +onlyGivenNames s1
      have h2 : Calm s0 s1 := by
        simp only [s1]
        refine updPort_calm ?_
        exact g3
      clear_value s1
      refine awaitPairs_calm ?_
      refine deliver_calm ?_
      exact h2

theorem rspIn_calm {s0 : State} {a1 a2 a3} (g3 : Calm s0 a3) : Calm s0 (rspIn a1 a2 a3) := by
  unfold rspIn
  refine keep_cond (P := Calm s0) (fun _ => ?_) (fun _ => ?_)
  · extract_lets +onlyGivenNames s1
    have h2 : Calm s0 s1 := by
      simp only [s1]
      refine updPort_calm ?_
      exact g3
    clear_value s1
    refine awaitPairs_calm ?_
    refine freeCredit_calm ?_
    refine orphan_calm ?_
    exact h2
  · refine keep_cond (P := Calm s0) (fun _ => ?_) (fun _ => ?_)
    · refine awaitPairs_calm ?_
      refine deliver_calm ?_
      refine updPort_calm ?_
      exact g3
    · split
      · refine awaitPairs_calm ?_
        refine entryRsp_calm ?_
        exact g3
      · refine awaitPairs_calm ?_
        refine deliver_calm ?_
        exact g3

theorem datIn_calm {s0 : State} {a1 a2 a3} (g3 : Calm s0 a3) : Calm s0 (datIn a1 a2 a3) := by
  unfold datIn
  extract_lets +onlyGivenNames x1
  clear_value x1
  refine keep_cond (P := Calm s0) (fun _ => ?_) (fun _ => ?_)
  · refine keep_cond (P := Calm s0) (fun _ => ?_) (fun _ => ?_)
    · refine freeCredit_calm ?_
      refine orphan_calm ?_
      exact g3
    · split
      · refine freeCredit_calm ?_
        refine updPort_calm ?_
        exact g3
      · refine deliver_calm ?_
        exact g3
  · refine keep_cond (P := Calm s0) (fun _ => ?_) (fun _ => ?_)
    · refine freeCredit_calm ?_
      refine orphan_calm ?_
      exact g3
    · refine lineIn_calm ?_
      exact g3

theorem unitIn_calm {s0 : State} {a1 a2 a3} (g3 : Calm s0 a3) : Calm s0 (unitIn a1 a2 a3) := by
  unfold unitIn
  extract_lets +onlyGivenNames x1
  clear_value x1
  refine keep_cond (P := Calm s0) (fun _ => ?_) (fun _ => ?_)
  · refine freeCredit_calm ?_
    exact Calm.upd g3 rfl
  · refine keep_cond (P := Calm s0) (fun _ => ?_) (fun _ => ?_)
    · refine lkErr_calm ?_
      refine freeCredit_calm ?_
      exact g3
    · refine keep_cond (P := Calm s0) (fun _ => ?_) (fun _ => ?_)
      · split
        · refine reqIn_calm ?_
          exact g3
        · refine rspIn_calm ?_
          exact g3
        · refine deliver_calm ?_
          exact g3
        · refine keep_cond (P := Calm s0) (fun _ => ?_) (fun _ => ?_)
          · refine transitIn_calm ?_
            exact g3
          · refine datIn_calm ?_
            exact g3
      · split
        · refine fenceReq_calm ?_
          exact g3
        · refine keep_cond (P := Calm s0) (fun _ => ?_) (fun _ => ?_)
          · refine snoopAnswer_calm ?_
            exact g3
          · exact g3
        · refine keep_cond (P := Calm s0) (fun _ => ?_) (fun _ => ?_)
          · refine resetRsp_calm ?_
            exact g3
          · exact g3
        · refine keep_cond (P := Calm s0) (fun _ => ?_) (fun _ => ?_)
          · refine orphan_calm ?_
            exact g3
          · exact g3

theorem pairTimeoutDo_calm {s0 : State} {a1 a2} (g2 : Calm s0 a2) : Calm s0 (pairTimeoutDo a1 a2) := by
  unfold pairTimeoutDo
  split
  · exact g2
  · refine freeCredit_calm ?_
    refine orphan_calm ?_
    refine updPort_calm ?_
    refine advanceTo_calm ?_
    exact g2

theorem reissueDo_calm {s0 : State} {a1 a2 a3 a4} (g4 : Calm s0 a4) : Calm s0 (reissueDo a1 a2 a3 a4) := by
  unfold reissueDo
  generalize hp2 : @gtTest _ _ _ = p1
  have h3 : Calm s0 p1.2.2 := by
    rw [← hp2]
    refine gtTest_calm ?_
    exact g4
  clear hp2
  revert p1
  rintro ⟨v4, v5, s6⟩ h7
  replace h7 : Calm s0 s6 := h7
  dsimp -zeta only
  extract_lets +onlyGivenNames f8
  clear_value f8
  extract_lets +onlyGivenNames f9
  clear_value f9
  extract_lets +onlyGivenNames e10
  clear_value e10
  refine enqueue_calm ?_
  refine putEntry_calm ?_
  refine countPort_calm ?_
  refine keep_cond2 (P := Calm s0) (fun _ => ?_) (fun _ => ?_)
  · refine drawSeq_calm ?_
    exact h7
  · refine keep_mk2 (P := Calm s0) ?_
    exact h7

theorem ghostEndDo_calm {s0 : State} {a1 a2 a3} (g3 : Calm s0 a3) : Calm s0 (ghostEndDo a1 a2 a3) := by
  unfold ghostEndDo
  split
  · exact g3
  · split
    · exact g3
    · refine dropEntry_calm ?_
      refine advanceTo_calm ?_
      exact g3

theorem lctlSend_calm {s0 : State} {a1 a2 a3} (g3 : Calm s0 a3) : Calm s0 (lctlSend a1 a2 a3) := by
  unfold lctlSend
  extract_lets +onlyGivenNames rid1
  clear_value rid1
  extract_lets +onlyGivenNames r2
  clear_value r2
  refine controlSend_calm ?_
  refine updPhy_calm ?_
  exact g3

theorem lctlPump_calm {s0 : State} {a1 a2} (g2 : Calm s0 a2) : Calm s0 (lctlPump a1 a2) := by
  unfold lctlPump
  extract_lets +onlyGivenNames x1
  clear_value x1
  refine keep_cond (P := Calm s0) (fun _ => ?_) (fun _ => ?_)
  · exact g2
  · extract_lets +onlyGivenNames s2
    have h3 : Calm s0 s2 := by
      simp only [s2]
      refine updPhy_calm ?_
      exact g2
    clear_value s2
    split
    · refine lctlSend_calm ?_
      refine updPhy_calm ?_
      exact h3
    · refine keep_cond (P := Calm s0) (fun _ => ?_) (fun _ => ?_)
      · refine lctlSend_calm ?_
        refine updPhy_calm ?_
        exact h3
      · exact h3
    · exact h3

theorem inStage_calm {s0 : State} {a1 a2 a3 a4} (g3 : ∀ y1, Calm s0 y1 → Calm s0 (a3 y1)) (g4 : Calm s0 a4) : Calm s0 (inStage a1 a2 a3 a4) := by
  unfold inStage
  refine keep_cond (P := Calm s0) (fun _ => ?_) (fun _ => ?_)
  · refine trainOut_calm ?_
    refine g3 _ ?_
    exact g4
  · exact g4

theorem presetDo_calm {s0 : State} {a1 a2} (g2 : Calm s0 a2) : Calm s0 (presetDo a1 a2) := by
  unfold presetDo
  refine keep_cond (P := Calm s0) (fun _ => ?_) (fun _ => ?_)
  · refine inStage_calm ?_ ?_
    · intro x1 h2
      refine phyStage_calm ?_
      exact h2
    · exact g2
  · exact g2

theorem calDo_calm {s0 : State} {a1 a2} (g2 : Calm s0 a2) : Calm s0 (calDo a1 a2) := by
  unfold calDo
  extract_lets +onlyGivenNames x1
  clear_value x1
  refine keep_cond (P := Calm s0) (fun _ => ?_) (fun _ => ?_)
  · exact g2
  · extract_lets +onlyGivenNames s2
    have h3 : Calm s0 s2 := by
      simp only [s2]
      refine advanceTo_calm ?_
      exact g2
    clear_value s2
    extract_lets +onlyGivenNames p4
    clear_value p4
    extract_lets +onlyGivenNames s5
    have h6 : Calm s0 s5 := by
      simp only [s5]
      split
      · refine alignLanes_calm ?_
        exact h3
      · refine alignLanes_calm ?_
        refine sendMarker_calm ?_
        refine alignLanes_calm ?_
        exact h3
    clear_value s5
    refine rowSend_calm ?_
    refine updPhy_calm ?_
    exact h6

theorem setPrsnt_calm {s0 : State} {a1 a2 a3} (g3 : Calm s0 a3) : Calm s0 (setPrsnt a1 a2 a3) := by
  unfold setPrsnt
  exact Calm.upd g3 rfl

theorem burstNow_calm {s0 : State} {a1 a2} (g2 : Calm s0 a2) : Calm s0 (burstNow a1 a2) := by
  unfold burstNow
  extract_lets +onlyGivenNames s1
  have h2 : Calm s0 s1 := by
    simp only [s1]
    refine emit_calm ?_
    refine updPhy_calm ?_
    exact g2
  clear_value s1
  refine rowSend_calm ?_
  refine sendMarker_calm ?_
  exact h2

theorem prsntFallDo_calm {s0 : State} {a1 a2} (g2 : Calm s0 a2) : Calm s0 (prsntFallDo a1 a2) := by
  unfold prsntFallDo
  extract_lets +onlyGivenNames s1
  have h2 : Calm s0 s1 := by
    simp only [s1]
    refine setPrsnt_calm ?_
    exact g2
  clear_value s1
  refine keep_cond (P := Calm s0) (fun _ => ?_) (fun _ => ?_)
  · refine burstNow_calm ?_
    exact h2
  · exact h2

theorem tcbIn_calm {s0 : State} {a1 a2 a3} (g3 : Calm s0 a3) : Calm s0 (tcbIn a1 a2 a3) := by
  unfold tcbIn
  refine inStage_calm ?_ ?_
  · intro x1 h2
    extract_lets +onlyGivenNames t4
    clear_value t4
    refine keep_cond (P := Calm s0) (fun _ => ?_) (fun _ => ?_)
    · refine phyFail_calm ?_
      exact h2
    · refine keep_cond (P := Calm s0) (fun _ => ?_) (fun _ => ?_)
      · refine phyFail_calm ?_
        exact h2
      · refine updLnk_calm ?_
        refine updPhy_calm ?_
        exact h2
  · exact g3

theorem lctlAnswer_calm {s0 : State} {a1 a2 a3 a4} (g4 : Calm s0 a4) : Calm s0 (lctlAnswer a1 a2 a3 a4) := by
  unfold lctlAnswer
  extract_lets +onlyGivenNames c1
  clear_value c1
  refine keep_cond (P := Calm s0) (fun _ => ?_) (fun _ => ?_)
  · refine controlSend_calm ?_
    refine updPhy_calm ?_
    exact g4
  · refine controlSend_calm ?_
    exact g4

theorem lctlReqDo_calm {s0 : State} {a1 a2 a3} (g3 : Calm s0 a3) : Calm s0 (lctlReqDo a1 a2 a3) := by
  unfold lctlReqDo
  refine takeBlock_calm ?_ ?_
  · intro x1 h2
    split
    · exact h2
    · extract_lets +onlyGivenNames rid3
      clear_value rid3
      refine keep_cond (P := Calm s0) (fun _ => ?_) (fun _ => ?_)
      · exact h2
      · split
        · refine keep_cond (P := Calm s0) (fun _ => ?_) (fun _ => ?_)
          · refine controlSend_calm ?_
            exact h2
          · refine lctlAnswer_calm ?_
            refine reqLost_calm ?_
            refine updPhy_calm ?_
            exact h2
        · refine lctlAnswer_calm ?_
          exact h2
  · exact g3

theorem recentre_calm {s0 : State} {a1 a2 a3} (g3 : Calm s0 a3) : Calm s0 (recentre a1 a2 a3) := by
  unfold recentre
  refine updPhy_calm ?_
  refine useFree_calm ?_
  exact g3

theorem stageTimeoutDo_calm {s0 : State} {a1 a2} (g2 : Calm s0 a2) : Calm s0 (stageTimeoutDo a1 a2) := by
  unfold stageTimeoutDo
  extract_lets +onlyGivenNames st1
  clear_value st1
  refine keep_cond (P := Calm s0) (fun _ => ?_) (fun _ => ?_)
  · refine phyFail_calm ?_
    refine advanceTo_calm ?_
    exact g2
  · exact g2

theorem firstDwell_calm {s0 : State} {a1 a2} (g2 : Calm s0 a2) : Calm s0 (firstDwell a1 a2) := by
  unfold firstDwell
  refine updPhy_calm ?_
  exact g2

theorem deskewDo_calm {s0 : State} {a1 a2 a3} (g3 : Calm s0 a3) : Calm s0 (deskewDo a1 a2 a3) := by
  unfold deskewDo
  extract_lets +onlyGivenNames x1
  clear_value x1
  extract_lets +onlyGivenNames mine2
  clear_value mine2
  split
  · exact g3
  · extract_lets +onlyGivenNames early3
    clear_value early3
    extract_lets +onlyGivenNames late4
    clear_value late4
    extract_lets +onlyGivenNames last5
    clear_value last5
    extract_lets +onlyGivenNames note6
    have h7 : ∀ y1, Calm s0 y1 → Calm s0 (note6 y1) := by
      intro x8 h9
      simp only [note6]
      refine updPhy_calm ?_
      exact h9
    clear_value note6
    refine keep_cond (P := Calm s0) (fun _ => ?_) (fun _ => ?_)
    · exact g3
    · refine keep_cond (P := Calm s0) (fun _ => ?_) (fun _ => ?_)
      · refine keep_cond (P := Calm s0) (fun _ => ?_) (fun _ => ?_)
        · refine h7 _ ?_
          exact g3
        · exact g3
      · refine inStage_calm ?_ ?_
        · intro x10 h11
          refine keep_cond (P := Calm s0) (fun _ => ?_) (fun _ => ?_)
          · refine phyFail_calm ?_
            exact h11
          · refine phyStage_calm ?_
            refine firstDwell_calm ?_
            refine h7 _ ?_
            exact h11
        · exact g3

theorem groupOn_calm {s0 : State} {a1 a2} (g2 : Calm s0 a2) : Calm s0 (groupOn a1 a2) := by
  unfold groupOn
  extract_lets +onlyGivenNames n1
  clear_value n1
  extract_lets +onlyGivenNames s2
  have h3 : Calm s0 s2 := by
    simp only [s2]
    refine updPhy_calm ?_
    exact g2
  clear_value s2
  refine keep_cond (P := Calm s0) (fun _ => ?_) (fun _ => ?_)
  · refine phyIdle_calm ?_
    exact h3
  · exact h3

theorem chooseRow_calm {s0 : State} {a1 a2 a3 a4} (g4 : Calm s0 a4) : Calm s0 (chooseRow a1 a2 a3 a4) := by
  unfold chooseRow
  refine keep_cond (P := Calm s0) (fun _ => ?_) (fun _ => ?_)
  · refine phyFail_calm ?_
    exact g4
  · refine updPhy_calm ?_
    exact g4

theorem dwellDo_calm {s0 : State} {a1 a2 a3} (g3 : Calm s0 a3) : Calm s0 (dwellDo a1 a2 a3) := by
  unfold dwellDo
  refine keep_cond (P := Calm s0) (fun _ => ?_) (fun _ => ?_)
  · exact g3
  · refine inStage_calm ?_ ?_
    · intro x1 h2
      extract_lets +onlyGivenNames s3
      have h4 : Calm s0 s3 := by
        simp only [s3]
        refine advanceTo_calm ?_
        exact h2
      clear_value s3
      extract_lets +onlyGivenNames x5
      clear_value x5
      extract_lets +onlyGivenNames f6
      clear_value f6
      refine keep_cond (P := Calm s0) (fun _ => ?_) (fun _ => ?_)
      · refine keep_cond (P := Calm s0) (fun _ => ?_) (fun _ => ?_)
        · refine chooseRow_calm ?_
          exact h4
        · refine updPhy_calm ?_
          exact h4
      · extract_lets +onlyGivenNames better7
        clear_value better7
        extract_lets +onlyGivenNames row8
        clear_value row8
        extract_lets +onlyGivenNames best9
        clear_value best9
        refine keep_cond (P := Calm s0) (fun _ => ?_) (fun _ => ?_)
        · refine updPhy_calm ?_
          exact h4
        · refine chooseRow_calm ?_
          refine regClrBit_calm ?_
          refine updPhy_calm ?_
          exact h4
    · exact g3

theorem deepMarker_calm {s0 : State} {a1 a2 a3} (g3 : Calm s0 a3) : Calm s0 (deepMarker a1 a2 a3) := by
  unfold deepMarker
  extract_lets +onlyGivenNames s1
  have h2 : Calm s0 s1 := by
    simp only [s1]
    refine advanceTo_calm ?_
    exact g3
  clear_value s1
  refine keep_cond (P := Calm s0) (fun _ => ?_) (fun _ => ?_)
  · refine rowSend_calm ?_
    refine sendMarker_calm ?_
    refine alignLanes_calm ?_
    exact h2
  · extract_lets +onlyGivenNames s3
    have h4 : Calm s0 s3 := by
      simp only [s3]
      refine sendMarker_calm ?_
      refine updPhy_calm ?_
      exact h2
    clear_value s3
    refine updPhy_calm ?_
    exact h4

theorem widthReqDo_calm {s0 : State} {a1 a2 a3} (g3 : Calm s0 a3) : Calm s0 (widthReqDo a1 a2 a3) := by
  unfold widthReqDo
  refine lctlPump_calm ?_
  refine updPhy_calm ?_
  exact g3

theorem lctlTimeoutDo_calm {s0 : State} {a1 a2} (g2 : Calm s0 a2) : Calm s0 (lctlTimeoutDo a1 a2) := by
  unfold lctlTimeoutDo
  split
  · exact g2
  · refine lctlPump_calm ?_
    refine reqLost_calm ?_
    refine updPhy_calm ?_
    refine advanceTo_calm ?_
    exact g2

theorem reachActive_calm {s0 : State} {a1 a2} (g2 : Calm s0 a2) : Calm s0 (reachActive a1 a2) := by
  unfold reachActive
  extract_lets +onlyGivenNames keep1
  clear_value keep1
  extract_lets +onlyGivenNames s2
  have h3 : Calm s0 s2 := by
    simp only [s2]
    refine updPhy_calm ?_
    exact g2
  clear_value s2
  refine sessionStart_calm ?_
  exact h3

theorem deepFall_calm {s0 : State} {a1 a2} (g2 : Calm s0 a2) : Calm s0 (deepFall a1 a2) := by
  unfold deepFall
  extract_lets +onlyGivenNames x1
  clear_value x1
  refine keep_cond (P := Calm s0) (fun _ => ?_) (fun _ => ?_)
  · refine updPhy_calm ?_
    exact g2
  · exact g2

theorem deepLeave_calm {s0 : State} {a1 a2} (g2 : Calm s0 a2) : Calm s0 (deepLeave a1 a2) := by
  unfold deepLeave
  extract_lets +onlyGivenNames x1
  clear_value x1
  refine keep_cond (P := Calm s0) (fun _ => ?_) (fun _ => ?_)
  · refine emit_calm ?_
    refine deepFall_calm ?_
    exact g2
  · exact g2

theorem polarityDo_calm {s0 : State} {a1 a2 a3} (g3 : Calm s0 a3) : Calm s0 (polarityDo a1 a2 a3) := by
  unfold polarityDo
  refine inStage_calm ?_ ?_
  · intro x1 h2
    extract_lets +onlyGivenNames x3
    clear_value x3
    extract_lets +onlyGivenNames sync4
    clear_value sync4
    extract_lets +onlyGivenNames inv5
    clear_value inv5
    extract_lets +onlyGivenNames found6
    clear_value found6
    refine keep_cond (P := Calm s0) (fun _ => ?_) (fun _ => ?_)
    · exact h2
    · refine phyStage_calm ?_
      refine updPhy_calm ?_
      exact h2
  · exact g3

theorem lanemapDo_calm {s0 : State} {a1 a2 a3} (g3 : Calm s0 a3) : Calm s0 (lanemapDo a1 a2 a3) := by
  unfold lanemapDo
  refine inStage_calm ?_ ?_
  · intro x1 h2
    extract_lets +onlyGivenNames x3
    clear_value x3
    extract_lets +onlyGivenNames go4
    have h5 : ∀ y1, Calm s0 (go4 y1) := by
      intro x6
      simp only [go4]
      refine phyStage_calm ?_
      refine updPhy_calm ?_
      exact h2
    clear_value go4
    refine keep_cond (P := Calm s0) (fun _ => ?_) (fun _ => ?_)
    · exact h5 _
    · refine keep_cond (P := Calm s0) (fun _ => ?_) (fun _ => ?_)
      · exact h5 _
      · refine phyFail_calm ?_
        exact h2
  · exact g3

theorem bitlockDo_calm {s0 : State} {a1 a2 a3 a4} (g4 : Calm s0 a4) : Calm s0 (bitlockDo a1 a2 a3 a4) := by
  unfold bitlockDo
  refine inStage_calm ?_ ?_
  · intro x1 h2
    extract_lets +onlyGivenNames cxB3
    clear_value cxB3
    extract_lets +onlyGivenNames ok4
    clear_value ok4
    extract_lets +onlyGivenNames locked5
    clear_value locked5
    extract_lets +onlyGivenNames inv6
    clear_value inv6
    extract_lets +onlyGivenNames k7
    clear_value k7
    refine keep_cond (P := Calm s0) (fun _ => ?_) (fun _ => ?_)
    · refine phyFail_calm ?_
      exact h2
    · extract_lets +onlyGivenNames s8
      have h9 : Calm s0 s8 := by
        simp only [s8]
        refine keep_cond (P := Calm s0) (fun _ => ?_) (fun _ => ?_)
        · refine advanceTo_calm ?_
          exact h2
        · exact h2
      clear_value s8
      refine keep_cond (P := Calm s0) (fun _ => ?_) (fun _ => ?_)
      · refine phyFail_calm ?_
        exact h9
      · refine phyStage_calm ?_
        refine updPhy_calm ?_
        exact h9
  · exact g4

theorem detectSignalDo_calm {s0 : State} {a1 a2} (g2 : Calm s0 a2) : Calm s0 (detectSignalDo a1 a2) := by
  unfold detectSignalDo
  refine inStage_calm ?_ ?_
  · intro x1 h2
    refine phyModes_calm ?_
    refine phyStage_calm ?_
    exact h2
  · exact g2

theorem detectBurstDo_calm {s0 : State} {a1 a2 a3} (g3 : Calm s0 a3) : Calm s0 (detectBurstDo a1 a2 a3) := by
  unfold detectBurstDo
  extract_lets +onlyGivenNames s1
  have h2 : Calm s0 s1 := by
    simp only [s1]
    refine setPrsnt_calm ?_
    exact g3
  clear_value s1
  refine keep_cond (P := Calm s0) (fun _ => ?_) (fun _ => ?_)
  · exact h2
  · refine burstNow_calm ?_
    refine advanceTo_calm ?_
    exact h2

theorem ackRest_calm {s0 : State} {a1 a2} (g2 : Calm s0 a2) : Calm s0 (ackRest a1 a2) := by
  unfold ackRest
  refine keep_forEach (P := Calm s0) ?_ ?_
  · intro x1 x2 h3
    refine trainOut_calm ?_
    exact h3
  · exact g2

theorem configDo_calm {s0 : State} {a1 a2} (g2 : Calm s0 a2) : Calm s0 (configDo a1 a2) := by
  unfold configDo
  extract_lets +onlyGivenNames x1
  clear_value x1
  split
  · exact g2
  · refine keep_cond (P := Calm s0) (fun _ => ?_) (fun _ => ?_)
    · exact g2
    · split
      · refine phyFail_calm ?_
        exact g2
      · extract_lets +onlyGivenNames s2
        have h3 : Calm s0 s2 := by
          simp only [s2]
          refine updPhy_calm ?_
          refine ackRest_calm ?_
          exact g2
        clear_value s2
        extract_lets +onlyGivenNames s4
        have h5 : Calm s0 s4 := by
          simp only [s4]
          refine updPhy_calm ?_
          refine sendMarker_calm ?_
          exact h3
        clear_value s4
        refine keep_cond (P := Calm s0) (fun _ => ?_) (fun _ => ?_)
        · refine lctlPump_calm (reachActive_calm ?_)
          exact h5
        · exact h5

theorem fomDo_calm {s0 : State} {a1 a2 a3} (g3 : Calm s0 a3) : Calm s0 (fomDo a1 a2 a3) := by
  unfold fomDo
  extract_lets +onlyGivenNames x1
  clear_value x1
  refine keep_cond (P := Calm s0) (fun _ => ?_) (fun _ => ?_)
  · exact g3
  · extract_lets +onlyGivenNames s2
    have h3 : Calm s0 s2 := by
      simp only [s2]
      refine advanceTo_calm ?_
      exact g3
    clear_value s2
    extract_lets +onlyGivenNames used4
    clear_value used4
    extract_lets +onlyGivenNames new5
    clear_value new5
    extract_lets +onlyGivenNames fl6
    clear_value fl6
    extract_lets +onlyGivenNames mid7
    clear_value mid7
    extract_lets +onlyGivenNames again8
    clear_value again8
    extract_lets +onlyGivenNames s9
    have h10 : Calm s0 s9 := by
      simp only [s9]
      refine updPhy_calm ?_
      exact h3
    clear_value s9
    refine keep_forEach (P := Calm s0) ?_ ?_
    · intro x11 x12 h13
      refine countStrand_calm ?_
      refine recentre_calm ?_
      exact h13
    · exact h10

theorem absentDo_calm {s0 : State} {a1 a2} (g2 : Calm s0 a2) : Calm s0 (absentDo a1 a2) := by
  unfold absentDo
  refine keep_cond (P := Calm s0) (fun _ => ?_) (fun _ => ?_)
  · exact g2
  · refine phyStage_calm ?_
    refine updPhy_calm ?_
    refine advanceTo_calm ?_
    exact g2

theorem lctlAnswerDo_calm {s0 : State} {a1 a2 a3} (g3 : Calm s0 a3) : Calm s0 (lctlAnswerDo a1 a2 a3) := by
  unfold lctlAnswerDo
  refine takeBlock_calm ?_ ?_
  · intro x1 h2
    split
    · exact h2
    · refine keep_cond (P := Calm s0) (fun _ => ?_) (fun _ => ?_)
      · exact h2
      · refine keep_cond (P := Calm s0) (fun _ => ?_) (fun _ => ?_)
        · refine updPhy_calm ?_
          exact h2
        · refine keep_cond (P := Calm s0) (fun _ => ?_) (fun _ => ?_)
          · refine lctlPump_calm ?_
            refine reqLost_calm ?_
            refine updPhy_calm ?_
            exact h2
          · exact h2
  · exact g3

theorem cmdRej_calm {s0 : State} {a1} (g1 : Calm s0 a1) : Calm s0 (cmdRej a1) := by
  unfold cmdRej
  refine regSetBit_calm ?_
  exact g1

theorem doubtDo_calm {s0 : State} {a1} (g1 : Calm s0 a1) : Calm s0 (doubtDo a1) := by
  unfold doubtDo
  refine keep_cond (P := Calm s0) (fun _ => ?_) (fun _ => ?_)
  · refine lkDoubt_calm ?_
    refine advanceTo_calm ?_
    exact g1
  · exact g1

theorem frameFrom_calm {s0 : State} {a1 a2} (g2 : Calm s0 a2) : Calm s0 (frameFrom a1 a2) := by
  unfold frameFrom
  refine advanceToFrame_calm ?_
  refine advanceTo_calm ?_
  exact g2

theorem fillMsgs_calm {s0 : State} {a1 a2 a3} (g3 : Calm s0 a3.2) : Calm s0 (fillMsgs a1 a2 a3).2 := by
  induction a1 generalizing a2 a3
  · unfold fillMsgs
    exact g3
  · rename_i k ih
    unfold fillMsgs
    split
    · refine keep_cond2 (P := Calm s0) (fun _ => ?_) (fun _ => ?_)
      · refine ih ?_
        refine keep_mk2 (P := Calm s0) ?_
        refine updLnk_calm ?_
        exact g3
      · exact g3
    · exact g3

theorem fillCredits_calm {s0 : State} {a1 a2} (g2 : Calm s0 a2.2) : Calm s0 (fillCredits a1 a2).2 := by
  unfold fillCredits
  refine keep_foldlPair (P := Calm s0) ?_ ?_
  · intro x1 x2 h3
    extract_lets +onlyGivenNames x4
    clear_value x4
    extract_lets +onlyGivenNames i5
    clear_value i5
    refine keep_cond2 (P := Calm s0) (fun _ => ?_) (fun _ => ?_)
    · refine keep_mk2 (P := Calm s0) ?_
      refine updLnk_calm ?_
      exact h3
    · exact h3
  · exact g2

theorem launchCtnr_calm {s0 : State} {a1 a2 a3 a4 a5 a6} (g6 : Calm s0 a6) : Calm s0 (launchCtnr a1 a2 a3 a4 a5 a6) := by
  unfold launchCtnr
  extract_lets +onlyGivenNames s1
  have h2 : Calm s0 s1 := by
    simp only [s1]
    refine emit_calm ?_
    exact g6
  clear_value s1
  extract_lets +onlyGivenNames s3
  have h4 : Calm s0 s3 := by
    simp only [s3]
    refine updLnk_calm ?_
    exact h2
  clear_value s3
  extract_lets +onlyGivenNames s5
  have h6 : Calm s0 s5 := by
    simp only [s5]
    refine containerBlocks_calm ?_
    refine updPhy_calm ?_
    exact h4
  clear_value s5
  refine countN_calm ?_
  refine keep_cond (P := Calm s0) (fun _ => ?_) (fun _ => ?_)
  · refine countStrand_calm ?_
    exact h6
  · exact h6

theorem sendAckc_calm {s0 : State} {a1 a2 a3} (g3 : Calm s0 a3) : Calm s0 (sendAckc a1 a2 a3) := by
  unfold sendAckc
  generalize hp2 : @fillCredits _ _ = p1
  have h3 : Calm s0 p1.2 := by
    rw [← hp2]
    refine fillCredits_calm ?_
    refine keep_mk2 (P := Calm s0) ?_
    exact g3
  clear hp2
  revert p1
  rintro ⟨v4, s5⟩ h6
  replace h6 : Calm s0 s5 := h6
  dsimp -zeta only
  refine countN_calm ?_
  refine countStrand_calm ?_
  refine launchCtnr_calm ?_
  exact h6

theorem ackcDo_calm {s0 : State} {a1 a2} (g2 : Calm s0 a2) : Calm s0 (ackcDo a1 a2) := by
  unfold ackcDo
  refine keep_cond (P := Calm s0) (fun _ => ?_) (fun _ => ?_)
  · exact g2
  · extract_lets +onlyGivenNames s1
    have h2 : Calm s0 s1 := by
      simp only [s1]
      refine advanceTo_calm ?_
      exact g2
    clear_value s1
    refine sendAckc_calm ?_
    exact h2

theorem takeTx_calm {s0 : State} {a1 a2 a3} (g3 : Calm s0 a3) : Calm s0 (takeTx a1 a2 a3) := by
  unfold takeTx
  extract_lets +onlyGivenNames s1
  have h2 : Calm s0 s1 := by
    simp only [s1]
    refine updLnk_calm ?_
    exact g3
  clear_value s1
  refine countStrand_calm ?_
  exact h2

theorem winRoll_calm {s0 : State} {a1 a2} (g2 : Calm s0 a2) : Calm s0 (winRoll a1 a2) := by
  unfold winRoll
  extract_lets +onlyGivenNames x1
  clear_value x1
  extract_lets +onlyGivenNames w2
  clear_value w2
  refine keep_cond (P := Calm s0) (fun _ => ?_) (fun _ => ?_)
  · exact g2
  · refine updLnk_calm ?_
    exact g2

theorem fillRest_calm {s0 : State} {a1 a2 a3} (g3 : Calm s0 a3.2) : Calm s0 (fillRest a1 a2 a3).2 := by
  induction a1 generalizing a2 a3
  · unfold fillRest
    exact g3
  · rename_i k ih
    unfold fillRest
    extract_lets +onlyGivenNames cs1
    clear_value cs1
    split
    · exact g3
    · extract_lets +onlyGivenNames s2
      have h3 : Calm s0 s2 := by
        simp only [s2]
        refine updLnk_calm ?_
        refine takeTx_calm ?_
        exact g3
      clear_value s2
      refine ih ?_
      refine keep_mk2 (P := Calm s0) ?_
      exact h3

theorem askAgain_calm {s0 : State} {a1 a2} (g2 : Calm s0 a2) : Calm s0 (askAgain a1 a2) := by
  unfold askAgain
  refine keep_cond (P := Calm s0) (fun _ => ?_) (fun _ => ?_)
  · refine sendAckc_calm ?_
    exact g2
  · exact g2

theorem sendReplay_calm {s0 : State} {a1 a2 a3} (g3 : Calm s0 a3) : Calm s0 (sendReplay a1 a2 a3) := by
  unfold sendReplay
  extract_lets +onlyGivenNames s1
  have h2 : Calm s0 s1 := by
    simp only [s1]
    refine launchCtnr_calm ?_
    exact g3
  clear_value s1
  refine countStrand_calm ?_
  refine updLnk_calm ?_
  exact h2

theorem gtDemote_calm {s0 : State} {a1 a2} (g2 : Calm s0 a2) : Calm s0 (gtDemote a1 a2) := by
  unfold gtDemote
  refine keep_forEach (P := Calm s0) ?_ ?_
  · intro x1 x2 h3
    extract_lets +onlyGivenNames k4
    clear_value k4
    extract_lets +onlyGivenNames out5
    clear_value out5
    refine keep_cond (P := Calm s0) (fun _ => ?_) (fun _ => ?_)
    · exact h3
    · extract_lets +onlyGivenNames ll6
      clear_value ll6
      refine updLnk_calm ?_
      exact h3
  · exact g2

theorem fillGt_calm {s0 : State} {a1 a2 a3} (g3 : Calm s0 a3.2) : Calm s0 (fillGt a1 a2 a3).2 := by
  induction a1 generalizing a2 a3
  · unfold fillGt
    exact g3
  · rename_i k ih
    unfold fillGt
    split
    · exact g3
    · extract_lets +onlyGivenNames i1
      clear_value i1
      refine keep_cond2 (P := Calm s0) (fun _ => ?_) (fun _ => ?_)
      · refine ih ?_
        refine keep_mk2 (P := Calm s0) ?_
        refine takeTx_calm ?_
        exact g3
      · exact g3

theorem fillCtnr_calm {s0 : State} {a1 a2} (g2 : Calm s0 a2) : Calm s0 (fillCtnr a1 a2).2 := by
  unfold fillCtnr
  extract_lets +onlyGivenNames pk1
  clear_value pk1
  extract_lets +onlyGivenNames s2
  have h3 : Calm s0 s2 := by
    simp only [s2]
    refine keep_cond (P := Calm s0) (fun _ => ?_) (fun _ => ?_)
    · refine gtDemote_calm ?_
      exact g2
    · exact g2
  clear_value s2
  extract_lets +onlyGivenNames a4
  have h5 : Calm s0 a4.2 := by
    simp only [a4]
    refine keep_cond2 (P := Calm s0) (fun _ => ?_) (fun _ => ?_)
    · refine fillGt_calm ?_
      refine keep_mk2 (P := Calm s0) ?_
      exact h3
    · refine keep_mk2 (P := Calm s0) ?_
      exact h3
  clear_value a4
  extract_lets +onlyGivenNames a6
  have h7 : Calm s0 a6.2 := by
    simp only [a6]
    refine fillMsgs_calm ?_
    refine fillCredits_calm ?_
    exact h5
  clear_value a6
  refine keep_cond2 (P := Calm s0) (fun _ => ?_) (fun _ => ?_)
  · refine fillRest_calm ?_
    exact h7
  · exact h7

theorem helloSendDo_calm {s0 : State} {a1 a2} (g2 : Calm s0 a2) : Calm s0 (helloSendDo a1 a2) := by
  unfold helloSendDo
  refine keep_cond (P := Calm s0) (fun _ => ?_) (fun _ => ?_)
  · refine sendHello_calm ?_
    refine advanceTo_calm ?_
    exact g2
  · exact g2

theorem takePkt_calm {s0 : State} {a1 a2 a3 a4 a5} (g5 : Calm s0 a5) : Calm s0 (takePkt a1 a2 a3 a4 a5) := by
  unfold takePkt
  extract_lets +onlyGivenNames k1
  clear_value k1
  extract_lets +onlyGivenNames c2
  clear_value c2
  extract_lets +onlyGivenNames s3
  have h4 : Calm s0 s3 := by
    simp only [s3]
    refine updLnk_calm ?_
    exact g5
  clear_value s3
  extract_lets +onlyGivenNames s5
  have h6 : Calm s0 s5 := by
    simp only [s5]
    refine keep_cond (P := Calm s0) (fun _ => ?_) (fun _ => ?_)
    · refine countStrand_calm ?_
      exact h4
    · exact h4
  clear_value s5
  refine countStrand_calm ?_
  exact h6

theorem winCount_calm {s0 : State} {a1 a2} (g2 : Calm s0 a2) : Calm s0 (winCount a1 a2) := by
  unfold winCount
  extract_lets +onlyGivenNames x1
  clear_value x1
  refine keep_cond (P := Calm s0) (fun _ => ?_) (fun _ => ?_)
  · refine updLnk_calm ?_
    exact g2
  · refine updLnk_calm ?_
    exact g2

theorem takeAck_calm {s0 : State} {a1 a2 a3} (g3 : Calm s0 a3) : Calm s0 (takeAck a1 a2 a3) := by
  unfold takeAck
  split
  · exact g3
  · extract_lets +onlyGivenNames gone1
    clear_value gone1
    extract_lets +onlyGivenNames s2
    have h3 : Calm s0 s2 := by
      simp only [s2]
      refine updLnk_calm ?_
      exact g3
    clear_value s2
    refine countN_calm ?_
    exact h3

theorem winEndDo_calm {s0 : State} {a1 a2} (g2 : Calm s0 a2) : Calm s0 (winEndDo a1 a2) := by
  unfold winEndDo
  refine winRoll_calm ?_
  refine advanceTo_calm ?_
  exact g2

theorem tsyncSendDo_calm {s0 : State} {a1 a2} (g2 : Calm s0 a2) : Calm s0 (tsyncSendDo a1 a2) := by
  unfold tsyncSendDo
  refine keep_cond (P := Calm s0) (fun _ => ?_) (fun _ => ?_)
  · exact g2
  · extract_lets +onlyGivenNames t1
    clear_value t1
    extract_lets +onlyGivenNames s2
    have h3 : Calm s0 s2 := by
      simp only [s2]
      refine advanceToTime_calm ?_
      exact g2
    clear_value s2
    extract_lets +onlyGivenNames e4
    clear_value e4
    extract_lets +onlyGivenNames s5
    have h6 : Calm s0 s5 := by
      simp only [s5]
      refine updLnk_calm ?_
      exact h3
    clear_value s5
    refine controlSend_calm ?_
    refine emit_calm ?_
    exact h6

theorem resolveWrite_calm {s0 : State} {a1 a2 a3 a4 a5} (g5 : Calm s0 a5) : Calm s0 (resolveWrite a1 a2 a3 a4 a5) := by
  unfold resolveWrite
  extract_lets +onlyGivenNames r1
  clear_value r1
  refine keep_cond (P := Calm s0) (fun _ => ?_) (fun _ => ?_)
  · extract_lets +onlyGivenNames e2
    clear_value e2
    split
    · refine relayResolveDo_calm ?_
      exact g5
    · refine relayResolveDo_calm ?_
      exact g5
    · exact g5
  · exact g5

theorem storeReg_calm {s0 : State} {a1 a2 a3 a4 a5 a6} (g6 : Calm s0 a6) : Calm s0 (storeReg a1 a2 a3 a4 a5 a6) := by
  unfold storeReg
  extract_lets +onlyGivenNames off1
  clear_value off1
  extract_lets +onlyGivenNames old2
  clear_value old2
  extract_lets +onlyGivenNames new3
  clear_value new3
  extract_lets +onlyGivenNames stale4
  clear_value stale4
  extract_lets +onlyGivenNames s5
  have h6 : Calm s0 s5 := by
    simp only [s5]
    refine regSet_calm ?_
    exact g6
  clear_value s5
  refine keep_cond (P := Calm s0) (fun _ => ?_) (fun _ => ?_)
  · refine regSetBit_calm ?_
    exact h6
  · exact h6

theorem clkModeShare_calm {s0 : State} {a1 a2} (g2 : Calm s0 a2) : Calm s0 (clkModeShare a1 a2) := by
  unfold clkModeShare
  extract_lets +onlyGivenNames v1
  clear_value v1
  refine keep_forEach (P := Calm s0) ?_ ?_
  · intro x2 x3 h4
    refine regPut_calm ?_
    exact h4
  · exact g2

theorem writeExpert_calm {s0 : State} {a1 a2 a3 a4 a5 a6} (g6 : Calm s0 a6) : Calm s0 (writeExpert a1 a2 a3 a4 a5 a6) := by
  unfold writeExpert
  refine keep_cond (P := Calm s0) (fun _ => ?_) (fun _ => ?_)
  · refine storeReg_calm ?_
    exact g6
  · refine regSetBit_calm ?_
    exact g6

theorem writeCounter_calm {s0 : State} {a1 a2 a3 a4 a5 a6 a7 a8} (g8 : Calm s0 a8) : Calm s0 (writeCounter a1 a2 a3 a4 a5 a6 a7 a8) := by
  unfold writeCounter
  extract_lets +onlyGivenNames high1
  clear_value high1
  refine keep_cond (P := Calm s0) (fun _ => ?_) (fun _ => ?_)
  · exact g8
  · refine keep_cond (P := Calm s0) (fun _ => ?_) (fun _ => ?_)
    · refine keep_cond (P := Calm s0) (fun _ => ?_) (fun _ => ?_)
      · refine clearOvf_calm ?_
        exact g8
      · exact g8
    · refine keep_cond (P := Calm s0) (fun _ => ?_) (fun _ => ?_)
      · refine preset_calm ?_
        exact g8
      · refine presetHalf_calm ?_
        exact g8

theorem readCounter_calm {s0 : State} {a1 a2 a3 a4 a5 a6 a7} (g7 : Calm s0 a7) : Calm s0 (readCounter a1 a2 a3 a4 a5 a6 a7).2 := by
  unfold readCounter
  extract_lets +onlyGivenNames v1
  clear_value v1
  extract_lets +onlyGivenNames side2
  clear_value side2
  refine keep_cond2 (P := Calm s0) (fun _ => ?_) (fun _ => ?_)
  · refine keep_mk2 (P := Calm s0) ?_
    exact g7
  · refine keep_cond2 (P := Calm s0) (fun _ => ?_) (fun _ => ?_)
    · refine keep_mk2 (P := Calm s0) ?_
      exact g7
    · generalize hp4 : @readHalf _ _ _ _ _ _ = p3
      have h5 : Calm s0 p3.2 := by
        rw [← hp4]
        refine readHalf_calm ?_
        exact g7
      clear hp4
      revert p3
      rintro ⟨v6, s7⟩ h8
      replace h8 : Calm s0 s7 := h8
      dsimp -zeta only
      exact h8

theorem claspCheckDo.noteMapOf_calm {s0 : State} {a1 a2 a3} (g3 : Calm s0 a3) : Calm s0 (claspCheckDo.noteMapOf a1 a2 a3) := by
  unfold claspCheckDo.noteMapOf
  split
  · refine regPut_calm ?_
    refine regPut_calm ?_
    exact g3
  · exact g3

theorem decisionDeliverDo_calm {s0 : State} {a1 a2} (g2 : Calm s0 a2) : Calm s0 (decisionDeliverDo a1 a2) := by
  unfold decisionDeliverDo
  split
  · exact g2
  · extract_lets +onlyGivenNames k1
    clear_value k1
    refine keep_cond (P := Calm s0) (fun _ => ?_) (fun _ => ?_)
    · exact g2
    · extract_lets +onlyGivenNames s2
      have h3 : Calm s0 s2 := by
        simp only [s2]
        refine advanceTo_calm ?_
        exact g2
      clear_value s2
      refine decisionOut_calm ?_
      refine updPort_calm ?_
      exact h3

theorem advanceToLaunch_calm {s0 : State} {a1 a2} (g2 : Calm s0 a2) : Calm s0 (advanceToLaunch a1 a2) := by
  unfold advanceToLaunch
  extract_lets +onlyGivenNames s1
  have h2 : Calm s0 s1 := by
    simp only [s1]
    refine advanceTo_calm ?_
    exact g2
  clear_value s1
  refine keep_cond (P := Calm s0) (fun _ => ?_) (fun _ => ?_)
  · refine advanceToFrame_calm ?_
    exact h2
  · exact h2

theorem violate_calm {s0 : State} {a1 a2 a3} (g3 : Calm s0 a3) : Calm s0 (violate a1 a2 a3) := by
  unfold violate
  extract_lets +onlyGivenNames c1
  clear_value c1
  extract_lets +onlyGivenNames k2
  clear_value k2
  refine count_calm ?_
  refine regPut_calm ?_
  exact g3

theorem readMirror_calm {s0 : State} {a1 a2 a3 a4 a5} (g5 : Calm s0 a5) : Calm s0 (readMirror a1 a2 a3 a4 a5).2 := by
  unfold readMirror
  split
  · refine keep_mk2 (P := Calm s0) ?_
    exact g5
  · refine keep_cond2 (P := Calm s0) (fun _ => ?_) (fun _ => ?_)
    · refine keep_mk2 (P := Calm s0) ?_
      exact g5
    · extract_lets +onlyGivenNames v1
      clear_value v1
      refine keep_cond2 (P := Calm s0) (fun _ => ?_) (fun _ => ?_)
      · refine keep_mk2 (P := Calm s0) ?_
        exact g5
      · refine readHalf_calm ?_
        exact g5

theorem readPart_calm {s0 : State} {a1 a2 a3 a4 a5} (g5 : Calm s0 a5) : Calm s0 (readPart a1 a2 a3 a4 a5).2 := by
  unfold readPart
  extract_lets +onlyGivenNames o1
  clear_value o1
  refine keep_cond2 (P := Calm s0) (fun _ => ?_) (fun _ => ?_)
  · refine keep_mk2 (P := Calm s0) ?_
    refine violate_calm ?_
    exact g5
  · refine keep_cond2 (P := Calm s0) (fun _ => ?_) (fun _ => ?_)
    · refine readMirror_calm ?_
      exact g5
    · split
      · refine keep_cond2 (P := Calm s0) (fun _ => ?_) (fun _ => ?_)
        · refine keep_mk2 (P := Calm s0) ?_
          exact g5
        · refine readCounter_calm ?_
          exact g5
      · extract_lets +onlyGivenNames w2
        clear_value w2
        refine keep_mk2 (P := Calm s0) ?_
        exact g5

theorem readAccess_calm {s0 : State} {a1 a2 a3 a4} (g4 : Calm s0 a4) : Calm s0 (readAccess a1 a2 a3 a4).2 := by
  unfold readAccess
  refine keep_cond2 (P := Calm s0) (fun _ => ?_) (fun _ => ?_)
  · refine keep_mk2 (P := Calm s0) ?_
    refine violate_calm ?_
    exact g4
  · split
    · refine keep_mk2 (P := Calm s0) ?_
      exact g4
    · refine keep_foldlPair (P := Calm s0) ?_ ?_
      · intro x1 x2 h3
        generalize hp5 : @readPart _ _ _ _ _ = p4
        have h6 : Calm s0 p4.2 := by
          rw [← hp5]
          refine readPart_calm ?_
          exact h3
        clear hp5
        revert p4
        rintro ⟨v7, s8⟩ h9
        replace h9 : Calm s0 s8 := h9
        dsimp -zeta only
        exact h9
      · refine keep_mk2 (P := Calm s0) ?_
        exact g4

theorem timeoutCount_calm {s0 : State} {a1 a2} (g2 : Calm s0 a2) : Calm s0 (timeoutCount a1 a2) := by
  unfold timeoutCount
  refine count_calm ?_
  refine regPut_calm ?_
  exact g2

theorem dfeMove_calm {s0 : State} {a1 a2 a3} (g3 : Calm s0 a3) : Calm s0 (dfeMove a1 a2 a3) := by
  unfold dfeMove
  refine keep_cond (P := Calm s0) (fun _ => ?_) (fun _ => ?_)
  · exact g3
  · refine updPhy_calm ?_
    refine useFree_calm ?_
    exact g3

theorem elastic_calm {s0 : State} {a1 a2} (g2 : Calm s0 a2) : Calm s0 (elastic a1 a2).2 := by
  unfold elastic
  extract_lets +onlyGivenNames x1
  clear_value x1
  refine keep_cond2 (P := Calm s0) (fun _ => ?_) (fun _ => ?_)
  · refine keep_mk2 (P := Calm s0) ?_
    exact g2
  · refine keep_cond2 (P := Calm s0) (fun _ => ?_) (fun _ => ?_)
    · refine keep_mk2 (P := Calm s0) ?_
      refine updPhy_calm ?_
      exact g2
    · refine keep_mk2 (P := Calm s0) ?_
      refine updPhy_calm ?_
      exact g2

theorem updSeq_calm {s0 : State} {a1 a2} (g2 : Calm s0 a2) : Calm s0 (updSeq a1 a2) := by
  unfold updSeq
  exact Calm.upd g2 rfl

theorem nextOn_calm {s0 : State} {a1 a2} (g2 : Calm s0 a2) : Calm s0 (nextOn a1 a2) := by
  unfold nextOn
  refine updSeq_calm ?_
  exact g2

theorem rxDrop_calm {s0 : State} {a1 a2 a3 a4} (g4 : Calm s0 a4) : Calm s0 (rxDrop a1 a2 a3 a4) := by
  unfold rxDrop
  refine keep_cond (P := Calm s0) (fun _ => ?_) (fun _ => ?_)
  · exact g4
  · refine rxFree_calm ?_
    exact g4

theorem rxRelease_calm {s0 : State} {a1 a2 a3 a4} (g4 : Calm s0 a4) : Calm s0 (rxRelease a1 a2 a3 a4) := by
  unfold rxRelease
  extract_lets +onlyGivenNames p1
  extract_lets +onlyGivenNames f2
  clear_value f2
  refine keep_cond (P := Calm s0) (fun _ => ?_) (fun _ => ?_)
  · extract_lets +onlyGivenNames s3
    have h4 : Calm s0 s3 := by
      simp only [s3]
      refine answerFrom_calm ?_
      refine rxDrop_calm ?_
      exact g4
    clear_value s3
    refine keep_cond (P := Calm s0) (fun _ => ?_) (fun _ => ?_)
    · exact h4
    · refine updPort_calm ?_
      exact h4
  · split
    · refine rxDrop_calm ?_
      refine updPort_calm ?_
      exact g4
    · refine recredit_calm ?_
      refine strandOffer_calm ?_
      exact g4

theorem rxPut_calm {s0 : State} {a1 a2 a3 a4} (g4 : Calm s0 a4) : Calm s0 (rxPut a1 a2 a3 a4) := by
  unfold rxPut
  refine updLnk_calm ?_
  exact g4

theorem rxTake_calm {s0 : State} {a1 a2 a3 a4} (g4 : Calm s0 a4) : Calm s0 (rxTake a1 a2 a3 a4) := by
  unfold rxTake
  refine rxPut_calm ?_
  exact g4

theorem seqPump_calm {s0 : State} {a1 a2 a3} (g3 : Calm s0 a3) : Calm s0 (seqPump a1 a2 a3) := by
  induction a1 generalizing a2 a3
  · unfold seqPump
    exact g3
  · rename_i k ih
    unfold seqPump
    refine keep_cond (P := Calm s0) (fun _ => ?_) (fun _ => ?_)
    · exact g3
    · split
      · refine ih ?_
        refine nextOn_calm ?_
        exact g3
      · refine keep_cond (P := Calm s0) (fun _ => ?_) (fun _ => ?_)
        · exact g3
        · extract_lets +onlyGivenNames s1
          have h2 : Calm s0 s1 := by
            simp only [s1]
            refine rxRelease_calm ?_
            refine rxTake_calm ?_
            exact g3
          clear_value s1
          extract_lets +onlyGivenNames s3
          have h4 : Calm s0 s3 := by
            simp only [s3]
            refine updSeq_calm ?_
            exact h2
          clear_value s3
          refine ih ?_
          refine nextOn_calm ?_
          exact h4

theorem gapTimer_calm {s0 : State} {a1 a2 a3} (g3 : Calm s0 a3) : Calm s0 (gapTimer a1 a2 a3) := by
  unfold gapTimer
  extract_lets +onlyGivenNames waits1
  clear_value waits1
  extract_lets +onlyGivenNames was2
  clear_value was2
  extract_lets +onlyGivenNames v3
  clear_value v3
  refine updSeq_calm ?_
  exact g3

theorem seqRun_calm {s0 : State} {a1 a2} (g2 : Calm s0 a2) : Calm s0 (seqRun a1 a2) := by
  unfold seqRun
  extract_lets +onlyGivenNames old1
  clear_value old1
  refine gapTimer_calm ?_
  refine seqPump_calm ?_
  exact g2

theorem handoverDo_calm {s0 : State} {a1 a2} (g2 : Calm s0 a2) : Calm s0 (handoverDo a1 a2) := by
  unfold handoverDo
  split
  · exact g2
  · refine seqRun_calm ?_
    refine advanceTo_calm ?_
    exact g2

theorem unhold_calm {s0 : State} {a1 a2} (g2 : Calm s0 a2) : Calm s0 (unhold a1 a2) := by
  unfold unhold
  extract_lets +onlyGivenNames free1
  clear_value free1
  refine keep_forEach (P := Calm s0) ?_ ?_
  · intro x2 x3 h4
    refine updLnk_calm ?_
    exact h4
  · exact g2

theorem e2ackSendDo_calm {s0 : State} {a1 a2} (g2 : Calm s0 a2) : Calm s0 (e2ackSendDo a1 a2) := by
  unfold e2ackSendDo
  refine keep_cond (P := Calm s0) (fun _ => ?_) (fun _ => ?_)
  · exact g2
  · extract_lets +onlyGivenNames s1
    have h2 : Calm s0 s1 := by
      simp only [s1]
      refine sendDev_calm ?_
      exact g2
    clear_value s1
    extract_lets +onlyGivenNames tell3
    clear_value tell3
    refine updSeq_calm ?_
    exact h2

theorem seqArrive_calm {s0 : State} {a1 a2 a3 a4 a5} (g5 : Calm s0 a5) : Calm s0 (seqArrive a1 a2 a3 a4 a5) := by
  unfold seqArrive
  extract_lets +onlyGivenNames f1
  extract_lets +onlyGivenNames key2
  extract_lets +onlyGivenNames e3
  extract_lets +onlyGivenNames d4
  extract_lets +onlyGivenNames mark5
  have h6 : ∀ y1, Calm s0 y1 → Calm s0 (mark5 y1) := by
    intro x7 h8
    simp only [mark5]
    refine updSeq_calm ?_
    exact h8
  clear_value mark5
  extract_lets +onlyGivenNames hold9
  have h10 : Calm s0 hold9 := by
    simp only [hold9]
    refine rxPut_calm ?_
    refine h6 _ ?_
    exact g5
  clear_value hold9
  refine keep_cond (P := Calm s0) (fun _ => ?_) (fun _ => ?_)
  · refine countStrand_calm ?_
    refine rxDrop_calm ?_
    refine rxTake_calm ?_
    exact g5
  · refine keep_cond (P := Calm s0) (fun _ => ?_) (fun _ => ?_)
    · exact g5
    · refine keep_cond (P := Calm s0) (fun _ => ?_) (fun _ => ?_)
      · refine keep_cond (P := Calm s0) (fun _ => ?_) (fun _ => ?_)
        · exact g5
        · extract_lets +onlyGivenNames s11
          have h12 : Calm s0 s11 := by
            simp only [s11]
            refine rxRelease_calm ?_
            refine rxTake_calm ?_
            refine h6 _ ?_
            exact g5
          clear_value s11
          refine seqRun_calm ?_
          refine updSeq_calm ?_
          exact h12
      · refine keep_cond (P := Calm s0) (fun _ => ?_) (fun _ => ?_)
        · refine seqRun_calm ?_
          exact h10
        · refine gapTimer_calm ?_
          refine countStrand_calm ?_
          exact h10

theorem gapDo_calm {s0 : State} {a1 a2} (g2 : Calm s0 a2) : Calm s0 (gapDo a1 a2) := by
  unfold gapDo
  extract_lets +onlyGivenNames v1
  clear_value v1
  split
  · exact g2
  · refine keep_cond (P := Calm s0) (fun _ => ?_) (fun _ => ?_)
    · exact g2
    · extract_lets +onlyGivenNames s2
      have h3 : Calm s0 s2 := by
        simp only [s2]
        refine countStrand_calm ?_
        refine nextOn_calm ?_
        refine advanceTo_calm ?_
        exact g2
      clear_value s2
      refine seqRun_calm ?_
      refine updSeq_calm ?_
      exact h3

theorem injectThen_calm {s0 : State} {a1 a2 a3} (g2 : ∀ y1, Calm s0 y1 → Calm s0 (a2 y1)) (g3 : Calm s0 a3) : Calm s0 (injectThen a1 a2 a3) := by
  unfold injectThen
  extract_lets +onlyGivenNames s1
  have h2 : Calm s0 s1 := by
    simp only [s1]
    refine g2 _ ?_
    exact g3
  clear_value s1
  refine keep_cond (P := Calm s0) (fun _ => ?_) (fun _ => ?_)
  · refine keep_forEach (P := Calm s0) ?_ ?_
    · intro x3 x4 h5
      refine seqRun_calm ?_
      exact h5
    · exact h2
  · exact h2

theorem arrivalDo_calm {s0 : State} {a1 a2 a3 a4} (g4 : Calm s0 a4) : Calm s0 (arrivalDo a1 a2 a3 a4) := by
  unfold arrivalDo
  extract_lets +onlyGivenNames k1
  clear_value k1
  split
  · exact g4
  · split
    · exact g4
    · refine keep_cond (P := Calm s0) (fun _ => ?_) (fun _ => ?_)
      · exact g4
      · extract_lets +onlyGivenNames s2
        have h3 : Calm s0 s2 := by
          simp only [s2]
          refine advanceTo_calm ?_
          exact g4
        clear_value s2
        refine keep_cond (P := Calm s0) (fun _ => ?_) (fun _ => ?_)
        · refine keep_cond (P := Calm s0) (fun _ => ?_) (fun _ => ?_)
          · refine rxRelease_calm ?_
            refine rxTake_calm ?_
            exact h3
          · exact h3
        · refine keep_cond (P := Calm s0) (fun _ => ?_) (fun _ => ?_)
          · refine rxDrop_calm ?_
            refine rxTake_calm ?_
            exact h3
          · refine seqArrive_calm ?_
            exact h3

theorem setFrozen_calm {s0 : State} {a1 a2} (g2 : Calm s0 a2) : Calm s0 (setFrozen a1 a2) := by
  unfold setFrozen
  exact Calm.upd g2 rfl

theorem idleTick_calm {s0 : State} {a1} (g1 : Calm s0 a1) : Calm s0 (idleTick a1) := by
  unfold idleTick
  refine advance_calm ?_
  refine begin_calm ?_
  exact g1

theorem resetFalls_calm {s0 : State} {a1 a2} (g2 : Calm s0 a2) : Calm s0 (resetFalls a1 a2) := by
  unfold resetFalls
  refine peerDownDo_calm ?_
  refine updPort_calm ?_
  exact g2

theorem State.withFetchWord_calm {s0 : State} {a1 a2 a3} (g1 : Calm s0 a1) : Calm s0 (State.withFetchWord a1 a2 a3) := by
  unfold State.withFetchWord
  split
  · exact Calm.upd g1 rfl
  · exact g1

end Sys2Proof.Machine
end

