-- ==== Sys2Proof/Laws/KeepQuiet.lean ====
section
/-! SUPPORT. One lemma per operation that is quiet: no mode, keepsake, pin but SLn_PRSNT_n, table, CHANGES, view, latched half, withheld access or epoch moves. -/

namespace Sys2Proof.Machine

theorem updTile_quiet {s0 : State} {a1 a2 a3} (g3 : Quiet s0 a3) : Quiet s0 (updTile a1 a2 a3) := by
  unfold updTile
  exact Quiet.upd g3 rfl

theorem updSamp_quiet {s0 : State} {a1 a2 a3} (g3 : Quiet s0 a3) : Quiet s0 (updSamp a1 a2 a3) := by
  unfold updSamp
  exact Quiet.upd g3 rfl

theorem smpEnd_quiet {s0 : State} {a1 a2 a3 a4 a5 a6} (g6 : Quiet s0 a6) : Quiet s0 (smpEnd a1 a2 a3 a4 a5 a6) := by
  unfold smpEnd
  split
  · exact g6
  · split
    · exact g6
    · extract_lets +onlyGivenNames r1
      clear_value r1
      extract_lets +onlyGivenNames k2
      clear_value k2
      extract_lets +onlyGivenNames stop3
      clear_value stop3
      refine updSamp_quiet ?_
      exact g6

theorem smpInject1_quiet {s0 : State} {a1 a2 a3 a4 a5 a6} (g6 : Quiet s0 a6) : Quiet s0 (smpInject1 a1 a2 a3 a4 a5 a6).2 := by
  unfold smpInject1
  extract_lets +onlyGivenNames x1
  clear_value x1
  extract_lets +onlyGivenNames v2
  clear_value v2
  refine keep_cond2 (P := Quiet s0) (fun _ => ?_) (fun _ => ?_)
  · refine keep_mk2 (P := Quiet s0) ?_
    exact g6
  · refine keep_cond2 (P := Quiet s0) (fun _ => ?_) (fun _ => ?_)
    · refine keep_mk2 (P := Quiet s0) ?_
      refine updSamp_quiet ?_
      exact g6
    · extract_lets +onlyGivenNames x3
      clear_value x3
      extract_lets +onlyGivenNames x4
      clear_value x4
      extract_lets +onlyGivenNames x5
      clear_value x5
      refine keep_mk2 (P := Quiet s0) ?_
      refine updSamp_quiet ?_
      exact g6

theorem smpClear_quiet {s0 : State} {a1 a2} (g2 : Quiet s0 a2) : Quiet s0 (smpClear a1 a2) := by
  unfold smpClear
  refine updSamp_quiet ?_
  exact g2

theorem smpTimeout_quiet {s0 : State} {a1 a2} (g2 : Quiet s0 a2) : Quiet s0 (smpTimeout a1 a2) := by
  unfold smpTimeout
  split
  · exact g2
  · extract_lets +onlyGivenNames k1
    clear_value k1
    refine updSamp_quiet ?_
    exact g2

theorem smpInject_quiet {s0 : State} {a1 a2 a3 a4 a5} (g5 : Quiet s0 a5) : Quiet s0 (smpInject a1 a2 a3 a4 a5).2 := by
  unfold smpInject
  refine keep_foldlPair (P := Quiet s0) ?_ ?_
  · intro x1 x2 h3
    split
    · exact h3
    · generalize hp5 : @smpInject1 _ _ _ _ _ _ = p4
      have h6 : Quiet s0 p4.2 := by
        rw [← hp5]
        refine smpInject1_quiet ?_
        exact h3
      clear hp5
      revert p4
      rintro ⟨v7, s8⟩ h9
      replace h9 : Quiet s0 s8 := h9
      dsimp -zeta only
      exact h9
  · refine keep_mk2 (P := Quiet s0) ?_
    exact g5

theorem putGq_quiet {s0 : State} {a1 a2 a3} (g3 : Quiet s0 a3) : Quiet s0 (putGq a1 a2 a3) := by
  unfold putGq
  exact Quiet.upd g3 rfl

theorem hmSend_quiet {s0 : State} {a1 a2} (g2 : Quiet s0 a2) : Quiet s0 (hmSend a1 a2) := by
  unfold hmSend
  split
  · exact g2
  · refine keep_cond (P := Quiet s0) (fun _ => ?_) (fun _ => ?_)
    · exact g2
    · extract_lets +onlyGivenNames s1
      have h2 : Quiet s0 s1 := by
        simp only [s1]
        refine (advanceToTime_calm (Calm.refl _)).toQuiet ?_
        exact g2
      clear_value s1
      refine keep_cond (P := Quiet s0) (fun _ => ?_) (fun _ => ?_)
      · exact h2
      · refine putGq_quiet ?_
        exact h2

theorem putTq_quiet {s0 : State} {a1 a2 a3 a4} (g4 : Quiet s0 a4) : Quiet s0 (putTq a1 a2 a3 a4) := by
  unfold putTq
  exact Quiet.upd g4 rfl

theorem hmRemove_quiet {s0 : State} {a1 a2} (g2 : Quiet s0 a2) : Quiet s0 (hmRemove a1 a2) := by
  unfold hmRemove
  refine keep_cond (P := Quiet s0) (fun _ => ?_) (fun _ => ?_)
  · refine putGq_quiet ?_
    exact g2
  · refine keep_cond (P := Quiet s0) (fun _ => ?_) (fun _ => ?_)
    · refine putTq_quiet ?_
      exact g2
    · exact g2

theorem hmCancel_quiet {s0 : State} {a1 a2} (g2 : Quiet s0 a2) : Quiet s0 (hmCancel a1 a2) := by
  unfold hmCancel
  split
  · exact Quiet.upd g2 rfl
  · refine keep_cond (P := Quiet s0) (fun _ => ?_) (fun _ => ?_)
    · exact Quiet.upd g2 rfl
    · extract_lets +onlyGivenNames s1
      have h2 : Quiet s0 s1 := by
        simp only [s1]
        refine hmRemove_quiet ?_
        exact g2
      clear_value s1
      exact Quiet.upd h2 rfl

theorem claspDiscard_quiet {s0 : State} {a1 a2} (g2 : Quiet s0 a2) : Quiet s0 (claspDiscard a1 a2) := by
  unfold claspDiscard
  refine keep_cond (P := Quiet s0) (fun _ => ?_) (fun _ => ?_)
  · exact g2
  · exact Quiet.upd g2 rfl

theorem hmDiscardOne_quiet {s0 : State} {a1 a2 a3 a4} (g4 : Quiet s0 a4) : Quiet s0 (hmDiscardOne a1 a2 a3 a4) := by
  unfold hmDiscardOne
  extract_lets +onlyGivenNames s1
  have h2 : Quiet s0 s1 := by
    simp only [s1]
    refine hmRemove_quiet ?_
    exact g4
  clear_value s1
  extract_lets +onlyGivenNames s3
  extract_lets +onlyGivenNames s4
  have h5 : Quiet s0 s4 := by
    simp only [s4]
    exact Quiet.upd h2 rfl
  clear_value s4
  refine keep_cond (P := Quiet s0) (fun _ => ?_) (fun _ => ?_)
  · refine claspDiscard_quiet ?_
    exact h5
  · exact h5

theorem hmDiscard_quiet {s0 : State} {a1 a2 a3} (g3 : Quiet s0 a3) : Quiet s0 (hmDiscard a1 a2 a3) := by
  unfold hmDiscard
  refine keep_forEach (P := Quiet s0) ?_ ?_
  · intro x1 x2 h3
    refine hmDiscardOne_quiet ?_
    exact h3
  · exact g3

theorem hmDiscardAll_quiet {s0 : State} {a1 a2} (g2 : Quiet s0 a2) : Quiet s0 (hmDiscardAll a1 a2) := by
  unfold hmDiscardAll
  refine hmDiscard_quiet ?_
  exact g2

theorem hmSubmit_quiet {s0 : State} {a1 a2 a3 a4 a5 a6 a7} (g7 : Quiet s0 a7) : Quiet s0 (hmSubmit a1 a2 a3 a4 a5 a6 a7) := by
  unfold hmSubmit
  extract_lets +onlyGivenNames t1
  clear_value t1
  extract_lets +onlyGivenNames r2
  clear_value r2
  extract_lets +onlyGivenNames s3
  extract_lets +onlyGivenNames s4
  have h5 : Quiet s0 s4 := by
    simp only [s4]
    exact Quiet.upd g7 rfl
  clear_value s4
  refine keep_cond (P := Quiet s0) (fun _ => ?_) (fun _ => ?_)
  · exact h5
  · extract_lets +onlyGivenNames e6
    clear_value e6
    extract_lets +onlyGivenNames s7
    extract_lets +onlyGivenNames s8
    have h9 : Quiet s0 s8 := by
      simp only [s8]
      exact Quiet.upd h5 rfl
    clear_value s8
    refine keep_cond (P := Quiet s0) (fun _ => ?_) (fun _ => ?_)
    · extract_lets +onlyGivenNames tl10
      clear_value tl10
      split
      · exact h9
      · refine putTq_quiet ?_
        exact Quiet.upd h9 rfl
    · split
      · exact h9
      · refine putGq_quiet ?_
        exact Quiet.upd h9 rfl

theorem hmDiscardTile_quiet {s0 : State} {a1 a2 a3} (g3 : Quiet s0 a3) : Quiet s0 (hmDiscardTile a1 a2 a3) := by
  unfold hmDiscardTile
  refine keep_forEach (P := Quiet s0) ?_ ?_
  · intro x1 x2 h3
    refine hmDiscardOne_quiet ?_
    exact h3
  · exact g3

theorem hmSubmitTile_quiet {s0 : State} {a1 a2 a3 a4 a5 a6 a7} (g7 : Quiet s0 a7) : Quiet s0 (hmSubmitTile a1 a2 a3 a4 a5 a6 a7) := by
  unfold hmSubmitTile
  extract_lets +onlyGivenNames s1
  have h2 : Quiet s0 s1 := by
    simp only [s1]
    refine hmSubmit_quiet ?_
    exact g7
  clear_value s1
  extract_lets +onlyGivenNames tl3
  refine keep_cond (P := Quiet s0) (fun _ => ?_) (fun _ => ?_)
  · refine hmDiscardTile_quiet ?_
    exact h2
  · exact h2

theorem hmDiscardXdev_quiet {s0 : State} {a1} (g1 : Quiet s0 a1) : Quiet s0 (hmDiscardXdev a1) := by
  unfold hmDiscardXdev
  refine hmDiscard_quiet ?_
  exact g1

theorem submitSwitch_quiet {s0 : State} {a1 a2 a3} (g3 : Quiet s0 a3) : Quiet s0 (submitSwitch a1 a2 a3).2 := by
  unfold submitSwitch
  extract_lets +onlyGivenNames t1
  have h2 : Quiet s0 t1 := by
    simp only [t1]
    refine hmSubmit_quiet ?_
    exact g3
  clear_value t1
  refine keep_mk2 (P := Quiet s0) ?_
  exact Quiet.upd h2 rfl

theorem injMatch_quiet {s0 : State} {a1 a2 a3} (g3 : Quiet s0 a3) : Quiet s0 (injMatch a1 a2 a3) := by
  unfold injMatch
  extract_lets +onlyGivenNames here1
  clear_value here1
  refine keep_cond (P := Quiet s0) (fun _ => ?_) (fun _ => ?_)
  · exact g3
  · split
    · exact Quiet.upd g3 rfl
    · refine (regSetBit_calm (Calm.refl _)).toQuiet ?_
      exact g3

theorem updDom_quiet {s0 : State} {a1 a2 a3} (g3 : Quiet s0 a3) : Quiet s0 (updDom a1 a2 a3) := by
  unfold updDom
  exact Quiet.upd g3 rfl

theorem fltCount_quiet {s0 : State} {a1 a2 a3} (g3 : Quiet s0 a3) : Quiet s0 (fltCount a1 a2 a3).2 := by
  unfold fltCount
  extract_lets +onlyGivenNames d1
  clear_value d1
  extract_lets +onlyGivenNames ws2
  clear_value ws2
  extract_lets +onlyGivenNames inp3
  clear_value inp3
  extract_lets +onlyGivenNames w4
  clear_value w4
  extract_lets +onlyGivenNames rest5
  clear_value rest5
  refine keep_cond2 (P := Quiet s0) (fun _ => ?_) (fun _ => ?_)
  · refine keep_mk2 (P := Quiet s0) ?_
    refine updDom_quiet ?_
    exact g3
  · refine keep_mk2 (P := Quiet s0) ?_
    refine updDom_quiet ?_
    exact g3

theorem fltNote_quiet {s0 : State} {a1 a2 a3} (g3 : Quiet s0 a3) : Quiet s0 (fltNote a1 a2 a3).2 := by
  unfold fltNote
  extract_lets +onlyGivenNames d1
  clear_value d1
  extract_lets +onlyGivenNames s2
  have h3 : Quiet s0 s2 := by
    simp only [s2]
    refine injMatch_quiet ?_
    refine (regSetBit_calm (Calm.refl _)).toQuiet ?_
    exact g3
  clear_value s2
  refine keep_cond2 (P := Quiet s0) (fun _ => ?_) (fun _ => ?_)
  · refine keep_mk2 (P := Quiet s0) ?_
    refine (count_calm (Calm.refl _)).toQuiet ?_
    exact h3
  · refine fltCount_quiet ?_
    exact h3

theorem quietStart_quiet {s0 : State} {a1 a2} (g2 : Quiet s0 a2) : Quiet s0 (quietStart a1 a2) := by
  unfold quietStart
  refine updDom_quiet ?_
  exact g2

theorem globalSevere_quiet {s0 : State} {a1} (g1 : Quiet s0 a1) : Quiet s0 (globalSevere a1) := by
  unfold globalSevere
  split
  · refine quietStart_quiet ?_
    refine updDom_quiet ?_
    exact g1
  · refine quietStart_quiet ?_
    exact g1
  · exact g1

theorem fltGlobal_quiet {s0 : State} {a1 a2} (g2 : Quiet s0 a2) : Quiet s0 (fltGlobal a1 a2) := by
  unfold fltGlobal
  generalize hp2 : @fltNote _ _ _ = p1
  have h3 : Quiet s0 p1.2 := by
    rw [← hp2]
    refine fltNote_quiet ?_
    exact g2
  clear hp2
  revert p1
  rintro ⟨v4, s5⟩ h6
  replace h6 : Quiet s0 s5 := h6
  dsimp -zeta only
  refine keep_cond (P := Quiet s0) (fun _ => ?_) (fun _ => ?_)
  · refine globalSevere_quiet ?_
    exact h6
  · exact h6

theorem timeRoot_quiet {s0 : State} {a1} (g1 : Quiet s0 a1) : Quiet s0 (timeRoot a1) := by
  unfold timeRoot
  refine (setTrim_calm (Calm.refl _)).toQuiet ?_
  exact Quiet.upd g1 rfl

theorem forwardAlign_quiet {s0 : State} {a1 a2} (g2 : Quiet s0 a2) : Quiet s0 (forwardAlign a1 a2) := by
  unfold forwardAlign
  refine keep_cond (P := Quiet s0) (fun _ => ?_) (fun _ => ?_)
  · exact Quiet.upd g2 rfl
  · refine timeRoot_quiet ?_
    exact g2

theorem holdBegin_quiet {s0 : State} {a1} (g1 : Quiet s0 a1) : Quiet s0 (holdBegin a1) := by
  unfold holdBegin
  exact Quiet.upd g1 rfl

theorem childRefresh_quiet {s0 : State} {a1} (g1 : Quiet s0 a1) : Quiet s0 (childRefresh a1) := by
  unfold childRefresh
  extract_lets +onlyGivenNames was1
  clear_value was1
  extract_lets +onlyGivenNames lost2
  clear_value lost2
  extract_lets +onlyGivenNames s3
  extract_lets +onlyGivenNames s4
  have h5 : Quiet s0 s4 := by
    simp only [s4]
    exact Quiet.upd g1 rfl
  refine keep_cond (P := Quiet s0) (fun _ => ?_) (fun _ => ?_)
  · exact h5
  · refine keep_cond (P := Quiet s0) (fun _ => ?_) (fun _ => ?_)
    · refine holdBegin_quiet ?_
      refine (setTrim_calm (Calm.refl _)).toQuiet ?_
      exact h5
    · extract_lets +onlyGivenNames s6
      have h7 : Quiet s0 s6 := by
        simp only [s6]
        split
        · refine keep_cond (P := Quiet s0) (fun _ => ?_) (fun _ => ?_)
          · refine (setTrim_calm (Calm.refl _)).toQuiet ?_
            exact h5
          · exact h5
        · exact h5
      clear_value s6
      refine keep_cond (P := Quiet s0) (fun _ => ?_) (fun _ => ?_)
      · refine holdBegin_quiet ?_
        exact h7
      · exact h7

theorem timeLocal_quiet {s0 : State} {a1} (g1 : Quiet s0 a1) : Quiet s0 (timeLocal a1) := by
  unfold timeLocal
  refine hmDiscardXdev_quiet ?_
  refine (setTrim_calm (Calm.refl _)).toQuiet ?_
  exact Quiet.upd g1 rfl

theorem syncOff_quiet {s0 : State} {a1} (g1 : Quiet s0 a1) : Quiet s0 (syncOff a1) := by
  unfold syncOff
  refine keep_cond (P := Quiet s0) (fun _ => ?_) (fun _ => ?_)
  · refine timeLocal_quiet ?_
    exact g1
  · exact Quiet.upd g1 rfl

theorem timeStepDo_quiet {s0 : State} {a1} (g1 : Quiet s0 a1) : Quiet s0 (timeStepDo a1) := by
  unfold timeStepDo
  split
  · exact g1
  · refine keep_cond (P := Quiet s0) (fun _ => ?_) (fun _ => ?_)
    · exact g1
    · extract_lets +onlyGivenNames s1
      have h2 : Quiet s0 s1 := by
        simp only [s1]
        refine (advanceToFrame_calm (Calm.refl _)).toQuiet ?_
        exact g1
      clear_value s1
      extract_lets +onlyGivenNames f3
      clear_value f3
      extract_lets +onlyGivenNames s4
      extract_lets +onlyGivenNames s5
      extract_lets +onlyGivenNames s6
      have h7 : Quiet s0 s6 := by
        simp only [s6]
        refine (setSlots_calm (Calm.refl _)).toQuiet ?_
        exact Quiet.upd h2 rfl
      clear_value s6
      extract_lets +onlyGivenNames s8
      have h9 : Quiet s0 s8 := by
        simp only [s8]
        refine hmDiscardAll_quiet ?_
        exact h7
      clear_value s8
      refine keep_cond (P := Quiet s0) (fun _ => ?_) (fun _ => ?_)
      · refine timeRoot_quiet ?_
        exact h9
      · exact Quiet.upd h9 rfl

theorem timeStart_quiet {s0 : State} {a1} (g1 : Quiet s0 a1) : Quiet s0 (timeStart a1) := by
  unfold timeStart
  refine keep_cond (P := Quiet s0) (fun _ => ?_) (fun _ => ?_)
  · exact g1
  · extract_lets +onlyGivenNames t1
    clear_value t1
    refine (setSlots_calm (Calm.refl _)).toQuiet ?_
    exact Quiet.upd g1 rfl

theorem setCopies_quiet {s0 : State} {a1 a2} (g2 : Quiet s0 a2) : Quiet s0 (setCopies a1 a2) := by
  unfold setCopies
  refine keep_forEach (P := Quiet s0) ?_ ?_
  · intro x1 x2 h3
    refine updTile_quiet ?_
    exact h3
  · refine keep_forEach (P := Quiet s0) ?_ ?_
    · intro x4 x5 h6
      refine updTile_quiet ?_
      exact h6
    · exact g2

theorem timeLoss_quiet {s0 : State} {a1} (g1 : Quiet s0 a1) : Quiet s0 (timeLoss a1) := by
  unfold timeLoss
  refine fltGlobal_quiet ?_
  refine timeLocal_quiet ?_
  exact g1

theorem holdoverExpireDo_quiet {s0 : State} {a1} (g1 : Quiet s0 a1) : Quiet s0 (holdoverExpireDo a1) := by
  unfold holdoverExpireDo
  refine keep_cond (P := Quiet s0) (fun _ => ?_) (fun _ => ?_)
  · refine timeLoss_quiet ?_
    refine (advanceTo_calm (Calm.refl _)).toQuiet ?_
    exact g1
  · exact g1

theorem servo_quiet {s0 : State} {a1 a2} (g2 : Quiet s0 a2) : Quiet s0 (servo a1 a2) := by
  unfold servo
  extract_lets +onlyGivenNames clamp1
  clear_value clamp1
  extract_lets +onlyGivenNames p2
  clear_value p2
  extract_lets +onlyGivenNames integ3
  clear_value integ3
  refine (setTrim_calm (Calm.refl _)).toQuiet ?_
  exact Quiet.upd g2 rfl

theorem rootRefresh_quiet {s0 : State} {a1} (g1 : Quiet s0 a1) : Quiet s0 (rootRefresh a1) := by
  unfold rootRefresh
  refine keep_cond (P := Quiet s0) (fun _ => ?_) (fun _ => ?_)
  · exact g1
  · extract_lets +onlyGivenNames s1
    extract_lets +onlyGivenNames s2
    have h3 : Quiet s0 s2 := by
      simp only [s2]
      refine (setTrim_calm (Calm.refl _)).toQuiet ?_
      exact Quiet.upd g1 rfl
    clear_value s2
    refine keep_cond (P := Quiet s0) (fun _ => ?_) (fun _ => ?_)
    · exact Quiet.upd h3 rfl
    · refine timeRoot_quiet ?_
      exact h3

theorem realign_quiet {s0 : State} {a1 a2 a3} (g1 : ∀ y1 y2, Quiet s0 y2 → Quiet s0 (a1 y1 y2)) (g3 : Quiet s0 a3) : Quiet s0 (realign a1 a2 a3) := by
  unfold realign
  refine keep_cond (P := Quiet s0) (fun _ => ?_) (fun _ => ?_)
  · exact g3
  · extract_lets +onlyGivenNames s1
    have h2 : Quiet s0 s1 := by
      simp only [s1]
      refine (advanceToTime_calm (Calm.refl _)).toQuiet ?_
      exact g3
    extract_lets +onlyGivenNames found3
    clear_value found3
    refine keep_forEach (P := Quiet s0) ?_ ?_
    · intro x4 x5 h6
      refine g1 _ _ ?_
      exact h6
    · refine setCopies_quiet ?_
      exact h2

theorem timeRefresh_quiet {s0 : State} {a1} (g1 : Quiet s0 a1) : Quiet s0 (timeRefresh a1) := by
  unfold timeRefresh
  extract_lets +onlyGivenNames s1
  extract_lets +onlyGivenNames s2
  have h3 : Quiet s0 s2 := by
    simp only [s2]
    exact Quiet.upd g1 rfl
  refine keep_cond (P := Quiet s0) (fun _ => ?_) (fun _ => ?_)
  · exact h3
  · refine keep_cond (P := Quiet s0) (fun _ => ?_) (fun _ => ?_)
    · refine rootRefresh_quiet ?_
      exact h3
    · refine childRefresh_quiet ?_
      exact h3

theorem lowerExchange_quiet {s0 : State} {a1 a2 a3 a4} (g4 : Quiet s0 a4) : Quiet s0 (lowerExchange a1 a2 a3 a4) := by
  unfold lowerExchange
  extract_lets +onlyGivenNames s1
  have h2 : Quiet s0 s1 := by
    simp only [s1]
    refine (exchangeDone_calm (Calm.refl _)).toQuiet ?_
    exact g4
  clear_value s1
  refine keep_cond (P := Quiet s0) (fun _ => ?_) (fun _ => ?_)
  · refine forwardAlign_quiet ?_
    exact h2
  · refine keep_cond (P := Quiet s0) (fun _ => ?_) (fun _ => ?_)
    · exact h2
    · extract_lets +onlyGivenNames s3
      extract_lets +onlyGivenNames s4
      have h5 : Quiet s0 s4 := by
        simp only [s4]
        exact Quiet.upd h2 rfl
      clear_value s4
      extract_lets +onlyGivenNames within6
      clear_value within6
      split
      · exact h5
      · exact Quiet.upd h5 rfl
      · extract_lets +onlyGivenNames run7
        clear_value run7
        refine keep_cond (P := Quiet s0) (fun _ => ?_) (fun _ => ?_)
        · refine timeLoss_quiet ?_
          exact h5
        · extract_lets +onlyGivenNames s8
          extract_lets +onlyGivenNames s9
          have h10 : Quiet s0 s9 := by
            simp only [s9]
            exact Quiet.upd h5 rfl
          clear_value s9
          refine keep_cond (P := Quiet s0) (fun _ => ?_) (fun _ => ?_)
          · refine (setTrim_calm (Calm.refl _)).toQuiet ?_
            exact h10
          · refine servo_quiet ?_
            exact h10

theorem elect_quiet {s0 : State} {a1} (g1 : Quiet s0 a1) : Quiet s0 (elect a1) := by
  unfold elect
  refine keep_cond (P := Quiet s0) (fun _ => ?_) (fun _ => ?_)
  · extract_lets +onlyGivenNames p1
    clear_value p1
    extract_lets +onlyGivenNames p2
    clear_value p2
    split
    · exact Quiet.upd g1 rfl
    · exact Quiet.upd g1 rfl
  · extract_lets +onlyGivenNames own3
    clear_value own3
    extract_lets +onlyGivenNames pins4
    clear_value pins4
    extract_lets +onlyGivenNames conf5
    clear_value conf5
    extract_lets +onlyGivenNames p6
    clear_value p6
    split
    · exact Quiet.upd g1 rfl
    · refine keep_cond (P := Quiet s0) (fun _ => ?_) (fun _ => ?_)
      · extract_lets +onlyGivenNames s7
        have h8 : Quiet s0 s7 := by
          simp only [s7]
          exact Quiet.upd g1 rfl
        clear_value s7
        refine keep_cond (P := Quiet s0) (fun _ => ?_) (fun _ => ?_)
        · exact h8
        · exact Quiet.upd h8 rfl
      · split
        · exact g1
        · extract_lets +onlyGivenNames depth9
          clear_value depth9
          extract_lets +onlyGivenNames path10
          clear_value path10
          extract_lets +onlyGivenNames fresh11
          clear_value fresh11
          extract_lets +onlyGivenNames disc12
          clear_value disc12
          exact Quiet.upd g1 rfl

theorem takeMsg_quiet {s0 : State} {a1 a2 a3} (g3 : Quiet s0 a3) : Quiet s0 (takeMsg a1 a2 a3).2 := by
  unfold takeMsg
  extract_lets +onlyGivenNames hit1
  clear_value hit1
  split
  · refine keep_mk2 (P := Quiet s0) ?_
    exact g3
  · refine keep_mk2 (P := Quiet s0) ?_
    exact Quiet.upd g3 rfl

theorem rootActs_quiet {s0 : State} {a1} (g1 : Quiet s0 a1) : Quiet s0 (rootActs a1) := by
  unfold rootActs
  refine keep_cond (P := Quiet s0) (fun _ => ?_) (fun _ => ?_)
  · exact g1
  · extract_lets +onlyGivenNames root1
    clear_value root1
    extract_lets +onlyGivenNames l2
    clear_value l2
    extract_lets +onlyGivenNames s3
    extract_lets +onlyGivenNames s4
    have h5 : Quiet s0 s4 := by
      simp only [s4]
      exact Quiet.upd g1 rfl
    clear_value s4
    extract_lets +onlyGivenNames s6
    have h7 : Quiet s0 s6 := by
      simp only [s6]
      refine keep_forEach (P := Quiet s0) ?_ ?_
      · intro x8 x9 h10
        refine (sendPath_calm (Calm.refl _)).toQuiet ?_
        exact h10
      · exact h5
    clear_value s6
    extract_lets +onlyGivenNames nodes11
    clear_value nodes11
    extract_lets +onlyGivenNames ver12
    clear_value ver12
    extract_lets +onlyGivenNames t13
    clear_value t13
    extract_lets +onlyGivenNames s14
    have h15 : Quiet s0 s14 := by
      simp only [s14]
      refine keep_forEach (P := Quiet s0) ?_ ?_
      · intro x16 x17 h18
        refine keep_forEach (P := Quiet s0) ?_ ?_
        · intro x19 x20 h21
          refine (sendPath_calm (Calm.refl _)).toQuiet ?_
          exact h21
        · exact h18
      · exact h7
    clear_value s14
    split
    · exact h15
    · exact Quiet.upd h15 rfl

theorem reportLinks_quiet {s0 : State} {a1} (g1 : Quiet s0 a1) : Quiet s0 (reportLinks a1) := by
  unfold reportLinks
  refine keep_cond (P := Quiet s0) (fun _ => ?_) (fun _ => ?_)
  · exact g1
  · refine keep_cond (P := Quiet s0) (fun _ => ?_) (fun _ => ?_)
    · refine keep_cond (P := Quiet s0) (fun _ => ?_) (fun _ => ?_)
      · exact g1
      · refine rootActs_quiet ?_
        exact g1
    · refine (sendUp_calm (Calm.refl _)).toQuiet ?_
      exact g1

theorem reachUpdate_quiet {s0 : State} {a1} (g1 : Quiet s0 a1) : Quiet s0 (reachUpdate a1) := by
  unfold reachUpdate
  extract_lets +onlyGivenNames old1
  clear_value old1
  extract_lets +onlyGivenNames new2
  clear_value new2
  extract_lets +onlyGivenNames s3
  extract_lets +onlyGivenNames s4
  have h5 : Quiet s0 s4 := by
    simp only [s4]
    exact Quiet.upd g1 rfl
  clear_value s4
  extract_lets +onlyGivenNames s6
  have h7 : Quiet s0 s6 := by
    simp only [s6]
    refine keep_forEach (P := Quiet s0) ?_ ?_
    · intro x8 x9 h10
      refine (peerClosed_calm (Calm.refl _)).toQuiet ?_
      exact h10
    · exact h5
  clear_value s6
  refine keep_forEach (P := Quiet s0) ?_ ?_
  · intro x11 x12 h13
    refine (peerOpen_calm (Calm.refl _)).toQuiet ?_
    exact h13
  · exact h7

theorem poolAround_quiet {s0 : State} {a1 a2} (g1 : ∀ y1, Quiet s0 y1 → Quiet s0 (a1 y1)) (g2 : Quiet s0 a2) : Quiet s0 (poolAround a1 a2) := by
  unfold poolAround
  extract_lets +onlyGivenNames hello1
  clear_value hello1
  extract_lets +onlyGivenNames place2
  clear_value place2
  extract_lets +onlyGivenNames ids3
  clear_value ids3
  extract_lets +onlyGivenNames s4
  have h5 : Quiet s0 s4 := by
    simp only [s4]
    refine elect_quiet ?_
    refine g1 _ ?_
    exact g2
  clear_value s4
  extract_lets +onlyGivenNames s6
  have h7 : Quiet s0 s6 := by
    simp only [s6]
    refine keep_cond (P := Quiet s0) (fun _ => ?_) (fun _ => ?_)
    · exact h5
    · refine keep_forEach (P := Quiet s0) ?_ ?_
      · intro x8 x9 h10
        refine (sendHello_calm (Calm.refl _)).toQuiet ?_
        exact h10
      · exact h5
  clear_value s6
  extract_lets +onlyGivenNames s11
  have h12 : Quiet s0 s11 := by
    simp only [s11]
    refine keep_cond (P := Quiet s0) (fun _ => ?_) (fun _ => ?_)
    · exact h7
    · refine (sendUp_calm (Calm.refl _)).toQuiet ?_
      exact h7
  clear_value s11
  extract_lets +onlyGivenNames ids13
  clear_value ids13
  extract_lets +onlyGivenNames s14
  have h15 : Quiet s0 s14 := by
    simp only [s14]
    refine keep_cond (P := Quiet s0) (fun _ => ?_) (fun _ => ?_)
    · exact h12
    · refine reportLinks_quiet ?_
      exact h12
  clear_value s14
  refine timeRefresh_quiet ?_
  refine reachUpdate_quiet ?_
  exact h15

theorem helloTake_quiet {s0 : State} {a1 a2} (g2 : Quiet s0 a2) : Quiet s0 (helloTake a1 a2) := by
  unfold helloTake
  generalize hp2 : @takeMsg _ _ _ = p1
  have h3 : Quiet s0 p1.2 := by
    rw [← hp2]
    refine takeMsg_quiet ?_
    exact g2
  clear hp2
  revert p1
  rintro ⟨_ | v4, s5⟩ h6
  · replace h6 : Quiet s0 s5 := h6
    dsimp -zeta only
    exact h6
  · replace h6 : Quiet s0 s5 := h6
    dsimp -zeta only
    extract_lets +onlyGivenNames h7
    clear_value h7
    extract_lets +onlyGivenNames set8
    have h9 : ∀ y1, Quiet s0 y1 → Quiet s0 (set8 y1) := by
      intro x10 h11
      simp only [set8]
      refine poolAround_quiet ?_ ?_
      · intro x12 h13
        refine (updLnk_calm (Calm.refl _)).toQuiet ?_
        exact h13
      · exact h11
    clear_value set8
    split
    · refine keep_cond (P := Quiet s0) (fun _ => ?_) (fun _ => ?_)
      · refine h9 _ ?_
        exact h6
      · exact h6
    · refine h9 _ ?_
      exact h6
    · exact h6

theorem rootSettleDo_quiet {s0 : State} {a1} (g1 : Quiet s0 a1) : Quiet s0 (rootSettleDo a1) := by
  unfold rootSettleDo
  refine keep_cond (P := Quiet s0) (fun _ => ?_) (fun _ => ?_)
  · refine poolAround_quiet ?_ ?_
    · intro x1 h2
      refine rootActs_quiet ?_
      exact h2
    · refine (advanceTo_calm (Calm.refl _)).toQuiet ?_
      exact g1
  · exact g1

theorem poolDeliver_quiet {s0 : State} {a1 a2 a3} (g3 : Quiet s0 a3) : Quiet s0 (poolDeliver a1 a2 a3) := by
  unfold poolDeliver
  extract_lets +onlyGivenNames mine1
  extract_lets +onlyGivenNames mine2
  have h3 : Quiet s0 mine2 := by
    simp only [mine2]
    exact Quiet.upd g3 rfl
  clear_value mine2
  split
  · exact h3
  · refine keep_cond (P := Quiet s0) (fun _ => ?_) (fun _ => ?_)
    · exact h3
    · refine keep_cond (P := Quiet s0) (fun _ => ?_) (fun _ => ?_)
      · refine (sendUp_calm (Calm.refl _)).toQuiet ?_
        exact g3
      · exact g3
  · extract_lets +onlyGivenNames i4
    clear_value i4
    extract_lets +onlyGivenNames e5
    clear_value e5
    refine keep_cond (P := Quiet s0) (fun _ => ?_) (fun _ => ?_)
    · exact h3
    · refine keep_cond (P := Quiet s0) (fun _ => ?_) (fun _ => ?_)
      · refine (sendOn_calm (Calm.refl _)).toQuiet ?_
        exact g3
      · exact g3
  · refine keep_cond (P := Quiet s0) (fun _ => ?_) (fun _ => ?_)
    · exact h3
    · refine keep_cond (P := Quiet s0) (fun _ => ?_) (fun _ => ?_)
      · refine (sendDev_calm (Calm.refl _)).toQuiet ?_
        exact g3
      · exact g3

theorem topoTake_quiet {s0 : State} {a1} (g1 : Quiet s0 a1) : Quiet s0 (topoTake a1) := by
  unfold topoTake
  generalize hp2 : @takeMsg _ _ _ = p1
  have h3 : Quiet s0 p1.2 := by
    rw [← hp2]
    refine takeMsg_quiet ?_
    exact g1
  clear hp2
  revert p1
  rintro ⟨_ | v4, s5⟩ h6
  · replace h6 : Quiet s0 s5 := h6
    dsimp -zeta only
    exact h6
  · replace h6 : Quiet s0 s5 := h6
    dsimp -zeta only
    refine keep_cond (P := Quiet s0) (fun _ => ?_) (fun _ => ?_)
    · exact h6
    · extract_lets +onlyGivenNames serial7
      clear_value serial7
      extract_lets +onlyGivenNames old8
      clear_value old8
      extract_lets +onlyGivenNames links9
      clear_value links9
      extract_lets +onlyGivenNames new10
      clear_value new10
      extract_lets +onlyGivenNames s11
      extract_lets +onlyGivenNames s12
      have h13 : Quiet s0 s12 := by
        simp only [s12]
        exact Quiet.upd h6 rfl
      clear_value s12
      refine keep_cond (P := Quiet s0) (fun _ => ?_) (fun _ => ?_)
      · exact h13
      · refine poolAround_quiet ?_ ?_
        · intro x14 h15
          refine rootActs_quiet ?_
          exact h15
        · exact h13

theorem enumAckTake_quiet {s0 : State} {a1} (g1 : Quiet s0 a1) : Quiet s0 (enumAckTake a1) := by
  unfold enumAckTake
  generalize hp2 : @takeMsg _ _ _ = p1
  have h3 : Quiet s0 p1.2 := by
    rw [← hp2]
    refine takeMsg_quiet ?_
    exact g1
  clear hp2
  revert p1
  rintro ⟨_ | v4, s5⟩ h6
  · replace h6 : Quiet s0 s5 := h6
    dsimp -zeta only
    exact h6
  · replace h6 : Quiet s0 s5 := h6
    dsimp -zeta only
    exact Quiet.upd h6 rfl

theorem enumTake_quiet {s0 : State} {a1} (g1 : Quiet s0 a1) : Quiet s0 (enumTake a1) := by
  unfold enumTake
  generalize hp2 : @takeMsg _ _ _ = p1
  have h3 : Quiet s0 p1.2 := by
    rw [← hp2]
    refine takeMsg_quiet ?_
    exact g1
  clear hp2
  revert p1
  rintro ⟨_ | v4, s5⟩ h6
  · replace h6 : Quiet s0 s5 := h6
    dsimp -zeta only
    exact h6
  · replace h6 : Quiet s0 s5 := h6
    dsimp -zeta only
    refine keep_cond (P := Quiet s0) (fun _ => ?_) (fun _ => ?_)
    · exact h6
    · extract_lets +onlyGivenNames s7
      extract_lets +onlyGivenNames s8
      have h9 : Quiet s0 s8 := by
        simp only [s8]
        exact Quiet.upd h6 rfl
      extract_lets +onlyGivenNames ack10
      have h11 : ∀ y1, Quiet s0 y1 → Quiet s0 (ack10 y1) := by
        intro x12 h13
        simp only [ack10]
        refine (sendUp_calm (Calm.refl _)).toQuiet ?_
        exact h13
      clear_value ack10
      refine keep_cond (P := Quiet s0) (fun _ => ?_) (fun _ => ?_)
      · refine h11 _ ?_
        exact h9
      · refine keep_cond (P := Quiet s0) (fun _ => ?_) (fun _ => ?_)
        · refine h11 _ ?_
          refine poolAround_quiet ?_ ?_
          · intro x14 h15
            exact Quiet.upd h15 rfl
          · exact h9
        · refine h11 _ ?_
          refine poolAround_quiet ?_ ?_
          · intro x16 h17
            exact Quiet.upd h17 rfl
          · exact h9

theorem plannerLoss_quiet {s0 : State} {a1 a2} (g2 : Quiet s0 a2) : Quiet s0 (plannerLoss a1 a2) := by
  unfold plannerLoss
  refine keep_cond (P := Quiet s0) (fun _ => ?_) (fun _ => ?_)
  · exact Quiet.upd g2 rfl
  · exact g2

theorem plannerSubmit_quiet {s0 : State} {a1} (g1 : Quiet s0 a1) : Quiet s0 (plannerSubmit a1) := by
  unfold plannerSubmit
  generalize hp2 : @submitSwitch _ _ _ = p1
  have h3 : Quiet s0 p1.2 := by
    rw [← hp2]
    refine submitSwitch_quiet ?_
    exact g1
  clear hp2
  revert p1
  rintro ⟨v4, s5⟩ h6
  replace h6 : Quiet s0 s5 := h6
  dsimp -zeta only
  exact Quiet.upd h6 rfl

theorem pushActive_quiet {s0 : State} {a1} (g1 : Quiet s0 a1) : Quiet s0 (pushActive a1) := by
  unfold pushActive
  exact Quiet.upd g1 rfl

theorem plannerResubmitDo_quiet {s0 : State} {a1} (g1 : Quiet s0 a1) : Quiet s0 (plannerResubmitDo a1) := by
  unfold plannerResubmitDo
  refine keep_cond (P := Quiet s0) (fun _ => ?_) (fun _ => ?_)
  · refine plannerSubmit_quiet ?_
    refine (advanceToFrame_calm (Calm.refl _)).toQuiet ?_
    exact g1
  · exact g1

theorem plannerBack_quiet {s0 : State} {a1} (g1 : Quiet s0 a1) : Quiet s0 (plannerBack a1) := by
  unfold plannerBack
  refine keep_cond (P := Quiet s0) (fun _ => ?_) (fun _ => ?_)
  · exact g1
  · split
    · exact Quiet.upd g1 rfl
    · exact Quiet.upd g1 rfl

theorem takeBlock_quiet {s0 : State} {a1 a2 a3 a4 a5} (g5 : ∀ y1, Quiet s0 y1 → Quiet s0 (a5 y1)) (g4 : Quiet s0 a4) : Quiet s0 (takeBlock a1 a2 a3 a4 a5) := by
  unfold takeBlock
  refine keep_cond (P := Quiet s0) (fun _ => ?_) (fun _ => ?_)
  · refine (countStrand_calm (Calm.refl _)).toQuiet ?_
    exact g4
  · refine keep_cond (P := Quiet s0) (fun _ => ?_) (fun _ => ?_)
    · refine g5 _ ?_
      exact g4
    · exact g4

theorem sessionDown_quiet {s0 : State} {a1 a2 a3} (g3 : Quiet s0 a3) : Quiet s0 (sessionDown a1 a2 a3) := by
  unfold sessionDown
  extract_lets +onlyGivenNames l1
  clear_value l1
  refine keep_cond (P := Quiet s0) (fun _ => ?_) (fun _ => ?_)
  · exact g3
  · extract_lets +onlyGivenNames s2
    have h3 : Quiet s0 s2 := by
      simp only [s2]
      refine (wasteUnacked_calm (Calm.refl _)).toQuiet ?_
      refine (countStrand_calm (Calm.refl _)).toQuiet ?_
      refine (reinject_calm (Calm.refl _)).toQuiet ?_
      exact g3
    clear_value s2
    refine poolAround_quiet ?_ ?_
    · intro x4 h5
      refine (updLnk_calm (Calm.refl _)).toQuiet ?_
      exact h5
    · exact h3

theorem strandDown_quiet {s0 : State} {a1 a2 a3} (g3 : Quiet s0 a3) : Quiet s0 (strandDown a1 a2 a3) := by
  unfold strandDown
  refine (phyRetrain_calm (Calm.refl _)).toQuiet ?_
  refine sessionDown_quiet ?_
  exact g3

theorem strandReset_quiet {s0 : State} {a1 a2} (g2 : Quiet s0 a2) : Quiet s0 (strandReset a1 a2) := by
  unfold strandReset
  extract_lets +onlyGivenNames p1
  clear_value p1
  extract_lets +onlyGivenNames was2
  clear_value was2
  extract_lets +onlyGivenNames s3
  have h4 : Quiet s0 s3 := by
    simp only [s3]
    refine (wasteUnacked_calm (Calm.refl _)).toQuiet ?_
    exact g2
  clear_value s3
  extract_lets +onlyGivenNames s5
  have h6 : Quiet s0 s5 := by
    simp only [s5]
    refine keep_cond (P := Quiet s0) (fun _ => ?_) (fun _ => ?_)
    · exact h4
    · refine (countStrand_calm (Calm.refl _)).toQuiet ?_
      exact h4
  clear_value s5
  extract_lets +onlyGivenNames s7
  have h8 : Quiet s0 s7 := by
    simp only [s7]
    refine (staleClear_calm (Calm.refl _)).toQuiet ?_
    exact h6
  clear_value s7
  extract_lets +onlyGivenNames s9
  have h10 : Quiet s0 s9 := by
    simp only [s9]
    refine poolAround_quiet ?_ ?_
    · intro x11 h12
      refine (updLnk_calm (Calm.refl _)).toQuiet ?_
      exact h12
    · exact h8
  clear_value s9
  extract_lets +onlyGivenNames s13
  have h14 : Quiet s0 s13 := by
    simp only [s13]
    refine (updPort_calm (Calm.refl _)).toQuiet ?_
    exact h10
  clear_value s13
  refine (phyIdle_calm (Calm.refl _)).toQuiet ?_
  refine (updPhy_calm (Calm.refl _)).toQuiet ?_
  exact h14

theorem portPowerDo_quiet {s0 : State} {a1 a2 a3} (g3 : Quiet s0 a3) : Quiet s0 (portPowerDo a1 a2 a3) := by
  unfold portPowerDo
  extract_lets +onlyGivenNames x1
  clear_value x1
  refine keep_cond (P := Quiet s0) (fun _ => ?_) (fun _ => ?_)
  · refine (portSticky_calm (Calm.refl _)).toQuiet ?_
    exact g3
  · refine keep_cond (P := Quiet s0) (fun _ => ?_) (fun _ => ?_)
    · extract_lets +onlyGivenNames off2
      clear_value off2
      extract_lets +onlyGivenNames start3
      clear_value start3
      extract_lets +onlyGivenNames s4
      extract_lets +onlyGivenNames s5
      have h6 : Quiet s0 s5 := by
        simp only [s5]
        refine keep_cond (P := Quiet s0) (fun _ => ?_) (fun _ => ?_)
        · exact Quiet.upd g3 rfl
        · exact g3
      clear_value s5
      refine (powerTo_calm (Calm.refl _)).toQuiet ?_
      refine (updPort_calm (Calm.refl _)).toQuiet ?_
      exact h6
    · refine (powerTo_calm (Calm.refl _)).toQuiet ?_
      exact g3

theorem tileWaveDo_quiet {s0 : State} {a1} (g1 : Quiet s0 a1) : Quiet s0 (tileWaveDo a1) := by
  unfold tileWaveDo
  refine keep_cond (P := Quiet s0) (fun _ => ?_) (fun _ => ?_)
  · exact g1
  · extract_lets +onlyGivenNames w1
    clear_value w1
    extract_lets +onlyGivenNames s2
    have h3 : Quiet s0 s2 := by
      simp only [s2]
      refine (advanceTo_calm (Calm.refl _)).toQuiet ?_
      exact g1
    clear_value s2
    extract_lets +onlyGivenNames s4
    extract_lets +onlyGivenNames s5
    have h6 : Quiet s0 s5 := by
      simp only [s5]
      exact Quiet.upd h3 rfl
    clear_value s5
    refine keep_forEach (P := Quiet s0) ?_ ?_
    · intro x7 x8 h9
      extract_lets +onlyGivenNames s10
      have h11 : Quiet s0 s10 := by
        simp only [s10]
        refine updTile_quiet ?_
        exact h9
      clear_value s10
      refine (portWave_calm (Calm.refl _)).toQuiet ?_
      refine (portWave_calm (Calm.refl _)).toQuiet ?_
      exact h11
    · exact h6

theorem faulted_quiet {s0 : State} {a1 a2} (g2 : Quiet s0 a2) : Quiet s0 (faulted a1 a2) := by
  unfold faulted
  refine quietStart_quiet ?_
  refine updDom_quiet ?_
  exact g2

theorem reactBegin_quiet {s0 : State} {a1 a2 a3} (g3 : Quiet s0 a3) : Quiet s0 (reactBegin a1 a2 a3) := by
  unfold reactBegin
  refine updDom_quiet ?_
  exact g3

theorem strandSevere_quiet {s0 : State} {a1 a2 a3} (g3 : Quiet s0 a3) : Quiet s0 (strandSevere a1 a2 a3) := by
  unfold strandSevere
  split
  · exact g3
  · refine quietStart_quiet ?_
    exact g3
  · extract_lets +onlyGivenNames s1
    have h2 : Quiet s0 s1 := by
      simp only [s1]
      refine faulted_quiet ?_
      refine reactBegin_quiet ?_
      exact g3
    clear_value s1
    extract_lets +onlyGivenNames s3
    have h4 : Quiet s0 s3 := by
      simp only [s3]
      refine (phyIdle_calm (Calm.refl _)).toQuiet ?_
      refine sessionDown_quiet ?_
      exact h2
    clear_value s3
    refine keep_cond (P := Quiet s0) (fun _ => ?_) (fun _ => ?_)
    · exact h4
    · refine updDom_quiet ?_
      exact h4

theorem rtrPurge_quiet {s0 : State} {a1 a2} (g2 : Quiet s0 a2) : Quiet s0 (rtrPurge a1 a2) := by
  unfold rtrPurge
  extract_lets +onlyGivenNames mineV1
  clear_value mineV1
  extract_lets +onlyGivenNames faces2
  clear_value faces2
  extract_lets +onlyGivenNames r3
  clear_value r3
  exact Quiet.upd g2 rfl

theorem admitTile_quiet {s0 : State} {a1 a2} (g2 : Quiet s0 a2) : Quiet s0 (admitTile a1 a2) := by
  unfold admitTile
  extract_lets +onlyGivenNames s1
  have h2 : Quiet s0 s1 := by
    simp only [s1]
    refine updTile_quiet ?_
    exact g2
  clear_value s1
  extract_lets +onlyGivenNames s3
  have h4 : Quiet s0 s3 := by
    simp only [s3]
    refine rtrPurge_quiet ?_
    exact h2
  clear_value s3
  extract_lets +onlyGivenNames s5
  have h6 : Quiet s0 s5 := by
    simp only [s5]
    refine keep_forEach (P := Quiet s0) ?_ ?_
    · intro x7 x8 h9
      refine (portReturn_calm (Calm.refl _)).toQuiet ?_
      exact h9
    · exact h4
  clear_value s5
  extract_lets +onlyGivenNames s10
  have h11 : Quiet s0 s10 := by
    simp only [s10]
    refine keep_forEach (P := Quiet s0) ?_ ?_
    · intro x12 x13 h14
      refine (phyIdle_calm (Calm.refl _)).toQuiet ?_
      exact h14
    · exact h6
  clear_value s10
  refine plannerBack_quiet ?_
  exact h11

theorem tileReadmitDo_quiet {s0 : State} {a1 a2} (g2 : Quiet s0 a2) : Quiet s0 (tileReadmitDo a1 a2) := by
  unfold tileReadmitDo
  refine keep_cond (P := Quiet s0) (fun _ => ?_) (fun _ => ?_)
  · refine (tileCmdRej_calm (Calm.refl _)).toQuiet ?_
    exact g2
  · refine keep_cond (P := Quiet s0) (fun _ => ?_) (fun _ => ?_)
    · refine admitTile_quiet ?_
      refine updDom_quiet ?_
      exact g2
    · refine updDom_quiet ?_
      exact g2

theorem removeLink_quiet {s0 : State} {a1 a2 a3 a4} (g4 : Quiet s0 a4) : Quiet s0 (removeLink a1 a2 a3 a4) := by
  unfold removeLink
  refine plannerLoss_quiet ?_
  refine updTile_quiet ?_
  exact g4

theorem isolateTile_quiet {s0 : State} {a1 a2} (g2 : Quiet s0 a2) : Quiet s0 (isolateTile a1 a2) := by
  unfold isolateTile
  extract_lets +onlyGivenNames s1
  have h2 : Quiet s0 s1 := by
    simp only [s1]
    refine updTile_quiet ?_
    exact g2
  clear_value s1
  extract_lets +onlyGivenNames s3
  have h4 : Quiet s0 s3 := by
    simp only [s3]
    refine rtrPurge_quiet ?_
    exact h2
  clear_value s3
  extract_lets +onlyGivenNames s5
  have h6 : Quiet s0 s5 := by
    simp only [s5]
    refine keep_forEach (P := Quiet s0) ?_ ?_
    · intro x7 x8 h9
      refine strandReset_quiet ?_
      exact h9
    · exact h4
  clear_value s5
  extract_lets +onlyGivenNames s10
  have h11 : Quiet s0 s10 := by
    simp only [s10]
    refine keep_forEach (P := Quiet s0) ?_ ?_
    · intro x12 x13 h14
      refine (portIsolate_calm (Calm.refl _)).toQuiet ?_
      exact h14
    · exact h6
  clear_value s10
  extract_lets +onlyGivenNames s15
  have h16 : Quiet s0 s15 := by
    simp only [s15]
    refine keep_forEach (P := Quiet s0) ?_ ?_
    · intro x17 x18 h19
      refine (staleClear_calm (Calm.refl _)).toQuiet ?_
      exact h19
    · exact h11
  clear_value s15
  extract_lets +onlyGivenNames s20
  have h21 : Quiet s0 s20 := by
    simp only [s20]
    refine hmDiscardTile_quiet ?_
    exact h16
  clear_value s20
  extract_lets +onlyGivenNames s22
  have h23 : Quiet s0 s22 := by
    simp only [s22]
    refine (isolationReport_calm (Calm.refl _)).toQuiet ?_
    exact h21
  clear_value s22
  extract_lets +onlyGivenNames s24
  have h25 : Quiet s0 s24 := by
    simp only [s24]
    refine (lkTileLost_calm (Calm.refl _)).toQuiet ?_
    exact h23
  clear_value s24
  refine plannerLoss_quiet ?_
  exact h25

theorem tileSevere_quiet {s0 : State} {a1 a2 a3} (g3 : Quiet s0 a3) : Quiet s0 (tileSevere a1 a2 a3) := by
  unfold tileSevere
  split
  · exact g3
  · refine quietStart_quiet ?_
    exact g3
  · extract_lets +onlyGivenNames s1
    have h2 : Quiet s0 s1 := by
      simp only [s1]
      refine faulted_quiet ?_
      exact g3
    clear_value s1
    refine keep_cond (P := Quiet s0) (fun _ => ?_) (fun _ => ?_)
    · refine updTile_quiet ?_
      exact h2
    · split
      · refine removeLink_quiet ?_
        refine reactBegin_quiet ?_
        exact h2
      · refine isolateTile_quiet ?_
        refine reactBegin_quiet ?_
        exact h2

theorem portSevere_quiet {s0 : State} {a1 a2} (g2 : Quiet s0 a2) : Quiet s0 (portSevere a1 a2) := by
  unfold portSevere
  split
  · exact g2
  · refine quietStart_quiet ?_
    exact g2
  · refine keep_cond (P := Quiet s0) (fun _ => ?_) (fun _ => ?_)
    · refine updDom_quiet ?_
      refine faulted_quiet ?_
      exact g2
    · extract_lets +onlyGivenNames s1
      have h2 : Quiet s0 s1 := by
        simp only [s1]
        refine faulted_quiet ?_
        refine reactBegin_quiet ?_
        exact g2
      clear_value s1
      refine (updPort_calm (Calm.refl _)).toQuiet ?_
      refine (peerDownDo_calm (Calm.refl _)).toQuiet ?_
      exact h2

theorem faultEvent_quiet {s0 : State} {a1 a2 a3} (g3 : Quiet s0 a3) : Quiet s0 (faultEvent a1 a2 a3) := by
  unfold faultEvent
  generalize hp2 : @fltNote _ _ _ = p1
  have h3 : Quiet s0 p1.2 := by
    rw [← hp2]
    refine fltNote_quiet ?_
    exact g3
  clear hp2
  revert p1
  rintro ⟨v4, s5⟩ h6
  replace h6 : Quiet s0 s5 := h6
  dsimp -zeta only
  refine keep_cond (P := Quiet s0) (fun _ => ?_) (fun _ => ?_)
  · exact h6
  · split
    · refine tileSevere_quiet ?_
      exact h6
    · refine strandSevere_quiet ?_
      exact h6
    · refine portSevere_quiet ?_
      exact h6
    · refine globalSevere_quiet ?_
      exact h6

theorem injAct_quiet {s0 : State} {a1 a2} (g2 : Quiet s0 a2) : Quiet s0 (injAct a1 a2) := by
  unfold injAct
  split
  · exact g2
  · exact Quiet.upd g2 rfl

theorem windowEndDo_quiet {s0 : State} {a1 a2 a3} (g3 : Quiet s0 a3) : Quiet s0 (windowEndDo a1 a2 a3) := by
  unfold windowEndDo
  split
  · exact g3
  · refine updDom_quiet ?_
    refine (advanceTo_calm (Calm.refl _)).toQuiet ?_
    exact g3

theorem readmit_quiet {s0 : State} {a1 a2} (g2 : Quiet s0 a2) : Quiet s0 (readmit a1 a2) := by
  unfold readmit
  extract_lets +onlyGivenNames byLink1
  clear_value byLink1
  extract_lets +onlyGivenNames s2
  have h3 : Quiet s0 s2 := by
    simp only [s2]
    refine updDom_quiet ?_
    exact g2
  clear_value s2
  split
  · refine keep_cond (P := Quiet s0) (fun _ => ?_) (fun _ => ?_)
    · refine plannerBack_quiet ?_
      refine updTile_quiet ?_
      exact h3
    · refine keep_cond (P := Quiet s0) (fun _ => ?_) (fun _ => ?_)
      · refine admitTile_quiet ?_
        exact h3
      · exact h3
  · refine (phyIdle_calm (Calm.refl _)).toQuiet ?_
    exact h3
  · refine (updPort_calm (Calm.refl _)).toQuiet ?_
    exact h3
  · exact h3

theorem reactionDoneDo_quiet {s0 : State} {a1 a2} (g2 : Quiet s0 a2) : Quiet s0 (reactionDoneDo a1 a2) := by
  unfold reactionDoneDo
  extract_lets +onlyGivenNames x1
  clear_value x1
  extract_lets +onlyGivenNames wait2
  clear_value wait2
  refine keep_cond (P := Quiet s0) (fun _ => ?_) (fun _ => ?_)
  · exact g2
  · extract_lets +onlyGivenNames s3
    have h4 : Quiet s0 s3 := by
      simp only [s3]
      refine (advanceTo_calm (Calm.refl _)).toQuiet ?_
      exact g2
    clear_value s3
    extract_lets +onlyGivenNames s5
    have h6 : Quiet s0 s5 := by
      simp only [s5]
      refine updDom_quiet ?_
      exact h4
    clear_value s5
    refine keep_cond (P := Quiet s0) (fun _ => ?_) (fun _ => ?_)
    · split
      · refine keep_cond (P := Quiet s0) (fun _ => ?_) (fun _ => ?_)
        · refine admitTile_quiet ?_
          refine updDom_quiet ?_
          exact h6
        · refine readmit_quiet ?_
          exact h6
      · refine readmit_quiet ?_
        exact h6
    · exact h6

theorem shadowEndDo_quiet {s0 : State} {a1 a2} (g2 : Quiet s0 a2) : Quiet s0 (shadowEndDo a1 a2) := by
  unfold shadowEndDo
  extract_lets +onlyGivenNames x1
  clear_value x1
  refine keep_cond (P := Quiet s0) (fun _ => ?_) (fun _ => ?_)
  · refine updDom_quiet ?_
    refine (advanceTo_calm (Calm.refl _)).toQuiet ?_
    exact g2
  · exact g2

theorem fltReadmitDo_quiet {s0 : State} {a1 a2} (g2 : Quiet s0 a2) : Quiet s0 (fltReadmitDo a1 a2) := by
  unfold fltReadmitDo
  extract_lets +onlyGivenNames x1
  clear_value x1
  refine keep_cond (P := Quiet s0) (fun _ => ?_) (fun _ => ?_)
  · exact g2
  · extract_lets +onlyGivenNames s2
    have h3 : Quiet s0 s2 := by
      simp only [s2]
      refine updDom_quiet ?_
      exact g2
    clear_value s2
    refine keep_cond (P := Quiet s0) (fun _ => ?_) (fun _ => ?_)
    · refine readmit_quiet ?_
      exact h3
    · refine updDom_quiet ?_
      exact h3

theorem fltAckDo_quiet {s0 : State} {a1 a2} (g2 : Quiet s0 a2) : Quiet s0 (fltAckDo a1 a2) := by
  unfold fltAckDo
  refine updDom_quiet ?_
  exact g2

theorem quietExpireDo_quiet {s0 : State} {a1 a2} (g2 : Quiet s0 a2) : Quiet s0 (quietExpireDo a1 a2) := by
  unfold quietExpireDo
  extract_lets +onlyGivenNames x1
  clear_value x1
  refine keep_cond (P := Quiet s0) (fun _ => ?_) (fun _ => ?_)
  · exact g2
  · extract_lets +onlyGivenNames s2
    have h3 : Quiet s0 s2 := by
      simp only [s2]
      refine (advanceTo_calm (Calm.refl _)).toQuiet ?_
      exact g2
    clear_value s2
    extract_lets +onlyGivenNames rc4
    clear_value rc4
    extract_lets +onlyGivenNames s5
    have h6 : Quiet s0 s5 := by
      simp only [s5]
      refine updDom_quiet ?_
      exact h3
    clear_value s5
    refine keep_cond (P := Quiet s0) (fun _ => ?_) (fun _ => ?_)
    · refine readmit_quiet ?_
      exact h6
    · extract_lets +onlyGivenNames s7
      have h8 : Quiet s0 s7 := by
        simp only [s7]
        refine updDom_quiet ?_
        exact h6
      clear_value s7
      split
      · refine hmDiscardTile_quiet ?_
        exact h8
      · exact h8

theorem tileIsolateDo_quiet {s0 : State} {a1 a2} (g2 : Quiet s0 a2) : Quiet s0 (tileIsolateDo a1 a2) := by
  unfold tileIsolateDo
  extract_lets +onlyGivenNames okMode1
  clear_value okMode1
  refine keep_cond (P := Quiet s0) (fun _ => ?_) (fun _ => ?_)
  · refine (tileCmdRej_calm (Calm.refl _)).toQuiet ?_
    exact g2
  · refine isolateTile_quiet ?_
    refine reactBegin_quiet ?_
    refine updTile_quiet ?_
    exact g2

theorem injEndDo_quiet {s0 : State} {a1 a2 a3} (g3 : Quiet s0 a3) : Quiet s0 (injEndDo a1 a2 a3) := by
  unfold injEndDo
  extract_lets +onlyGivenNames here1
  clear_value here1
  split
  · exact g3
  · extract_lets +onlyGivenNames s2
    have h3 : Quiet s0 s2 := by
      simp only [s2]
      refine (advanceTo_calm (Calm.refl _)).toQuiet ?_
      exact g3
    clear_value s2
    extract_lets +onlyGivenNames s4
    extract_lets +onlyGivenNames s5
    have h6 : Quiet s0 s5 := by
      simp only [s5]
      exact Quiet.upd h3 rfl
    clear_value s5
    refine keep_cond (P := Quiet s0) (fun _ => ?_) (fun _ => ?_)
    · refine (regSetBit_calm (Calm.refl _)).toQuiet ?_
      exact h6
    · exact h6

theorem injectDo_quiet {s0 : State} {a1 a2 a3 a4} (g1 : ∀ y1 y2 y3, Quiet s0 y3 → Quiet s0 (a1 y1 y2 y3)) (g4 : Quiet s0 a4) : Quiet s0 (injectDo a1 a2 a3 a4) := by
  unfold injectDo
  extract_lets +onlyGivenNames e1
  clear_value e1
  refine keep_cond (P := Quiet s0) (fun _ => ?_) (fun _ => ?_)
  · exact g4
  · extract_lets +onlyGivenNames kind2
    clear_value kind2
    extract_lets +onlyGivenNames net3
    clear_value net3
    extract_lets +onlyGivenNames cnt4
    clear_value cnt4
    extract_lets +onlyGivenNames u5
    clear_value u5
    extract_lets +onlyGivenNames a6
    clear_value a6
    extract_lets +onlyGivenNames b7
    clear_value b7
    extract_lets +onlyGivenNames dur8
    clear_value dur8
    extract_lets +onlyGivenNames base9
    clear_value base9
    extract_lets +onlyGivenNames add10
    have h11 : ∀ y1 y2, Quiet s0 y2 → Quiet s0 (add10 y1 y2) := by
      intro x12 x13 h14
      simp only [add10]
      exact Quiet.upd h14 rfl
    clear_value add10
    split
    · refine keep_cond (P := Quiet s0) (fun _ => ?_) (fun _ => ?_)
      · exact g4
      · split
        · refine h11 _ _ ?_
          exact g4
        · exact g4
    · split
      · refine h11 _ _ ?_
        exact g4
      · exact g4
    · split
      · extract_lets +onlyGivenNames i15
        clear_value i15
        extract_lets +onlyGivenNames s16
        have h17 : Quiet s0 s16 := by
          simp only [s16]
          refine h11 _ _ ?_
          exact g4
        clear_value s16
        refine keep_cond (P := Quiet s0) (fun _ => ?_) (fun _ => ?_)
        · refine g1 _ _ _ ?_
          exact h17
        · exact h17
      · exact g4
    · refine keep_cond (P := Quiet s0) (fun _ => ?_) (fun _ => ?_)
      · exact g4
      · split
        · refine h11 _ _ ?_
          exact g4
        · exact g4
    · extract_lets +onlyGivenNames p18
      clear_value p18
      refine keep_cond (P := Quiet s0) (fun _ => ?_) (fun _ => ?_)
      · refine (updPort_calm (Calm.refl _)).toQuiet ?_
        exact g4
      · exact g4
    · exact g4

theorem crdPut_quiet {s0 : State} {a1 a2 a3} (g3 : Quiet s0 a3) : Quiet s0 (crdPut a1 a2 a3) := by
  unfold crdPut
  exact Quiet.upd g3 rfl

theorem crdReturn_quiet {s0 : State} {a1 a2} (g2 : Quiet s0 a2) : Quiet s0 (crdReturn a1 a2) := by
  unfold crdReturn
  extract_lets +onlyGivenNames c1
  clear_value c1
  refine crdPut_quiet ?_
  exact Quiet.upd g2 rfl

theorem creditIn_quiet {s0 : State} {a1 a2 a3 a4 a5} (g5 : Quiet s0 a5) : Quiet s0 (creditIn a1 a2 a3 a4 a5) := by
  unfold creditIn
  split
  · exact g5
  · refine keep_cond (P := Quiet s0) (fun _ => ?_) (fun _ => ?_)
    · exact g5
    · refine keep_cond (P := Quiet s0) (fun _ => ?_) (fun _ => ?_)
      · refine crdReturn_quiet ?_
        exact g5
      · extract_lets +onlyGivenNames s1
        have h2 : Quiet s0 s1 := by
          simp only [s1]
          refine keep_cond (P := Quiet s0) (fun _ => ?_) (fun _ => ?_)
          · refine (tileEv_calm (Calm.refl _)).toQuiet ?_
            exact g5
          · split
            · refine keep_cond (P := Quiet s0) (fun _ => ?_) (fun _ => ?_)
              · refine (tileEv_calm (Calm.refl _)).toQuiet ?_
                exact g5
              · exact g5
            · exact g5
        clear_value s1
        refine faultEvent_quiet ?_
        exact h2

theorem vcPut_quiet {s0 : State} {a1 a2 a3} (g3 : Quiet s0 a3) : Quiet s0 (vcPut a1 a2 a3) := by
  unfold vcPut
  exact Quiet.upd g3 rfl

theorem arrive_quiet {s0 : State} {a1 a2 a3 a4 a5 a6 a7} (g7 : Quiet s0 a7) : Quiet s0 (arrive a1 a2 a3 a4 a5 a6 a7).2 := by
  unfold arrive
  split
  extract_lets +onlyGivenNames v1
  clear_value v1
  extract_lets +onlyGivenNames s2
  have h3 : Quiet s0 s2 := by
    simp only [s2]
    refine keep_cond (P := Quiet s0) (fun _ => ?_) (fun _ => ?_)
    · refine faultEvent_quiet ?_
      refine (tileEv_calm (Calm.refl _)).toQuiet ?_
      exact g7
    · exact g7
  clear_value s2
  extract_lets +onlyGivenNames s4
  have h5 : Quiet s0 s4 := by
    simp only [s4]
    refine keep_cond (P := Quiet s0) (fun _ => ?_) (fun _ => ?_)
    · refine faultEvent_quiet ?_
      refine (tileEv_calm (Calm.refl _)).toQuiet ?_
      exact h3
    · exact h3
  clear_value s4
  extract_lets +onlyGivenNames s6
  have h7 : Quiet s0 s6 := by
    simp only [s6]
    refine keep_cond (P := Quiet s0) (fun _ => ?_) (fun _ => ?_)
    · refine faultEvent_quiet ?_
      exact h5
    · exact h5
  clear_value s6
  split
  · refine keep_mk2 (P := Quiet s0) ?_
    refine creditIn_quiet ?_
    exact h7
  · extract_lets +onlyGivenNames k8
    clear_value k8
    refine keep_cond2 (P := Quiet s0) (fun _ => ?_) (fun _ => ?_)
    · refine keep_mk2 (P := Quiet s0) ?_
      exact h7
    · refine keep_cond2 (P := Quiet s0) (fun _ => ?_) (fun _ => ?_)
      · refine keep_mk2 (P := Quiet s0) ?_
        refine faultEvent_quiet ?_
        refine (tileEv_calm (Calm.refl _)).toQuiet ?_
        exact h7
      · refine keep_mk2 (P := Quiet s0) ?_
        refine vcPut_quiet ?_
        exact h7

theorem ansPut_quiet {s0 : State} {a1 a2 a3} (g3 : Quiet s0 a3) : Quiet s0 (ansPut a1 a2 a3) := by
  unfold ansPut
  exact Quiet.upd g3 rfl

theorem ansFeed_quiet {s0 : State} {a1 a2} (g2 : Quiet s0 a2) : Quiet s0 (ansFeed a1 a2) := by
  unfold ansFeed
  split
  · exact g2
  · extract_lets +onlyGivenNames k1
    clear_value k1
    refine keep_cond (P := Quiet s0) (fun _ => ?_) (fun _ => ?_)
    · exact g2
    · extract_lets +onlyGivenNames c2
      clear_value c2
      extract_lets +onlyGivenNames b3
      clear_value b3
      refine arrive_quiet ?_
      refine crdPut_quiet ?_
      refine ansPut_quiet ?_
      exact g2

theorem creditBack_quiet {s0 : State} {a1 a2 a3 a4 a5} (g5 : Quiet s0 a5) : Quiet s0 (creditBack a1 a2 a3 a4 a5) := by
  unfold creditBack
  extract_lets +onlyGivenNames s1
  have h2 : Quiet s0 s1 := by
    simp only [s1]
    refine creditIn_quiet ?_
    exact g5
  clear_value s1
  extract_lets +onlyGivenNames hit3
  clear_value hit3
  refine keep_cond (P := Quiet s0) (fun _ => ?_) (fun _ => ?_)
  · refine creditIn_quiet ?_
    refine injAct_quiet ?_
    exact h2
  · exact h2

theorem popHead_quiet {s0 : State} {a1 a2} (g2 : Quiet s0 a2) : Quiet s0 (popHead a1 a2) := by
  unfold popHead
  split
  · exact g2
  · refine vcPut_quiet ?_
    exact g2

theorem routerAnswer_quiet {s0 : State} {a1 a2 a3} (g3 : Quiet s0 a3) : Quiet s0 (routerAnswer a1 a2 a3) := by
  unfold routerAnswer
  extract_lets +onlyGivenNames f1
  clear_value f1
  extract_lets +onlyGivenNames f2
  clear_value f2
  split
  rename_i v5 s6 e7
  have h8 : Quiet s0 s6 := by
    refine (congrArg (fun q => Quiet s0 q.2) e7).mp ?_
    refine keep_cond2 (P := Quiet s0) (fun _ => ?_) (fun _ => ?_)
    · refine (drawSeq_calm (Calm.refl _)).toQuiet ?_
      exact g3
    · refine keep_mk2 (P := Quiet s0) ?_
      exact g3
  extract_lets +onlyGivenNames f10
  clear_value f10
  extract_lets +onlyGivenNames f11
  clear_value f11
  refine ansPut_quiet ?_
  exact h8

theorem consume_quiet {s0 : State} {a1 a2 a3 a4} (g4 : Quiet s0 a4) : Quiet s0 (consume a1 a2 a3 a4) := by
  unfold consume
  extract_lets +onlyGivenNames s1
  have h2 : Quiet s0 s1 := by
    simp only [s1]
    refine creditBack_quiet ?_
    refine popHead_quiet ?_
    exact g4
  clear_value s1
  extract_lets +onlyGivenNames s3
  have h4 : Quiet s0 s3 := by
    simp only [s3]
    refine keep_cond (P := Quiet s0) (fun _ => ?_) (fun _ => ?_)
    · refine routerAnswer_quiet ?_
      exact h2
    · exact h2
  clear_value s3
  split
  · refine faultEvent_quiet ?_
    refine (tileEv_calm (Calm.refl _)).toQuiet ?_
    exact h4
  · refine (tileEv_calm (Calm.refl _)).toQuiet ?_
    exact h4

theorem consumeAll_quiet {s0 : State} {a1 a2 a3 a4} (g4 : Quiet s0 a4) : Quiet s0 (consumeAll a1 a2 a3 a4).2 := by
  unfold consumeAll
  refine keep_foldlPair (P := Quiet s0) ?_ ?_
  · intro x1 x2 h3
    split
    · refine keep_cond2 (P := Quiet s0) (fun _ => ?_) (fun _ => ?_)
      · refine keep_mk2 (P := Quiet s0) ?_
        refine consume_quiet ?_
        exact h3
      · exact h3
    · exact h3
  · refine keep_mk2 (P := Quiet s0) ?_
    exact g4

theorem displaceAll_quiet {s0 : State} {a1 a2 a3 a4} (g4 : Quiet s0 a4) : Quiet s0 (displaceAll a1 a2 a3 a4) := by
  unfold displaceAll
  refine keep_forEach (P := Quiet s0) ?_ ?_
  · intro x1 x2 h3
    extract_lets +onlyGivenNames meets4
    clear_value meets4
    refine keep_cond (P := Quiet s0) (fun _ => ?_) (fun _ => ?_)
    · exact h3
    · extract_lets +onlyGivenNames k5
      clear_value k5
      extract_lets +onlyGivenNames s6
      have h7 : Quiet s0 s6 := by
        simp only [s6]
        refine vcPut_quiet ?_
        exact h3
      clear_value s6
      refine (regSetBit_calm (Calm.refl _)).toQuiet ?_
      exact h7
  · exact g4

theorem sendOne_quiet {s0 : State} {a1 a2 a3 a4 a5} (g5 : Quiet s0 a5) : Quiet s0 (sendOne a1 a2 a3 a4 a5).2 := by
  unfold sendOne
  split
  extract_lets +onlyGivenNames c1
  clear_value c1
  extract_lets +onlyGivenNames bump2
  clear_value bump2
  extract_lets +onlyGivenNames f3
  clear_value f3
  extract_lets +onlyGivenNames old4
  clear_value old4
  extract_lets +onlyGivenNames s5
  have h6 : Quiet s0 s5 := by
    simp only [s5]
    refine popHead_quiet ?_
    exact g5
  clear_value s5
  extract_lets +onlyGivenNames s7
  have h8 : Quiet s0 s7 := by
    simp only [s7]
    refine creditBack_quiet ?_
    exact h6
  clear_value s7
  extract_lets +onlyGivenNames s9
  have h10 : Quiet s0 s9 := by
    simp only [s9]
    refine (tileEv_calm (Calm.refl _)).toQuiet ?_
    exact h8
  clear_value s9
  extract_lets +onlyGivenNames s11
  have h12 : Quiet s0 s11 := by
    simp only [s11]
    refine (countN_calm (Calm.refl _)).toQuiet ?_
    exact h10
  clear_value s11
  extract_lets +onlyGivenNames s13
  have h14 : Quiet s0 s13 := by
    simp only [s13]
    refine keep_cond (P := Quiet s0) (fun _ => ?_) (fun _ => ?_)
    · refine (tileEv_calm (Calm.refl _)).toQuiet ?_
      exact h12
    · exact h12
  clear_value s13
  extract_lets +onlyGivenNames s15
  have h16 : Quiet s0 s15 := by
    simp only [s15]
    refine keep_cond (P := Quiet s0) (fun _ => ?_) (fun _ => ?_)
    · refine (tileEv_calm (Calm.refl _)).toQuiet ?_
      exact h14
    · exact h14
  clear_value s15
  extract_lets +onlyGivenNames s17
  have h18 : Quiet s0 s17 := by
    simp only [s17]
    refine (tileEv_calm (Calm.refl _)).toQuiet ?_
    exact h16
  clear_value s17
  extract_lets +onlyGivenNames s19
  have h20 : Quiet s0 s19 := by
    simp only [s19]
    split
    · refine keep_cond (P := Quiet s0) (fun _ => ?_) (fun _ => ?_)
      · refine faultEvent_quiet ?_
        refine (tileEv_calm (Calm.refl _)).toQuiet ?_
        exact h18
      · exact h18
    · refine (tileEv_calm (Calm.refl _)).toQuiet ?_
      exact h16
    · refine (tileEv_calm (Calm.refl _)).toQuiet ?_
      exact h16
    · exact h16
  clear_value s19
  extract_lets +onlyGivenNames s21
  extract_lets +onlyGivenNames s22
  have h23 : Quiet s0 s22 := by
    simp only [s22]
    exact Quiet.upd h20 rfl
  clear_value s22
  extract_lets +onlyGivenNames flip24
  clear_value flip24
  extract_lets +onlyGivenNames act25
  clear_value act25
  extract_lets +onlyGivenNames s26
  have h27 : Quiet s0 s26 := by
    simp only [s26]
    refine keep_cond (P := Quiet s0) (fun _ => ?_) (fun _ => ?_)
    · refine injAct_quiet ?_
      exact h23
    · exact h23
  clear_value s26
  extract_lets +onlyGivenNames bits28
  clear_value bits28
  extract_lets +onlyGivenNames par29
  clear_value par29
  extract_lets +onlyGivenNames vc30
  clear_value vc30
  extract_lets +onlyGivenNames ready31
  clear_value ready31
  extract_lets +onlyGivenNames b32
  clear_value b32
  extract_lets +onlyGivenNames b33
  clear_value b33
  split
  · extract_lets +onlyGivenNames q34
    clear_value q34
    extract_lets +onlyGivenNames s35
    have h36 : Quiet s0 s35 := by
      simp only [s35]
      refine (setEjCredit_calm (Calm.refl _)).toQuiet ?_
      refine (tileEv_calm (Calm.refl _)).toQuiet ?_
      exact h27
    clear_value s35
    extract_lets +onlyGivenNames s37
    have h38 : Quiet s0 s37 := by
      simp only [s37]
      refine keep_cond (P := Quiet s0) (fun _ => ?_) (fun _ => ?_)
      · refine smpEnd_quiet ?_
        exact h36
      · exact h36
    clear_value s37
    extract_lets +onlyGivenNames b39
    clear_value b39
    extract_lets +onlyGivenNames s40
    have h41 : Quiet s0 s40 := by
      simp only [s40]
      refine keep_cond (P := Quiet s0) (fun _ => ?_) (fun _ => ?_)
      · refine faultEvent_quiet ?_
        exact h38
      · exact h38
    clear_value s40
    refine keep_mk2 (P := Quiet s0) ?_
    refine (updPort_calm (Calm.refl _)).toQuiet ?_
    exact h41
  · extract_lets +onlyGivenNames q42
    clear_value q42
    extract_lets +onlyGivenNames s43
    have h44 : Quiet s0 s43 := by
      simp only [s43]
      refine (setEjCredit_calm (Calm.refl _)).toQuiet ?_
      refine (tileEv_calm (Calm.refl _)).toQuiet ?_
      exact h27
    clear_value s43
    extract_lets +onlyGivenNames s45
    have h46 : Quiet s0 s45 := by
      simp only [s45]
      refine keep_cond (P := Quiet s0) (fun _ => ?_) (fun _ => ?_)
      · refine smpEnd_quiet ?_
        exact h44
      · exact h44
    clear_value s45
    extract_lets +onlyGivenNames b47
    clear_value b47
    extract_lets +onlyGivenNames s48
    have h49 : Quiet s0 s48 := by
      simp only [s48]
      refine keep_cond (P := Quiet s0) (fun _ => ?_) (fun _ => ?_)
      · refine faultEvent_quiet ?_
        exact h46
      · exact h46
    clear_value s48
    refine keep_mk2 (P := Quiet s0) ?_
    refine (updPort_calm (Calm.refl _)).toQuiet ?_
    exact h49
  · split
    · refine keep_mk2 (P := Quiet s0) ?_
      exact h27
    · extract_lets +onlyGivenNames k50
      clear_value k50
      extract_lets +onlyGivenNames b51
      clear_value b51
      refine arrive_quiet ?_
      refine crdPut_quiet ?_
      exact h27

theorem starve_quiet {s0 : State} {a1 a2 a3 a4 a5 a6 a7} (g7 : Quiet s0 a7) : Quiet s0 (starve a1 a2 a3 a4 a5 a6 a7) := by
  unfold starve
  extract_lets +onlyGivenNames k1
  clear_value k1
  extract_lets +onlyGivenNames waits2
  clear_value waits2
  extract_lets +onlyGivenNames step3
  clear_value step3
  exact Quiet.upd g7 rfl

theorem sendAll_quiet {s0 : State} {a1 a2 a3 a4 a5 a6} (g6 : Quiet s0 a6) : Quiet s0 (sendAll a1 a2 a3 a4 a5 a6).2 := by
  unfold sendAll
  refine keep_foldlPair (P := Quiet s0) ?_ ?_
  · intro x1 x2 h3
    extract_lets +onlyGivenNames ch4
    clear_value ch4
    extract_lets +onlyGivenNames unused5
    clear_value unused5
    extract_lets +onlyGivenNames cs6
    clear_value cs6
    extract_lets +onlyGivenNames inSlot7
    clear_value inSlot7
    extract_lets +onlyGivenNames counted8
    clear_value counted8
    extract_lets +onlyGivenNames r9
    have h10 : Quiet s0 r9.2 := by
      simp only [r9]
      refine sendOne_quiet ?_
      exact h3
    clear_value r9
    refine keep_mk2 (P := Quiet s0) ?_
    refine keep_whenB (P := Quiet s0) ?_ ?_
    · intro x11 h12
      refine (tileEv_calm (Calm.refl _)).toQuiet ?_
      exact h12
    · refine starve_quiet ?_
      exact h10
  · refine keep_mk2 (P := Quiet s0) ?_
    exact g6

theorem routerCycle_quiet {s0 : State} {a1 a2 a3 a4} (g4 : Quiet s0 a4) : Quiet s0 (routerCycle a1 a2 a3 a4) := by
  unfold routerCycle
  refine keep_cond (P := Quiet s0) (fun _ => ?_) (fun _ => ?_)
  · exact g4
  · extract_lets +onlyGivenNames s1
    have h2 : Quiet s0 s1 := by
      simp only [s1]
      refine keep_whenB (P := Quiet s0) ?_ ?_
      · intro x3 h4
        refine ansFeed_quiet ?_
        exact h4
      · exact g4
    clear_value s1
    extract_lets +onlyGivenNames hs5
    clear_value hs5
    extract_lets +onlyGivenNames eaten6
    have h7 : Quiet s0 eaten6.2 := by
      simp only [eaten6]
      refine consumeAll_quiet ?_
      exact h2
    clear_value eaten6
    extract_lets +onlyGivenNames s8
    have h9 : Quiet s0 s8 := by
      simp only [s8]
      exact h7
    clear_value s8
    extract_lets +onlyGivenNames hs10
    clear_value hs10
    extract_lets +onlyGivenNames lost11
    clear_value lost11
    extract_lets +onlyGivenNames s12
    have h13 : Quiet s0 s12 := by
      simp only [s12]
      refine displaceAll_quiet ?_
      exact h9
    clear_value s12
    extract_lets +onlyGivenNames hs14
    clear_value hs14
    extract_lets +onlyGivenNames chs15
    clear_value chs15
    extract_lets +onlyGivenNames out16
    clear_value out16
    extract_lets +onlyGivenNames s17
    have h18 : Quiet s0 s17 := by
      simp only [s17]
      refine (countN_calm (Calm.refl _)).toQuiet ?_
      exact h13
    clear_value s17
    extract_lets +onlyGivenNames sent19
    have h20 : Quiet s0 sent19.2 := by
      simp only [sent19]
      refine sendAll_quiet ?_
      exact h18
    clear_value sent19
    extract_lets +onlyGivenNames idle21
    clear_value idle21
    extract_lets +onlyGivenNames s22
    have h23 : Quiet s0 s22 := by
      simp only [s22]
      refine keep_forEach (P := Quiet s0) ?_ ?_
      · intro x24 x25 h26
        refine starve_quiet ?_
        exact h26
      · exact h20
    clear_value s22
    extract_lets +onlyGivenNames s27
    have h28 : Quiet s0 s27 := by
      simp only [s27]
      refine keep_forEach (P := Quiet s0) ?_ ?_
      · intro x29 x30 h31
        refine (countSlot_calm (Calm.refl _)).toQuiet ?_
        exact h31
      · exact h23
    clear_value s27
    extract_lets +onlyGivenNames s32
    have h33 : Quiet s0 s32 := by
      simp only [s32]
      refine keep_whenB (P := Quiet s0) ?_ ?_
      · intro x34 h35
        refine keep_forEach (P := Quiet s0) ?_ ?_
        · intro x36 x37 h38
          refine (countPort_calm (Calm.refl _)).toQuiet ?_
          exact h38
        · exact h35
      · exact h28
    clear_value s32
    refine (countLate_calm (Calm.refl _)).toQuiet ?_
    exact h33

theorem runSlot_quiet {s0 : State} {a1 a2 a3} (g3 : Quiet s0 a3) : Quiet s0 (runSlot a1 a2 a3) := by
  unfold runSlot
  extract_lets +onlyGivenNames s1
  have h2 : Quiet s0 s1 := by
    simp only [s1]
    refine (advanceToSlot_calm (Calm.refl _)).toQuiet ?_
    exact g3
  clear_value s1
  extract_lets +onlyGivenNames s3
  have h4 : Quiet s0 s3 := by
    simp only [s3]
    refine keep_cond (P := Quiet s0) (fun _ => ?_) (fun _ => ?_)
    · refine (advance_calm (Calm.refl _)).toQuiet ?_
      exact h2
    · exact h2
  clear_value s3
  exact Quiet.upd h4 rfl

theorem routerGrantDo_quiet {s0 : State} {a1 a2 a3 a4 a5} (g5 : Quiet s0 a5) : Quiet s0 (routerGrantDo a1 a2 a3 a4 a5) := by
  unfold routerGrantDo
  refine routerCycle_quiet ?_
  refine runSlot_quiet ?_
  exact g5

theorem trToTeDo_quiet {s0 : State} {a1 a2 a3 a4 a5} (g5 : Quiet s0 a5) : Quiet s0 (trToTeDo a1 a2 a3 a4 a5) := by
  unfold trToTeDo
  extract_lets +onlyGivenNames key1
  clear_value key1
  split
  · exact g5
  · refine keep_cond (P := Quiet s0) (fun _ => ?_) (fun _ => ?_)
    · exact g5
    · extract_lets +onlyGivenNames s2
      have h3 : Quiet s0 s2 := by
        simp only [s2]
        refine (advanceToSlot_calm (Calm.refl _)).toQuiet ?_
        refine (advanceTo_calm (Calm.refl _)).toQuiet ?_
        exact g5
      clear_value s2
      extract_lets +onlyGivenNames s4
      have h5 : Quiet s0 s4 := by
        simp only [s4]
        refine vcPut_quiet ?_
        exact h3
      clear_value s4
      refine (tileEv_calm (Calm.refl _)).toQuiet ?_
      exact h5

theorem injectNow_quiet {s0 : State} {a1 a2 a3 a4} (g4 : Quiet s0 a4) : Quiet s0 (injectNow a1 a2 a3 a4) := by
  unfold injectNow
  extract_lets +onlyGivenNames c1
  clear_value c1
  extract_lets +onlyGivenNames f2
  clear_value f2
  extract_lets +onlyGivenNames f3
  clear_value f3
  extract_lets +onlyGivenNames key4
  clear_value key4
  extract_lets +onlyGivenNames bit5
  clear_value bit5
  extract_lets +onlyGivenNames s6
  have h7 : Quiet s0 s6 := by
    simp only [s6]
    refine (updPort_calm (Calm.refl _)).toQuiet ?_
    refine crdPut_quiet ?_
    exact g4
  clear_value s6
  extract_lets +onlyGivenNames bw8
  clear_value bw8
  extract_lets +onlyGivenNames s9
  have h10 : Quiet s0 s9 := by
    simp only [s9]
    refine keep_cond (P := Quiet s0) (fun _ => ?_) (fun _ => ?_)
    · refine (countPortN_calm (Calm.refl _)).toQuiet ?_
      exact h7
    · exact h7
  clear_value s9
  extract_lets +onlyGivenNames d11
  clear_value d11
  generalize hp13 : @smpInject _ _ _ _ _ = p12
  have h14 : Quiet s0 p12.2 := by
    rw [← hp13]
    refine smpInject_quiet ?_
    exact h10
  clear hp13
  revert p12
  rintro ⟨_ | v15, s16⟩ h17
  · replace h17 : Quiet s0 s16 := h17
    dsimp -zeta only
    extract_lets +onlyGivenNames b18
    clear_value b18
    extract_lets +onlyGivenNames s19
    have h20 : Quiet s0 s19 := by
      simp only [s19]
      refine arrive_quiet ?_
      exact h17
    clear_value s19
    extract_lets +onlyGivenNames s21
    have h22 : Quiet s0 s21 := by
      simp only [s21]
      split
      · refine (updPort_calm (Calm.refl _)).toQuiet ?_
        exact h20
      · exact h20
    clear_value s21
    extract_lets +onlyGivenNames s23
    have h24 : Quiet s0 s23 := by
      simp only [s23]
      refine (noteInfl_calm (Calm.refl _)).toQuiet ?_
      exact h22
    clear_value s23
    extract_lets +onlyGivenNames s25
    have h26 : Quiet s0 s25 := by
      simp only [s25]
      split
      · refine (rxFree_calm (Calm.refl _)).toQuiet ?_
        exact h24
      · exact h24
    clear_value s25
    refine (recredit_calm (Calm.refl _)).toQuiet ?_
    exact h26
  · replace h17 : Quiet s0 s16 := h17
    dsimp -zeta only
    extract_lets +onlyGivenNames b27
    clear_value b27
    extract_lets +onlyGivenNames s28
    have h29 : Quiet s0 s28 := by
      simp only [s28]
      refine arrive_quiet ?_
      exact h17
    clear_value s28
    extract_lets +onlyGivenNames s30
    have h31 : Quiet s0 s30 := by
      simp only [s30]
      split
      · refine (updPort_calm (Calm.refl _)).toQuiet ?_
        exact h29
      · exact h29
    clear_value s30
    extract_lets +onlyGivenNames s32
    have h33 : Quiet s0 s32 := by
      simp only [s32]
      refine (noteInfl_calm (Calm.refl _)).toQuiet ?_
      exact h31
    clear_value s32
    extract_lets +onlyGivenNames s34
    have h35 : Quiet s0 s34 := by
      simp only [s34]
      split
      · refine (rxFree_calm (Calm.refl _)).toQuiet ?_
        exact h33
      · exact h33
    clear_value s34
    refine (recredit_calm (Calm.refl _)).toQuiet ?_
    exact h35

theorem injectHead_quiet {s0 : State} {a1 a2 a3 a4} (g4 : Quiet s0 a4) : Quiet s0 (injectHead a1 a2 a3 a4) := by
  unfold injectHead
  split
  · refine injectNow_quiet ?_
    refine (popQ_calm (Calm.refl _)).toQuiet ?_
    exact g4
  · exact g4

theorem injectClass_quiet {s0 : State} {a1 a2 a3 a4} (g4 : Quiet s0 a4) : Quiet s0 (injectClass a1 a2 a3 a4) := by
  unfold injectClass
  extract_lets +onlyGivenNames q1
  clear_value q1
  extract_lets +onlyGivenNames head2
  clear_value head2
  refine keep_cond (P := Quiet s0) (fun _ => ?_) (fun _ => ?_)
  · extract_lets +onlyGivenNames s3
    have h4 : Quiet s0 s3 := by
      simp only [s3]
      refine (injStarve_calm (Calm.refl _)).toQuiet ?_
      exact g4
    clear_value s3
    split
    · refine (countStrand_calm (Calm.refl _)).toQuiet ?_
      refine injectHead_quiet ?_
      exact h4
    · refine injectHead_quiet ?_
      exact h4
  · extract_lets +onlyGivenNames keys5
    clear_value keys5
    extract_lets +onlyGivenNames s6
    have h7 : Quiet s0 s6 := by
      simp only [s6]
      refine keep_forEach (P := Quiet s0) ?_ ?_
      · intro x8 x9 h10
        refine (countHeld_calm (Calm.refl _)).toQuiet ?_
        exact h10
      · exact g4
    clear_value s6
    extract_lets +onlyGivenNames s11
    have h12 : Quiet s0 s11 := by
      simp only [s11]
      refine (updPort_calm (Calm.refl _)).toQuiet ?_
      exact h7
    clear_value s11
    extract_lets +onlyGivenNames s13
    have h14 : Quiet s0 s13 := by
      simp only [s13]
      refine (injStarve_calm (Calm.refl _)).toQuiet ?_
      exact h12
    clear_value s13
    split
    · exact h14
    · refine injectHead_quiet ?_
      exact h14

theorem offerTake_quiet {s0 : State} {a1 a2 a3} (g3 : Quiet s0 a3) : Quiet s0 (offerTake a1 a2 a3) := by
  unfold offerTake
  refine keep_cond (P := Quiet s0) (fun _ => ?_) (fun _ => ?_)
  · refine (updPort_calm (Calm.refl _)).toQuiet ?_
    exact g3
  · refine keep_cond (P := Quiet s0) (fun _ => ?_) (fun _ => ?_)
    · extract_lets +onlyGivenNames s1
      have h2 : Quiet s0 s1 := by
        simp only [s1]
        refine (countPort_calm (Calm.refl _)).toQuiet ?_
        exact g3
      clear_value s1
      refine keep_cond (P := Quiet s0) (fun _ => ?_) (fun _ => ?_)
      · refine (refuseReq_calm (Calm.refl _)).toQuiet ?_
        exact h2
      · exact h2
    · refine keep_cond (P := Quiet s0) (fun _ => ?_) (fun _ => ?_)
      · extract_lets +onlyGivenNames s3
        have h4 : Quiet s0 s3 := by
          simp only [s3]
          refine faultEvent_quiet ?_
          refine (tileEv_calm (Calm.refl _)).toQuiet ?_
          exact g3
        clear_value s3
        refine keep_cond (P := Quiet s0) (fun _ => ?_) (fun _ => ?_)
        · refine (refuseReq_calm (Calm.refl _)).toQuiet ?_
          exact h4
        · exact h4
      · refine keep_cond (P := Quiet s0) (fun _ => ?_) (fun _ => ?_)
        · refine (refuseReq_calm (Calm.refl _)).toQuiet ?_
          refine (countPort_calm (Calm.refl _)).toQuiet ?_
          exact g3
        · split
          · refine (offerReq_calm (Calm.refl _)).toQuiet ?_
            exact g3
          · refine (offerRsp_calm (Calm.refl _)).toQuiet ?_
            exact g3
          · refine (offerSnp_calm (Calm.refl _)).toQuiet ?_
            exact g3
          · refine (offerDat_calm (Calm.refl _)).toQuiet ?_
            exact g3

theorem offerDo_quiet {s0 : State} {a1 a2 a3} (g3 : Quiet s0 a3) : Quiet s0 (offerDo a1 a2 a3) := by
  unfold offerDo
  extract_lets +onlyGivenNames f1
  clear_value f1
  refine keep_cond (P := Quiet s0) (fun _ => ?_) (fun _ => ?_)
  · exact g3
  · extract_lets +onlyGivenNames s2
    have h3 : Quiet s0 s2 := by
      simp only [s2]
      refine (updPort_calm (Calm.refl _)).toQuiet ?_
      exact g3
    clear_value s2
    refine keep_cond (P := Quiet s0) (fun _ => ?_) (fun _ => ?_)
    · refine faultEvent_quiet ?_
      exact h3
    · refine keep_cond (P := Quiet s0) (fun _ => ?_) (fun _ => ?_)
      · refine (recredit_calm (Calm.refl _)).toQuiet ?_
        refine (strandOffer_calm (Calm.refl _)).toQuiet ?_
        exact h3
      · refine (recredit_calm (Calm.refl _)).toQuiet ?_
        refine offerTake_quiet ?_
        refine (useCredit_calm (Calm.refl _)).toQuiet ?_
        refine (countPort_calm (Calm.refl _)).toQuiet ?_
        exact h3

theorem creditReturn_quiet {s0 : State} {a1 a2 a3 a4} (g4 : Quiet s0 a4) : Quiet s0 (creditReturn a1 a2 a3 a4) := by
  unfold creditReturn
  refine keep_cond (P := Quiet s0) (fun _ => ?_) (fun _ => ?_)
  · refine (setEjCredit_calm (Calm.refl _)).toQuiet ?_
    exact g4
  · refine faultEvent_quiet ?_
    exact g4

theorem creditReturnDo_quiet {s0 : State} {a1 a2 a3 a4 a5} (g5 : Quiet s0 a5) : Quiet s0 (creditReturnDo a1 a2 a3 a4 a5) := by
  unfold creditReturnDo
  refine keep_cond (P := Quiet s0) (fun _ => ?_) (fun _ => ?_)
  · exact g5
  · refine (flushUnit_calm (Calm.refl _)).toQuiet ?_
    refine keep_forEach (P := Quiet s0) ?_ ?_
    · intro x1 x2 h3
      refine creditReturn_quiet ?_
      exact h3
    · exact g5

theorem injectGt_quiet {s0 : State} {a1 a2 a3 a4} (g4 : Quiet s0 a4) : Quiet s0 (injectGt a1 a2 a3 a4) := by
  unfold injectGt
  refine keep_cond (P := Quiet s0) (fun _ => ?_) (fun _ => ?_)
  · refine injectNow_quiet ?_
    refine (popGt_calm (Calm.refl _)).toQuiet ?_
    exact g4
  · extract_lets +onlyGivenNames t1
    have h2 : Quiet s0 t1 := by
      simp only [t1]
      refine (countHeld_calm (Calm.refl _)).toQuiet ?_
      exact g4
    clear_value t1
    refine (updPort_calm (Calm.refl _)).toQuiet ?_
    exact h2

theorem gtSlotDo_quiet {s0 : State} {a1 a2 a3 a4 a5} (g5 : Quiet s0 a5) : Quiet s0 (gtSlotDo a1 a2 a3 a4 a5) := by
  unfold gtSlotDo
  extract_lets +onlyGivenNames s1
  have h2 : Quiet s0 s1 := by
    simp only [s1]
    refine runSlot_quiet ?_
    exact g5
  clear_value s1
  refine keep_cond (P := Quiet s0) (fun _ => ?_) (fun _ => ?_)
  · exact h2
  · extract_lets +onlyGivenNames s3
    have h4 : Quiet s0 s3 := by
      simp only [s3]
      refine (rehome_calm (Calm.refl _)).toQuiet ?_
      exact h2
    clear_value s3
    split
    · refine injectGt_quiet ?_
      refine (injStarve_calm (Calm.refl _)).toQuiet ?_
      exact h4
    · exact h4

theorem ejectDo_quiet {s0 : State} {a1 a2 a3 a4} (g4 : Quiet s0 a4) : Quiet s0 (ejectDo a1 a2 a3 a4) := by
  unfold ejectDo
  split
  · exact g4
  · extract_lets +onlyGivenNames s1
    have h2 : Quiet s0 s1 := by
      simp only [s1]
      refine (updPort_calm (Calm.refl _)).toQuiet ?_
      refine (advanceTo_calm (Calm.refl _)).toQuiet ?_
      exact g4
    clear_value s1
    extract_lets +onlyGivenNames s3
    have h4 : Quiet s0 s3 := by
      simp only [s3]
      refine keep_cond (P := Quiet s0) (fun _ => ?_) (fun _ => ?_)
      · refine (advanceTo_calm (Calm.refl _)).toQuiet ?_
        exact h2
      · exact h2
    clear_value s3
    split
    extract_lets +onlyGivenNames s5
    have h6 : Quiet s0 s5 := by
      simp only [s5]
      refine keep_cond (P := Quiet s0) (fun _ => ?_) (fun _ => ?_)
      · refine faultEvent_quiet ?_
        exact h4
      · exact h4
    clear_value s5
    extract_lets +onlyGivenNames s7
    have h8 : Quiet s0 s7 := by
      simp only [s7]
      refine keep_cond (P := Quiet s0) (fun _ => ?_) (fun _ => ?_)
      · refine faultEvent_quiet ?_
        exact h6
      · exact h6
    clear_value s7
    split
    · refine (freeCredit_calm (Calm.refl _)).toQuiet ?_
      exact h8
    · extract_lets +onlyGivenNames s9
      have h10 : Quiet s0 s9 := by
        simp only [s9]
        refine smpEnd_quiet ?_
        exact h8
      clear_value s9
      split
      · refine keep_cond (P := Quiet s0) (fun _ => ?_) (fun _ => ?_)
        · refine (strandIn_calm (Calm.refl _)).toQuiet ?_
          exact h10
        · refine (unitIn_calm (Calm.refl _)).toQuiet ?_
          exact h10
      · refine (unitIn_calm (Calm.refl _)).toQuiet ?_
        exact h10

theorem injectSlotDo_quiet {s0 : State} {a1 a2 a3 a4 a5} (g5 : Quiet s0 a5) : Quiet s0 (injectSlotDo a1 a2 a3 a4 a5) := by
  unfold injectSlotDo
  extract_lets +onlyGivenNames s1
  have h2 : Quiet s0 s1 := by
    simp only [s1]
    refine runSlot_quiet ?_
    exact g5
  clear_value s1
  refine keep_cond (P := Quiet s0) (fun _ => ?_) (fun _ => ?_)
  · exact h2
  · extract_lets +onlyGivenNames s3
    have h4 : Quiet s0 s3 := by
      simp only [s3]
      refine (rehome_calm (Calm.refl _)).toQuiet ?_
      exact h2
    clear_value s3
    split
    · refine injectGt_quiet ?_
      refine (injStarve_calm (Calm.refl _)).toQuiet ?_
      exact h4
    · refine injectClass_quiet ?_
      exact h4

theorem retryDo_quiet {s0 : State} {a1 a2 a3} (g3 : Quiet s0 a3) : Quiet s0 (retryDo a1 a2 a3) := by
  unfold retryDo
  split
  · exact g3
  · split
    · exact g3
    · extract_lets +onlyGivenNames s1
      have h2 : Quiet s0 s1 := by
        simp only [s1]
        refine (advanceTo_calm (Calm.refl _)).toQuiet ?_
        exact g3
      clear_value s1
      extract_lets +onlyGivenNames o3
      clear_value o3
      refine keep_cond (P := Quiet s0) (fun _ => ?_) (fun _ => ?_)
      · refine (reissueDo_calm (Calm.refl _)).toQuiet ?_
        exact h2
      · extract_lets +onlyGivenNames s4
        have h5 : Quiet s0 s4 := by
          simp only [s4]
          refine (errToUnit_calm (Calm.refl _)).toQuiet ?_
          refine (countPort_calm (Calm.refl _)).toQuiet ?_
          exact h2
        clear_value s4
        extract_lets +onlyGivenNames s6
        have h7 : Quiet s0 s6 := by
          simp only [s6]
          refine (reportStage_calm (Calm.refl _)).toQuiet ?_
          exact h5
        clear_value s6
        extract_lets +onlyGivenNames s8
        have h9 : Quiet s0 s8 := by
          simp only [s8]
          refine keep_cond (P := Quiet s0) (fun _ => ?_) (fun _ => ?_)
          · refine (abandon_calm (Calm.refl _)).toQuiet ?_
            exact h7
          · exact h7
        clear_value s8
        extract_lets +onlyGivenNames s10
        have h11 : Quiet s0 s10 := by
          simp only [s10]
          refine keep_cond (P := Quiet s0) (fun _ => ?_) (fun _ => ?_)
          · refine keep_forEach (P := Quiet s0) ?_ ?_
            · intro x12 x13 h14
              refine (freeCredit_calm (Calm.refl _)).toQuiet ?_
              exact h14
            · exact h9
          · exact h9
        clear_value s10
        refine faultEvent_quiet ?_
        refine (toGhost_calm (Calm.refl _)).toQuiet ?_
        exact h11

theorem pingDo_quiet {s0 : State} {a1 a2} (g2 : Quiet s0 a2) : Quiet s0 (pingDo a1 a2) := by
  unfold pingDo
  extract_lets +onlyGivenNames x1
  clear_value x1
  refine keep_cond (P := Quiet s0) (fun _ => ?_) (fun _ => ?_)
  · exact g2
  · extract_lets +onlyGivenNames s2
    have h3 : Quiet s0 s2 := by
      simp only [s2]
      refine (advanceTo_calm (Calm.refl _)).toQuiet ?_
      exact g2
    clear_value s2
    refine keep_cond (P := Quiet s0) (fun _ => ?_) (fun _ => ?_)
    · refine faultEvent_quiet ?_
      refine (peerDownDo_calm (Calm.refl _)).toQuiet ?_
      refine (countPort_calm (Calm.refl _)).toQuiet ?_
      exact h3
    · extract_lets +onlyGivenNames tag4
      clear_value tag4
      extract_lets +onlyGivenNames f5
      clear_value f5
      refine (toUnit_calm (Calm.refl _)).toQuiet ?_
      refine (countPort_calm (Calm.refl _)).toQuiet ?_
      refine (updPort_calm (Calm.refl _)).toQuiet ?_
      exact h3

theorem losDrop_quiet {s0 : State} {a1 a2} (g2 : Quiet s0 a2) : Quiet s0 (losDrop a1 a2) := by
  unfold losDrop
  refine faultEvent_quiet ?_
  refine strandDown_quiet ?_
  exact g2

theorem losMask_quiet {s0 : State} {a1 a2 a3} (g3 : Quiet s0 a3) : Quiet s0 (losMask a1 a2 a3) := by
  unfold losMask
  extract_lets +onlyGivenNames x1
  clear_value x1
  refine keep_cond (P := Quiet s0) (fun _ => ?_) (fun _ => ?_)
  · refine keep_cond (P := Quiet s0) (fun _ => ?_) (fun _ => ?_)
    · refine losDrop_quiet ?_
      exact g3
    · exact g3
  · refine keep_cond (P := Quiet s0) (fun _ => ?_) (fun _ => ?_)
    · refine (phyFail_calm (Calm.refl _)).toQuiet ?_
      exact g3
    · exact g3

theorem losDo_quiet {s0 : State} {a1 a2 a3} (g3 : Quiet s0 a3) : Quiet s0 (losDo a1 a2 a3) := by
  unfold losDo
  refine losMask_quiet ?_
  exact g3

theorem setPwr_quiet {s0 : State} {a1 a2 a3} (g3 : Quiet s0 a3) : Quiet s0 (setPwr a1 a2 a3) := by
  unfold setPwr
  refine timeRefresh_quiet ?_
  refine (updPhy_calm (Calm.refl _)).toQuiet ?_
  exact g3

theorem standbyLeave_quiet {s0 : State} {a1 a2} (g2 : Quiet s0 a2) : Quiet s0 (standbyLeave a1 a2) := by
  unfold standbyLeave
  refine keep_cond (P := Quiet s0) (fun _ => ?_) (fun _ => ?_)
  · refine (lctlPump_calm (Calm.refl _)).toQuiet ?_
    refine (sendMarker_calm (Calm.refl _)).toQuiet ?_
    refine setPwr_quiet ?_
    exact g2
  · exact g2

theorem markerActive_quiet {s0 : State} {a1 a2 a3} (g3 : Quiet s0 a3) : Quiet s0 (markerActive a1 a2 a3) := by
  unfold markerActive
  extract_lets +onlyGivenNames x1
  clear_value x1
  extract_lets +onlyGivenNames mc2
  clear_value mc2
  extract_lets +onlyGivenNames ps3
  clear_value ps3
  extract_lets +onlyGivenNames seen4
  clear_value seen4
  refine keep_cond (P := Quiet s0) (fun _ => ?_) (fun _ => ?_)
  · refine keep_cond (P := Quiet s0) (fun _ => ?_) (fun _ => ?_)
    · extract_lets +onlyGivenNames s5
      have h6 : Quiet s0 s5 := by
        simp only [s5]
        refine (sendMarker_calm (Calm.refl _)).toQuiet ?_
        refine (updPhy_calm (Calm.refl _)).toQuiet ?_
        exact g3
      clear_value s5
      refine (lctlPump_calm (Calm.refl _)).toQuiet ?_
      refine timeRefresh_quiet ?_
      refine (updPhy_calm (Calm.refl _)).toQuiet ?_
      exact h6
    · exact g3
  · refine keep_cond (P := Quiet s0) (fun _ => ?_) (fun _ => ?_)
    · refine losDo_quiet ?_
      exact g3
    · extract_lets +onlyGivenNames s7
      have h8 : Quiet s0 s7 := by
        simp only [s7]
        refine (updPhy_calm (Calm.refl _)).toQuiet ?_
        exact g3
      clear_value s7
      refine keep_cond (P := Quiet s0) (fun _ => ?_) (fun _ => ?_)
      · refine standbyLeave_quiet ?_
        exact h8
      · exact h8

theorem fomFloorDo_quiet {s0 : State} {a1 a2} (g2 : Quiet s0 a2) : Quiet s0 (fomFloorDo a1 a2) := by
  unfold fomFloorDo
  extract_lets +onlyGivenNames x1
  clear_value x1
  split
  · refine keep_cond (P := Quiet s0) (fun _ => ?_) (fun _ => ?_)
    · refine faultEvent_quiet ?_
      refine strandDown_quiet ?_
      refine (advanceTo_calm (Calm.refl _)).toQuiet ?_
      exact g2
    · exact g2
  · exact g2

theorem tsActiveDo_quiet {s0 : State} {a1 a2} (g2 : Quiet s0 a2) : Quiet s0 (tsActiveDo a1 a2) := by
  unfold tsActiveDo
  refine keep_cond (P := Quiet s0) (fun _ => ?_) (fun _ => ?_)
  · refine faultEvent_quiet ?_
    refine strandDown_quiet ?_
    exact g2
  · exact g2

theorem tsIn_quiet {s0 : State} {a1 a2 a3} (g3 : Quiet s0 a3) : Quiet s0 (tsIn a1 a2 a3) := by
  unfold tsIn
  extract_lets +onlyGivenNames x1
  clear_value x1
  refine keep_cond (P := Quiet s0) (fun _ => ?_) (fun _ => ?_)
  · refine (trainOut_calm (Calm.refl _)).toQuiet ?_
    refine (updPhy_calm (Calm.refl _)).toQuiet ?_
    exact g3
  · refine tsActiveDo_quiet ?_
    exact g3

theorem inStage_quiet {s0 : State} {a1 a2 a3 a4} (g3 : ∀ y1, Quiet s0 y1 → Quiet s0 (a3 y1)) (g4 : Quiet s0 a4) : Quiet s0 (inStage a1 a2 a3 a4) := by
  unfold inStage
  refine keep_cond (P := Quiet s0) (fun _ => ?_) (fun _ => ?_)
  · refine (trainOut_calm (Calm.refl _)).toQuiet ?_
    refine g3 _ ?_
    exact g4
  · exact g4

theorem retrainDo_quiet {s0 : State} {a1 a2} (g2 : Quiet s0 a2) : Quiet s0 (retrainDo a1 a2) := by
  unfold retrainDo
  extract_lets +onlyGivenNames st1
  clear_value st1
  refine keep_cond (P := Quiet s0) (fun _ => ?_) (fun _ => ?_)
  · refine strandDown_quiet ?_
    exact g2
  · refine keep_cond (P := Quiet s0) (fun _ => ?_) (fun _ => ?_)
    · refine (phyRetrain_calm (Calm.refl _)).toQuiet ?_
      exact g2
    · exact g2

theorem deepTimeoutDo_quiet {s0 : State} {a1 a2} (g2 : Quiet s0 a2) : Quiet s0 (deepTimeoutDo a1 a2) := by
  unfold deepTimeoutDo
  split
  · exact g2
  · refine (phyIdle_calm (Calm.refl _)).toQuiet ?_
    refine sessionDown_quiet ?_
    refine (advanceTo_calm (Calm.refl _)).toQuiet ?_
    exact g2

theorem tsTcbDo_quiet {s0 : State} {a1 a2 a3} (g3 : Quiet s0 a3) : Quiet s0 (tsTcbDo a1 a2 a3) := by
  unfold tsTcbDo
  refine keep_cond (P := Quiet s0) (fun _ => ?_) (fun _ => ?_)
  · refine (countStrand_calm (Calm.refl _)).toQuiet ?_
    refine (updPhy_calm (Calm.refl _)).toQuiet ?_
    exact g3
  · refine keep_cond (P := Quiet s0) (fun _ => ?_) (fun _ => ?_)
    · refine tsIn_quiet ?_
      exact g3
    · refine keep_cond (P := Quiet s0) (fun _ => ?_) (fun _ => ?_)
      · refine (tcbIn_calm (Calm.refl _)).toQuiet ?_
        exact g3
      · exact g3

theorem pllLockedDo_quiet {s0 : State} {a1 a2} (g2 : Quiet s0 a2) : Quiet s0 (pllLockedDo a1 a2) := by
  unfold pllLockedDo
  extract_lets +onlyGivenNames on1
  clear_value on1
  refine keep_cond (P := Quiet s0) (fun _ => ?_) (fun _ => ?_)
  · exact g2
  · extract_lets +onlyGivenNames s2
    extract_lets +onlyGivenNames s3
    have h4 : Quiet s0 s3 := by
      simp only [s3]
      exact Quiet.upd g2 rfl
    clear_value s3
    refine keep_forEach (P := Quiet s0) ?_ ?_
    · intro x5 x6 h7
      refine (phyIdle_calm (Calm.refl _)).toQuiet ?_
      exact h7
    · exact h4

theorem pllStart_quiet {s0 : State} {a1 a2 a3} (g3 : Quiet s0 a3) : Quiet s0 (pllStart a1 a2 a3) := by
  unfold pllStart
  exact Quiet.upd g3 rfl

theorem powerupDo_quiet {s0 : State} {a1 a2} (g2 : Quiet s0 a2) : Quiet s0 (powerupDo a1 a2) := by
  unfold powerupDo
  extract_lets +onlyGivenNames w1
  clear_value w1
  extract_lets +onlyGivenNames next2
  have h3 : ∀ y1, Quiet s0 y1 → Quiet s0 (next2 y1) := by
    intro x4 h5
    simp only [next2]
    exact Quiet.upd h5 rfl
  clear_value next2
  refine keep_cond (P := Quiet s0) (fun _ => ?_) (fun _ => ?_)
  · exact g2
  · refine keep_cond (P := Quiet s0) (fun _ => ?_) (fun _ => ?_)
    · refine h3 _ ?_
      refine keep_whenB (P := Quiet s0) ?_ ?_
      · intro x6 h7
        refine pllStart_quiet ?_
        exact h7
      · refine (advanceTo_calm (Calm.refl _)).toQuiet ?_
        exact g2
    · refine keep_cond (P := Quiet s0) (fun _ => ?_) (fun _ => ?_)
      · refine h3 _ ?_
        refine keep_whenB (P := Quiet s0) ?_ ?_
        · intro x8 h9
          refine pllStart_quiet ?_
          exact h9
        · refine (advanceTo_calm (Calm.refl _)).toQuiet ?_
          exact g2
      · refine keep_cond (P := Quiet s0) (fun _ => ?_) (fun _ => ?_)
        · extract_lets +onlyGivenNames k10
          clear_value k10
          extract_lets +onlyGivenNames n11
          clear_value n11
          extract_lets +onlyGivenNames s12
          have h13 : Quiet s0 s12 := by
            simp only [s12]
            refine h3 _ ?_
            refine (advanceTo_calm (Calm.refl _)).toQuiet ?_
            exact g2
          clear_value s12
          extract_lets +onlyGivenNames s14
          extract_lets +onlyGivenNames s15
          have h16 : Quiet s0 s15 := by
            simp only [s15]
            exact Quiet.upd h13 rfl
          clear_value s15
          refine keep_cond (P := Quiet s0) (fun _ => ?_) (fun _ => ?_)
          · refine (groupOn_calm (Calm.refl _)).toQuiet ?_
            exact h16
          · exact Quiet.upd h16 rfl
        · split
          · exact g2
          · extract_lets +onlyGivenNames s17
            have h18 : Quiet s0 s17 := by
              simp only [s17]
              refine (advanceTo_calm (Calm.refl _)).toQuiet ?_
              exact g2
            clear_value s17
            refine (groupOn_calm (Calm.refl _)).toQuiet ?_
            exact Quiet.upd h18 rfl

theorem markerSendDo_quiet {s0 : State} {a1 a2} (g2 : Quiet s0 a2) : Quiet s0 (markerSendDo a1 a2) := by
  unfold markerSendDo
  extract_lets +onlyGivenNames x1
  clear_value x1
  extract_lets +onlyGivenNames full2
  have h3 : Quiet s0 full2 := by
    simp only [full2]
    refine (alignLanes_calm (Calm.refl _)).toQuiet ?_
    exact g2
  clear_value full2
  refine keep_cond (P := Quiet s0) (fun _ => ?_) (fun _ => ?_)
  · refine (sendMarker_calm (Calm.refl _)).toQuiet ?_
    exact h3
  · refine keep_cond (P := Quiet s0) (fun _ => ?_) (fun _ => ?_)
    · exact g2
    · split
      · refine (deepMarker_calm (Calm.refl _)).toQuiet ?_
        exact g2
      · refine (lctlPump_calm (Calm.refl _)).toQuiet ?_
        refine timeRefresh_quiet ?_
        refine (sendMarker_calm (Calm.refl _)).toQuiet ?_
        refine (updPhy_calm (Calm.refl _)).toQuiet ?_
        exact h3
      · refine keep_cond (P := Quiet s0) (fun _ => ?_) (fun _ => ?_)
        · exact g2
        · refine (sendMarker_calm (Calm.refl _)).toQuiet ?_
          exact h3

theorem refclkDo_quiet {s0 : State} {a1 a2 a3} (g3 : Quiet s0 a3) : Quiet s0 (refclkDo a1 a2 a3) := by
  unfold refclkDo
  extract_lets +onlyGivenNames on1
  clear_value on1
  refine keep_cond (P := Quiet s0) (fun _ => ?_) (fun _ => ?_)
  · exact g3
  · extract_lets +onlyGivenNames s2
    have h3 : Quiet s0 s2 := by
      simp only [s2]
      refine pllStart_quiet ?_
      exact g3
    clear_value s2
    refine keep_forEach (P := Quiet s0) ?_ ?_
    · intro x4 x5 h6
      extract_lets +onlyGivenNames s7
      have h8 : Quiet s0 s7 := by
        simp only [s7]
        refine keep_cond (P := Quiet s0) (fun _ => ?_) (fun _ => ?_)
        · refine losDrop_quiet ?_
          exact h6
        · exact h6
      clear_value s7
      refine keep_cond (P := Quiet s0) (fun _ => ?_) (fun _ => ?_)
      · exact h8
      · refine (phyIdle_calm (Calm.refl _)).toQuiet ?_
        exact h8
    · exact h3

theorem markerDo_quiet {s0 : State} {a1 a2 a3} (g3 : Quiet s0 a3) : Quiet s0 (markerDo a1 a2 a3) := by
  unfold markerDo
  refine takeBlock_quiet ?_ ?_
  · intro x1 h2
    extract_lets +onlyGivenNames x3
    clear_value x3
    refine keep_cond (P := Quiet s0) (fun _ => ?_) (fun _ => ?_)
    · exact h2
    · refine keep_cond (P := Quiet s0) (fun _ => ?_) (fun _ => ?_)
      · extract_lets +onlyGivenNames s4
        have h5 : Quiet s0 s4 := by
          simp only [s4]
          refine (updPhy_calm (Calm.refl _)).toQuiet ?_
          exact h2
        clear_value s4
        refine keep_cond (P := Quiet s0) (fun _ => ?_) (fun _ => ?_)
        · refine (lctlPump_calm (Calm.refl _)).toQuiet ?_
          refine (reachActive_calm (Calm.refl _)).toQuiet ?_
          exact h5
        · exact h5
      · refine keep_cond (P := Quiet s0) (fun _ => ?_) (fun _ => ?_)
        · refine markerActive_quiet ?_
          exact h2
        · exact h2
  · exact g3

theorem disableDo_quiet {s0 : State} {a1 a2} (g2 : Quiet s0 a2) : Quiet s0 (disableDo a1 a2) := by
  unfold disableDo
  refine (phyIdle_calm (Calm.refl _)).toQuiet ?_
  refine sessionDown_quiet ?_
  exact g2

theorem pwrReqDo_quiet {s0 : State} {a1 a2 a3} (g3 : Quiet s0 a3) : Quiet s0 (pwrReqDo a1 a2 a3) := by
  unfold pwrReqDo
  split
  · extract_lets +onlyGivenNames s1
    have h2 : Quiet s0 s1 := by
      simp only [s1]
      refine (updPhy_calm (Calm.refl _)).toQuiet ?_
      exact g3
    clear_value s1
    refine keep_cond (P := Quiet s0) (fun _ => ?_) (fun _ => ?_)
    · refine standbyLeave_quiet ?_
      exact h2
    · refine (deepLeave_calm (Calm.refl _)).toQuiet ?_
      exact h2
  · refine keep_cond (P := Quiet s0) (fun _ => ?_) (fun _ => ?_)
    · exact g3
    · refine (lctlPump_calm (Calm.refl _)).toQuiet ?_
      refine (updPhy_calm (Calm.refl _)).toQuiet ?_
      exact g3
  · refine keep_cond (P := Quiet s0) (fun _ => ?_) (fun _ => ?_)
    · exact g3
    · refine (lctlPump_calm (Calm.refl _)).toQuiet ?_
      refine (updPhy_calm (Calm.refl _)).toQuiet ?_
      exact g3
  · exact g3

theorem slCtrlWritten_quiet {s0 : State} {a1 a2 a3 a4} (g4 : Quiet s0 a4) : Quiet s0 (slCtrlWritten a1 a2 a3 a4) := by
  unfold slCtrlWritten
  extract_lets +onlyGivenNames en1
  extract_lets +onlyGivenNames s2
  have h3 : Quiet s0 s2 := by
    simp only [s2]
    refine keep_cond (P := Quiet s0) (fun _ => ?_) (fun _ => ?_)
    · refine (phyIdle_calm (Calm.refl _)).toQuiet ?_
      exact g4
    · refine keep_cond (P := Quiet s0) (fun _ => ?_) (fun _ => ?_)
      · refine disableDo_quiet ?_
        exact g4
      · exact g4
  clear_value s2
  extract_lets +onlyGivenNames s4
  have h5 : Quiet s0 s4 := by
    simp only [s4]
    refine keep_cond (P := Quiet s0) (fun _ => ?_) (fun _ => ?_)
    · refine strandReset_quiet ?_
      exact h3
    · refine keep_cond (P := Quiet s0) (fun _ => ?_) (fun _ => ?_)
      · refine retrainDo_quiet ?_
        exact h3
      · exact h3
  clear_value s4
  extract_lets +onlyGivenNames s6
  have h7 : Quiet s0 s6 := by
    simp only [s6]
    refine keep_cond (P := Quiet s0) (fun _ => ?_) (fun _ => ?_)
    · exact h5
    · refine pwrReqDo_quiet ?_
      exact h5
  clear_value s6
  refine keep_cond (P := Quiet s0) (fun _ => ?_) (fun _ => ?_)
  · exact h7
  · refine (widthReqDo_calm (Calm.refl _)).toQuiet ?_
    exact h7

theorem lockLossDo_quiet {s0 : State} {a1 a2 a3} (g3 : Quiet s0 a3) : Quiet s0 (lockLossDo a1 a2 a3) := by
  unfold lockLossDo
  refine keep_cond (P := Quiet s0) (fun _ => ?_) (fun _ => ?_)
  · refine losDo_quiet ?_
    exact g3
  · exact g3

theorem seedTime_quiet {s0 : State} {a1} (g1 : Quiet s0 a1) : Quiet s0 (seedTime a1) := by
  unfold seedTime
  extract_lets +onlyGivenNames t1
  clear_value t1
  revert t1
  refine id ?_
  intro t1
  refine keep_cond (P := Quiet s0) (fun _ => ?_) (fun _ => ?_)
  · exact Quiet.upd g1 rfl
  · extract_lets +onlyGivenNames s2
    have h3 : Quiet s0 s2 := by
      simp only [s2]
      refine keep_cond (P := Quiet s0) (fun _ => ?_) (fun _ => ?_)
      · refine timeLocal_quiet ?_
        exact g1
      · exact g1
    clear_value s2
    revert s2
    refine id ?_
    intro s2 h3
    refine (setSlots_calm (Calm.refl _)).toQuiet ?_
    exact Quiet.upd h3 rfl

theorem startWaves_quiet {s0 : State} {a1} (g1 : Quiet s0 a1) : Quiet s0 (startWaves a1) := by
  unfold startWaves
  exact Quiet.upd g1 rfl

theorem powerKept_quiet {s0 : State} {a1} (g1 : Quiet s0 a1) : Quiet s0 (powerKept a1) := by
  unfold powerKept
  refine keep_cond (P := Quiet s0) (fun _ => ?_) (fun _ => ?_)
  · exact g1
  · extract_lets +onlyGivenNames im1
    clear_value im1
    extract_lets +onlyGivenNames take2
    have h3 : ∀ y1 y2, Quiet s0 y2 → Quiet s0 (take2 y1 y2) := by
      intro x4 x5 h6
      simp only [take2]
      refine (regSet_calm (Calm.refl _)).toQuiet ?_
      exact h6
    clear_value take2
    refine h3 _ _ ?_
    refine h3 _ _ ?_
    exact Quiet.upd g1 rfl

theorem planAtRun_quiet {s0 : State} {a1} (g1 : Quiet s0 a1) : Quiet s0 (planAtRun a1) := by
  unfold planAtRun
  extract_lets +onlyGivenNames lost1
  clear_value lost1
  extract_lets +onlyGivenNames p2
  clear_value p2
  split
  · exact Quiet.upd g1 rfl
  · split
    · refine keep_cond (P := Quiet s0) (fun _ => ?_) (fun _ => ?_)
      · refine plannerLoss_quiet ?_
        exact Quiet.upd g1 rfl
      · exact Quiet.upd g1 rfl
    · exact Quiet.upd g1 rfl

theorem holdRetired_quiet {s0 : State} {a1} (g1 : Quiet s0 a1) : Quiet s0 (holdRetired a1) := by
  unfold holdRetired
  extract_lets +onlyGivenNames s1
  have h2 : Quiet s0 s1 := by
    simp only [s1]
    refine keep_forEach (P := Quiet s0) ?_ ?_
    · intro x3 x4 h5
      refine (updPort_calm (Calm.refl _)).toQuiet ?_
      exact h5
    · exact g1
  clear_value s1
  refine keep_forEach (P := Quiet s0) ?_ ?_
  · intro x6 x7 h8
    refine keep_forEach (P := Quiet s0) ?_ ?_
    · intro x9 x10 h11
      refine (portIsolate_calm (Calm.refl _)).toQuiet ?_
      exact h11
    · refine updTile_quiet ?_
      exact h8
  · exact h2

theorem quietGoOn_quiet {s0 : State} {a1} (g1 : Quiet s0 a1) : Quiet s0 (quietGoOn a1) := by
  unfold quietGoOn
  refine keep_forEach (P := Quiet s0) ?_ ?_
  · intro x1 x2 h3
    split
    · refine updDom_quiet ?_
      exact h3
    · exact h3
  · exact g1

theorem quietHold_quiet {s0 : State} {a1} (g1 : Quiet s0 a1) : Quiet s0 (quietHold a1) := by
  unfold quietHold
  refine keep_forEach (P := Quiet s0) ?_ ?_
  · intro x1 x2 h3
    refine keep_cond (P := Quiet s0) (fun _ => ?_) (fun _ => ?_)
    · refine updDom_quiet ?_
      exact h3
    · exact h3
  · exact g1

theorem partnerReport_quiet {s0 : State} {a1 a2 a3} (g3 : Quiet s0 a3) : Quiet s0 (partnerReport a1 a2 a3) := by
  unfold partnerReport
  refine keep_cond (P := Quiet s0) (fun _ => ?_) (fun _ => ?_)
  · exact g3
  · refine timeRefresh_quiet ?_
    refine (updLnk_calm (Calm.refl _)).toQuiet ?_
    exact g3

theorem nameReplay_quiet {s0 : State} {a1 a2} (g2 : Quiet s0 a2) : Quiet s0 (nameReplay a1 a2) := by
  unfold nameReplay
  refine keep_cond (P := Quiet s0) (fun _ => ?_) (fun _ => ?_)
  · refine faultEvent_quiet ?_
    refine strandDown_quiet ?_
    exact g2
  · refine (updLnk_calm (Calm.refl _)).toQuiet ?_
    refine (wasteUnacked_calm (Calm.refl _)).toQuiet ?_
    exact g2

theorem trespDo_quiet {s0 : State} {a1 a2 a3} (g3 : Quiet s0 a3) : Quiet s0 (trespDo a1 a2 a3) := by
  unfold trespDo
  refine takeBlock_quiet ?_ ?_
  · intro x1 h2
    extract_lets +onlyGivenNames x3
    clear_value x3
    refine keep_cond (P := Quiet s0) (fun _ => ?_) (fun _ => ?_)
    · exact h2
    · extract_lets +onlyGivenNames t4
      clear_value t4
      extract_lets +onlyGivenNames t5
      clear_value t5
      extract_lets +onlyGivenNames t6
      clear_value t6
      extract_lets +onlyGivenNames t7
      clear_value t7
      extract_lets +onlyGivenNames s8
      have h9 : Quiet s0 s8 := by
        simp only [s8]
        refine (updLnk_calm (Calm.refl _)).toQuiet ?_
        exact h2
      clear_value s8
      refine lowerExchange_quiet ?_
      exact h9
  · exact g3

theorem takeCredit_quiet {s0 : State} {a1 a2 a3 a4 a5} (g5 : Quiet s0 a5) : Quiet s0 (takeCredit a1 a2 a3 a4 a5) := by
  unfold takeCredit
  extract_lets +onlyGivenNames k1
  clear_value k1
  refine keep_cond (P := Quiet s0) (fun _ => ?_) (fun _ => ?_)
  · exact g5
  · extract_lets +onlyGivenNames x2
    clear_value x2
    extract_lets +onlyGivenNames out3
    clear_value out3
    refine keep_cond (P := Quiet s0) (fun _ => ?_) (fun _ => ?_)
    · refine faultEvent_quiet ?_
      exact g5
    · refine (updLnk_calm (Calm.refl _)).toQuiet ?_
      exact g5

theorem sendDo_quiet {s0 : State} {a1 a2} (g2 : Quiet s0 a2) : Quiet s0 (sendDo a1 a2) := by
  unfold sendDo
  extract_lets +onlyGivenNames s1
  have h2 : Quiet s0 s1 := by
    simp only [s1]
    refine keep_cond (P := Quiet s0) (fun _ => ?_) (fun _ => ?_)
    · refine (deepLeave_calm (Calm.refl _)).toQuiet ?_
      refine standbyLeave_quiet ?_
      exact g2
    · exact g2
  clear_value s1
  refine keep_cond (P := Quiet s0) (fun _ => ?_) (fun _ => ?_)
  · exact h2
  · split
    · refine keep_cond (P := Quiet s0) (fun _ => ?_) (fun _ => ?_)
      · refine (sendReplay_calm (Calm.refl _)).toQuiet ?_
        exact h2
      · refine (sendAckc_calm (Calm.refl _)).toQuiet ?_
        exact h2
    · refine keep_cond (P := Quiet s0) (fun _ => ?_) (fun _ => ?_)
      · refine (sendAckc_calm (Calm.refl _)).toQuiet ?_
        exact h2
      · generalize hp4 : @fillCtnr _ _ = p3
        have h5 : Quiet s0 p3.2 := by
          rw [← hp4]
          refine (fillCtnr_calm (Calm.refl _)).toQuiet ?_
          exact h2
        clear hp4
        revert p3
        rintro ⟨v6, s7⟩ h8
        replace h8 : Quiet s0 s7 := h8
        dsimp -zeta only
        refine keep_cond (P := Quiet s0) (fun _ => ?_) (fun _ => ?_)
        · exact h8
        · extract_lets +onlyGivenNames q9
          clear_value q9
          extract_lets +onlyGivenNames s10
          have h11 : Quiet s0 s10 := by
            simp only [s10]
            refine (countStrand_calm (Calm.refl _)).toQuiet ?_
            refine (launchCtnr_calm (Calm.refl _)).toQuiet ?_
            exact h8
          clear_value s10
          refine (updLnk_calm (Calm.refl _)).toQuiet ?_
          exact h11

theorem tsyncDo_quiet {s0 : State} {a1 a2 a3 a4} (g4 : Quiet s0 a4) : Quiet s0 (tsyncDo a1 a2 a3 a4) := by
  unfold tsyncDo
  refine takeBlock_quiet ?_ ?_
  · intro x1 h2
    refine keep_cond (P := Quiet s0) (fun _ => ?_) (fun _ => ?_)
    · exact h2
    · extract_lets +onlyGivenNames s3
      have h4 : Quiet s0 s3 := by
        simp only [s3]
        refine partnerReport_quiet ?_
        exact h2
      clear_value s3
      extract_lets +onlyGivenNames e5
      clear_value e5
      extract_lets +onlyGivenNames t6
      clear_value t6
      extract_lets +onlyGivenNames s7
      have h8 : Quiet s0 s7 := by
        simp only [s7]
        refine (updLnk_calm (Calm.refl _)).toQuiet ?_
        exact h4
      clear_value s7
      refine (controlSend_calm (Calm.refl _)).toQuiet ?_
      exact h8
  · exact g4

theorem treqDo_quiet {s0 : State} {a1 a2 a3} (g3 : Quiet s0 a3) : Quiet s0 (treqDo a1 a2 a3) := by
  unfold treqDo
  refine takeBlock_quiet ?_ ?_
  · intro x1 h2
    extract_lets +onlyGivenNames x3
    clear_value x3
    refine keep_cond (P := Quiet s0) (fun _ => ?_) (fun _ => ?_)
    · exact h2
    · extract_lets +onlyGivenNames t4
      clear_value t4
      extract_lets +onlyGivenNames prev5
      clear_value prev5
      extract_lets +onlyGivenNames s6
      have h7 : Quiet s0 s6 := by
        simp only [s6]
        refine (controlSend_calm (Calm.refl _)).toQuiet ?_
        refine (updLnk_calm (Calm.refl _)).toQuiet ?_
        exact h2
      clear_value s6
      refine keep_cond (P := Quiet s0) (fun _ => ?_) (fun _ => ?_)
      · exact h7
      · extract_lets +onlyGivenNames delay8
        clear_value delay8
        extract_lets +onlyGivenNames s9
        have h10 : Quiet s0 s9 := by
          simp only [s9]
          refine (exchangeDone_calm (Calm.refl _)).toQuiet ?_
          exact h7
        clear_value s9
        refine keep_cond (P := Quiet s0) (fun _ => ?_) (fun _ => ?_)
        · refine forwardAlign_quiet ?_
          exact h10
        · exact h10
  · exact g3

theorem crcError_quiet {s0 : State} {a1 a2} (g2 : Quiet s0 a2) : Quiet s0 (crcError a1 a2) := by
  unfold crcError
  extract_lets +onlyGivenNames s1
  have h2 : Quiet s0 s1 := by
    simp only [s1]
    refine (countStrand_calm (Calm.refl _)).toQuiet ?_
    refine (updLnk_calm (Calm.refl _)).toQuiet ?_
    exact g2
  clear_value s1
  extract_lets +onlyGivenNames x3
  clear_value x3
  extract_lets +onlyGivenNames thr4
  clear_value thr4
  extract_lets +onlyGivenNames s5
  have h6 : Quiet s0 s5 := by
    simp only [s5]
    refine faultEvent_quiet ?_
    exact h2
  clear_value s5
  refine keep_cond (P := Quiet s0) (fun _ => ?_) (fun _ => ?_)
  · exact h6
  · refine keep_cond (P := Quiet s0) (fun _ => ?_) (fun _ => ?_)
    · refine strandDown_quiet ?_
      exact h6
    · refine (askAgain_calm (Calm.refl _)).toQuiet ?_
      exact h6

theorem takeItem_quiet {s0 : State} {a1 a2 a3} (g3 : Quiet s0 a3) : Quiet s0 (takeItem a1 a2 a3) := by
  unfold takeItem
  split
  · refine (takePkt_calm (Calm.refl _)).toQuiet ?_
    exact g3
  · refine poolDeliver_quiet ?_
    exact g3
  · exact g3

theorem takeSeqc_quiet {s0 : State} {a1 a2 a3 a4} (g4 : Quiet s0 a4) : Quiet s0 (takeSeqc a1 a2 a3 a4) := by
  unfold takeSeqc
  extract_lets +onlyGivenNames d1
  clear_value d1
  refine keep_cond (P := Quiet s0) (fun _ => ?_) (fun _ => ?_)
  · extract_lets +onlyGivenNames s2
    have h3 : Quiet s0 s2 := by
      simp only [s2]
      refine (countStrand_calm (Calm.refl _)).toQuiet ?_
      refine (updLnk_calm (Calm.refl _)).toQuiet ?_
      exact g4
    clear_value s2
    refine keep_forEach (P := Quiet s0) ?_ ?_
    · intro x4 x5 h6
      refine takeItem_quiet ?_
      exact h6
    · exact h3
  · refine keep_cond (P := Quiet s0) (fun _ => ?_) (fun _ => ?_)
    · refine (askAgain_calm (Calm.refl _)).toQuiet ?_
      exact g4
    · refine (countStrand_calm (Calm.refl _)).toQuiet ?_
      exact g4

theorem receiveDo_quiet {s0 : State} {a1 a2 a3 a4} (g4 : Quiet s0 a4) : Quiet s0 (receiveDo a1 a2 a3 a4) := by
  unfold receiveDo
  refine keep_cond (P := Quiet s0) (fun _ => ?_) (fun _ => ?_)
  · exact g4
  · extract_lets +onlyGivenNames corrupt1
    clear_value corrupt1
    extract_lets +onlyGivenNames bad2
    clear_value bad2
    extract_lets +onlyGivenNames s3
    have h4 : Quiet s0 s3 := by
      simp only [s3]
      refine (winRoll_calm (Calm.refl _)).toQuiet ?_
      refine injAct_quiet ?_
      exact g4
    clear_value s3
    extract_lets +onlyGivenNames v5
    clear_value v5
    split
    · extract_lets +onlyGivenNames s6
      have h7 : Quiet s0 s6 := by
        simp only [s6]
        refine crcError_quiet ?_
        exact h4
      clear_value s6
      refine keep_cond (P := Quiet s0) (fun _ => ?_) (fun _ => ?_)
      · refine (winCount_calm (Calm.refl _)).toQuiet ?_
        exact h7
      · exact h7
    · extract_lets +onlyGivenNames s8
      have h9 : Quiet s0 s8 := by
        simp only [s8]
        refine (winCount_calm (Calm.refl _)).toQuiet ?_
        exact h4
      clear_value s8
      extract_lets +onlyGivenNames s10
      have h11 : Quiet s0 s10 := by
        simp only [s10]
        refine (takeAck_calm (Calm.refl _)).toQuiet ?_
        exact h9
      clear_value s10
      extract_lets +onlyGivenNames s12
      have h13 : Quiet s0 s12 := by
        simp only [s12]
        refine keep_forEach (P := Quiet s0) ?_ ?_
        · intro x14 x15 h16
          split
          · refine takeCredit_quiet ?_
            exact h16
          · exact h16
        · exact h11
      clear_value s12
      extract_lets +onlyGivenNames s17
      have h18 : Quiet s0 s17 := by
        simp only [s17]
        refine keep_cond (P := Quiet s0) (fun _ => ?_) (fun _ => ?_)
        · refine nameReplay_quiet ?_
          refine (countStrand_calm (Calm.refl _)).toQuiet ?_
          exact h13
        · exact h13
      clear_value s17
      refine keep_cond (P := Quiet s0) (fun _ => ?_) (fun _ => ?_)
      · exact h18
      · refine (lctlPump_calm (Calm.refl _)).toQuiet ?_
        refine keep_cond (P := Quiet s0) (fun _ => ?_) (fun _ => ?_)
        · refine takeSeqc_quiet ?_
          exact h18
        · exact h18

theorem helloTimeoutDo_quiet {s0 : State} {a1 a2} (g2 : Quiet s0 a2) : Quiet s0 (helloTimeoutDo a1 a2) := by
  unfold helloTimeoutDo
  refine keep_cond (P := Quiet s0) (fun _ => ?_) (fun _ => ?_)
  · refine faultEvent_quiet ?_
    refine strandDown_quiet ?_
    refine (advanceTo_calm (Calm.refl _)).toQuiet ?_
    exact g2
  · exact g2

theorem replayDo_quiet {s0 : State} {a1 a2} (g2 : Quiet s0 a2) : Quiet s0 (replayDo a1 a2) := by
  unfold replayDo
  split
  · exact g2
  · refine nameReplay_quiet ?_
    refine (advanceTo_calm (Calm.refl _)).toQuiet ?_
    exact g2

theorem creditDo_quiet {s0 : State} {a1 a2} (g2 : Quiet s0 a2) : Quiet s0 (creditDo a1 a2) := by
  unfold creditDo
  refine keep_cond (P := Quiet s0) (fun _ => ?_) (fun _ => ?_)
  · exact g2
  · refine keep_cond (P := Quiet s0) (fun _ => ?_) (fun _ => ?_)
    · refine sendDo_quiet ?_
      exact g2
    · extract_lets +onlyGivenNames s1
      have h2 : Quiet s0 s1 := by
        simp only [s1]
        refine (advanceTo_calm (Calm.refl _)).toQuiet ?_
        exact g2
      clear_value s1
      refine sendDo_quiet ?_
      refine (updLnk_calm (Calm.refl _)).toQuiet ?_
      exact h2

theorem hmSubmitWrite_quiet {s0 : State} {a1 a2} (g2 : Quiet s0 a2) : Quiet s0 (hmSubmitWrite a1 a2) := by
  unfold hmSubmitWrite
  extract_lets +onlyGivenNames a1
  clear_value a1
  extract_lets +onlyGivenNames act2
  clear_value act2
  extract_lets +onlyGivenNames target3
  clear_value target3
  extract_lets +onlyGivenNames arg4
  clear_value arg4
  extract_lets +onlyGivenNames xdev5
  split
  · refine hmSubmitTile_quiet ?_
    exact g2
  · refine hmSubmitTile_quiet ?_
    exact g2
  · refine hmCancel_quiet ?_
    exact g2
  · exact g2

theorem fltAckWrite_quiet {s0 : State} {a1 a2} (g2 : Quiet s0 a2) : Quiet s0 (fltAckWrite a1 a2) := by
  unfold fltAckWrite
  split
  · exact g2
  · split
    · refine fltAckDo_quiet ?_
      exact g2
    · refine fltReadmitDo_quiet ?_
      exact g2
    · exact g2

theorem tileCtrlWrite_quiet {s0 : State} {a1 a2 a3} (g3 : Quiet s0 a3) : Quiet s0 (tileCtrlWrite a1 a2 a3) := by
  unfold tileCtrlWrite
  extract_lets +onlyGivenNames s1
  have h2 : Quiet s0 s1 := by
    simp only [s1]
    refine keep_cond (P := Quiet s0) (fun _ => ?_) (fun _ => ?_)
    · refine tileIsolateDo_quiet ?_
      exact g3
    · exact g3
  clear_value s1
  refine keep_cond (P := Quiet s0) (fun _ => ?_) (fun _ => ?_)
  · refine tileReadmitDo_quiet ?_
    exact h2
  · exact h2

theorem regEffect_quiet {s0 : State} {a1 a2 a3 a4 a5 a6} (g6 : Quiet s0 a6) : Quiet s0 (regEffect a1 a2 a3 a4 a5 a6) := by
  unfold regEffect
  extract_lets +onlyGivenNames low1
  clear_value low1
  extract_lets +onlyGivenNames d2
  clear_value d2
  split
  · refine keep_cond (P := Quiet s0) (fun _ => ?_) (fun _ => ?_)
    · refine syncOff_quiet ?_
      exact g6
    · refine keep_cond (P := Quiet s0) (fun _ => ?_) (fun _ => ?_)
      · refine timeRefresh_quiet ?_
        exact g6
      · exact g6
  · refine keep_cond (P := Quiet s0) (fun _ => ?_) (fun _ => ?_)
    · refine hmSubmitWrite_quiet ?_
      exact g6
    · exact g6
  · refine keep_cond (P := Quiet s0) (fun _ => ?_) (fun _ => ?_)
    · refine fltAckWrite_quiet ?_
      exact g6
    · exact g6
  · refine keep_cond (P := Quiet s0) (fun _ => ?_) (fun _ => ?_)
    · refine smpClear_quiet ?_
      exact g6
    · exact g6
  · refine tileCtrlWrite_quiet ?_
    exact g6
  · refine keep_cond (P := Quiet s0) (fun _ => ?_) (fun _ => ?_)
    · refine (peerDownDo_calm (Calm.refl _)).toQuiet ?_
      exact g6
    · exact g6
  · refine slCtrlWritten_quiet ?_
    exact g6
  · refine (clkModeShare_calm (Calm.refl _)).toQuiet ?_
    exact g6
  · exact g6

theorem updClasp_quiet {s0 : State} {a1 a2} (g2 : Quiet s0 a2) : Quiet s0 (updClasp a1 a2) := by
  unfold updClasp
  exact Quiet.upd g2 rfl

theorem claspRej_quiet {s0 : State} {a1} (g1 : Quiet s0 a1) : Quiet s0 (claspRej a1) := by
  unfold claspRej
  refine updClasp_quiet ?_
  exact g1

theorem claspArmDo_quiet {s0 : State} {a1 a2} (g2 : Quiet s0 a2) : Quiet s0 (claspArmDo a1 a2) := by
  unfold claspArmDo
  refine keep_cond (P := Quiet s0) (fun _ => ?_) (fun _ => ?_)
  · refine claspRej_quiet ?_
    exact g2
  · extract_lets +onlyGivenNames s1
    have h2 : Quiet s0 s1 := by
      simp only [s1]
      refine hmSubmit_quiet ?_
      exact g2
    clear_value s1
    refine keep_cond (P := Quiet s0) (fun _ => ?_) (fun _ => ?_)
    · refine updClasp_quiet ?_
      exact h2
    · exact h2

theorem claspOpenDo_quiet {s0 : State} {a1} (g1 : Quiet s0 a1) : Quiet s0 (claspOpenDo a1) := by
  unfold claspOpenDo
  refine keep_cond (P := Quiet s0) (fun _ => ?_) (fun _ => ?_)
  · refine updClasp_quiet ?_
    exact g1
  · refine claspRej_quiet ?_
    exact g1

theorem claspCheckDo_quiet {s0 : State} {a1} (g1 : Quiet s0 a1) : Quiet s0 (claspCheckDo a1) := by
  unfold claspCheckDo
  refine keep_cond (P := Quiet s0) (fun _ => ?_) (fun _ => ?_)
  · exact g1
  · refine keep_cond (P := Quiet s0) (fun _ => ?_) (fun _ => ?_)
    · refine claspDiscard_quiet ?_
      exact g1
    · split
      · extract_lets +onlyGivenNames s1
        have h2 : Quiet s0 s1 := by
          simp only [s1]
          refine (claspCheckDo.noteMapOf_calm (Calm.refl _)).toQuiet ?_
          exact g1
        clear_value s1
        refine claspDiscard_quiet ?_
        refine updClasp_quiet ?_
        exact h2
      · refine updClasp_quiet ?_
        exact g1

theorem claspCancelDo_quiet {s0 : State} {a1 a2} (g2 : Quiet s0 a2) : Quiet s0 (claspCancelDo a1 a2) := by
  unfold claspCancelDo
  split
  · refine claspRej_quiet ?_
    exact g2
  · split
    · refine keep_cond (P := Quiet s0) (fun _ => ?_) (fun _ => ?_)
      · refine claspDiscard_quiet ?_
        refine hmRemove_quiet ?_
        exact g2
      · refine updClasp_quiet ?_
        exact g2
    · refine claspDiscard_quiet ?_
      exact g2
  · refine claspDiscard_quiet ?_
    exact g2

theorem claspCloseDo_quiet {s0 : State} {a1} (g1 : Quiet s0 a1) : Quiet s0 (claspCloseDo a1) := by
  unfold claspCloseDo
  refine keep_cond (P := Quiet s0) (fun _ => ?_) (fun _ => ?_)
  · refine updClasp_quiet ?_
    exact g1
  · refine claspRej_quiet ?_
    exact g1

theorem claspOpenWrite_quiet {s0 : State} {a1 a2} (g2 : Quiet s0 a2) : Quiet s0 (claspOpenWrite a1 a2) := by
  unfold claspOpenWrite
  split
  · refine claspOpenDo_quiet ?_
    exact g2
  · refine claspCloseDo_quiet ?_
    exact g2
  · exact g2

theorem claspStageDo_quiet {s0 : State} {a1 a2} (g2 : Quiet s0 a2) : Quiet s0 (claspStageDo a1 a2) := by
  unfold claspStageDo
  extract_lets +onlyGivenNames a1
  clear_value a1
  extract_lets +onlyGivenNames off2
  clear_value off2
  extract_lets +onlyGivenNames width3
  clear_value width3
  refine keep_cond (P := Quiet s0) (fun _ => ?_) (fun _ => ?_)
  · refine claspRej_quiet ?_
    exact g2
  · refine keep_cond (P := Quiet s0) (fun _ => ?_) (fun _ => ?_)
    · refine claspDiscard_quiet ?_
      exact g2
    · refine keep_cond (P := Quiet s0) (fun _ => ?_) (fun _ => ?_)
      · refine claspDiscard_quiet ?_
        refine updClasp_quiet ?_
        exact g2
      · split
        · exact g2
        · split
          extract_lets +onlyGivenNames x4
          clear_value x4
          refine updClasp_quiet ?_
          exact g2

theorem claspConfirmDo_quiet {s0 : State} {a1 a2} (g2 : Quiet s0 a2) : Quiet s0 (claspConfirmDo a1 a2) := by
  unfold claspConfirmDo
  refine keep_cond (P := Quiet s0) (fun _ => ?_) (fun _ => ?_)
  · refine claspRej_quiet ?_
    exact g2
  · refine keep_cond (P := Quiet s0) (fun _ => ?_) (fun _ => ?_)
    · refine updClasp_quiet ?_
      exact g2
    · refine claspDiscard_quiet ?_
      exact g2

theorem claspTimeoutDo_quiet {s0 : State} {a1} (g1 : Quiet s0 a1) : Quiet s0 (claspTimeoutDo a1) := by
  unfold claspTimeoutDo
  split
  · refine claspDiscard_quiet ?_
    refine (advanceTo_calm (Calm.refl _)).toQuiet ?_
    exact g1
  · refine claspDiscard_quiet ?_
    refine (advanceTo_calm (Calm.refl _)).toQuiet ?_
    exact g1
  · refine claspDiscard_quiet ?_
    refine (advanceTo_calm (Calm.refl _)).toQuiet ?_
    exact g1
  · exact g1

theorem launch_quiet {s0 : State} {a1 a2 a3} (g2 : ∀ y1 y2, Quiet s0 y2 → Quiet s0 (a2 y1 y2)) (g3 : Quiet s0 a3) : Quiet s0 (launch a1 a2 a3) := by
  unfold launch
  split
  · exact g3
  · refine keep_cond (P := Quiet s0) (fun _ => ?_) (fun _ => ?_)
    · exact g3
    · extract_lets +onlyGivenNames s1
      have h2 : Quiet s0 s1 := by
        simp only [s1]
        refine (advanceToLaunch_calm (Calm.refl _)).toQuiet ?_
        exact g3
      clear_value s1
      refine keep_cond (P := Quiet s0) (fun _ => ?_) (fun _ => ?_)
      · refine hmDiscardOne_quiet ?_
        exact h2
      · refine g2 _ _ ?_
        refine hmRemove_quiet ?_
        exact h2

theorem writeStatus_quiet {s0 : State} {a1 a2 a3 a4 a5 a6} (g6 : Quiet s0 a6) : Quiet s0 (writeStatus a1 a2 a3 a4 a5 a6) := by
  unfold writeStatus
  extract_lets +onlyGivenNames w1
  clear_value w1
  extract_lets +onlyGivenNames ro2
  clear_value ro2
  extract_lets +onlyGivenNames mask3
  clear_value mask3
  extract_lets +onlyGivenNames d4
  clear_value d4
  refine keep_cond (P := Quiet s0) (fun _ => ?_) (fun _ => ?_)
  · exact g6
  · split
    · refine (writeCounter_calm (Calm.refl _)).toQuiet ?_
      exact g6
    · split
      · refine updClasp_quiet ?_
        exact g6
      · refine keep_cond (P := Quiet s0) (fun _ => ?_) (fun _ => ?_)
        · refine updSamp_quiet ?_
          exact g6
        · exact g6
      · extract_lets +onlyGivenNames fs5
        clear_value fs5
        extract_lets +onlyGivenNames off6
        clear_value off6
        refine (regSet_calm (Calm.refl _)).toQuiet ?_
        exact g6

theorem writeClasp_quiet {s0 : State} {a1 a2 a3 a4 a5} (g5 : Quiet s0 a5) : Quiet s0 (writeClasp a1 a2 a3 a4 a5) := by
  unfold writeClasp
  extract_lets +onlyGivenNames low1
  clear_value low1
  split
  · refine keep_cond (P := Quiet s0) (fun _ => ?_) (fun _ => ?_)
    · refine claspOpenWrite_quiet ?_
      exact g5
    · exact g5
  · refine keep_cond (P := Quiet s0) (fun _ => ?_) (fun _ => ?_)
    · refine claspCancelDo_quiet ?_
      exact g5
    · exact g5
  · refine keep_cond (P := Quiet s0) (fun _ => ?_) (fun _ => ?_)
    · refine claspConfirmDo_quiet ?_
      exact g5
    · exact g5
  · refine claspStageDo_quiet ?_
    exact g5
  · refine claspArmDo_quiet ?_
    exact g5
  · refine (storeReg_calm (Calm.refl _)).toQuiet ?_
    exact g5

theorem streamIn_quiet {s0 : State} {a1 a2 a3 a4 a5} (g5 : Quiet s0 a5) : Quiet s0 (streamIn a1 a2 a3 a4 a5) := by
  unfold streamIn
  refine keep_cond (P := Quiet s0) (fun _ => ?_) (fun _ => ?_)
  · extract_lets +onlyGivenNames s1
    have h2 : Quiet s0 s1 := by
      simp only [s1]
      refine (updPhy_calm (Calm.refl _)).toQuiet ?_
      exact g5
    clear_value s1
    refine keep_cond (P := Quiet s0) (fun _ => ?_) (fun _ => ?_)
    · refine (countStrand_calm (Calm.refl _)).toQuiet ?_
      exact h2
    · refine keep_cond (P := Quiet s0) (fun _ => ?_) (fun _ => ?_)
      · refine keep_cond (P := Quiet s0) (fun _ => ?_) (fun _ => ?_)
        · refine (lctlReqDo_calm (Calm.refl _)).toQuiet ?_
          exact h2
        · refine (lctlAnswerDo_calm (Calm.refl _)).toQuiet ?_
          exact h2
      · refine keep_cond (P := Quiet s0) (fun _ => ?_) (fun _ => ?_)
        · refine tsyncDo_quiet ?_
          exact h2
        · refine keep_cond (P := Quiet s0) (fun _ => ?_) (fun _ => ?_)
          · refine treqDo_quiet ?_
            exact h2
          · refine keep_cond (P := Quiet s0) (fun _ => ?_) (fun _ => ?_)
            · refine trespDo_quiet ?_
              exact h2
            · exact h2
  · extract_lets +onlyGivenNames s3
    have h4 : Quiet s0 s3 := by
      simp only [s3]
      refine keep_cond (P := Quiet s0) (fun _ => ?_) (fun _ => ?_)
      · refine (countStrand_calm (Calm.refl _)).toQuiet ?_
        exact g5
      · exact g5
    clear_value s3
    extract_lets +onlyGivenNames f5
    clear_value f5
    refine keep_cond (P := Quiet s0) (fun _ => ?_) (fun _ => ?_)
    · refine (updPhy_calm (Calm.refl _)).toQuiet ?_
      exact h4
    · extract_lets +onlyGivenNames c6
      clear_value c6
      refine receiveDo_quiet ?_
      refine (updPhy_calm (Calm.refl _)).toQuiet ?_
      exact h4

theorem laneUis_quiet {s0 : State} {a1 a2 a3} (g3 : Quiet s0 a3) : Quiet s0 (laneUis a1 a2 a3) := by
  unfold laneUis
  extract_lets +onlyGivenNames x1
  clear_value x1
  refine keep_cond (P := Quiet s0) (fun _ => ?_) (fun _ => ?_)
  · exact g3
  · split
    extract_lets +onlyGivenNames s2
    have h3 : Quiet s0 s2 := by
      simp only [s2]
      refine (updPhy_calm (Calm.refl _)).toQuiet ?_
      exact g3
    clear_value s2
    extract_lets +onlyGivenNames s4
    have h5 : Quiet s0 s4 := by
      simp only [s4]
      refine (countN_calm (Calm.refl _)).toQuiet ?_
      refine (countN_calm (Calm.refl _)).toQuiet ?_
      refine (countN_calm (Calm.refl _)).toQuiet ?_
      exact h3
    clear_value s4
    extract_lets +onlyGivenNames s6
    have h7 : Quiet s0 s6 := by
      simp only [s6]
      refine (dfeMove_calm (Calm.refl _)).toQuiet ?_
      exact h5
    clear_value s6
    refine keep_cond (P := Quiet s0) (fun _ => ?_) (fun _ => ?_)
    · refine lockLossDo_quiet ?_
      exact h7
    · exact h7

theorem markerRow_quiet {s0 : State} {a1 a2 a3} (g3 : Quiet s0 a3) : Quiet s0 (markerRow a1 a2 a3) := by
  unfold markerRow
  extract_lets +onlyGivenNames good1
  clear_value good1
  extract_lets +onlyGivenNames s2
  have h3 : Quiet s0 s2 := by
    simp only [s2]
    refine keep_forEach (P := Quiet s0) ?_ ?_
    · intro x4 x5 h6
      refine (countStrand_calm (Calm.refl _)).toQuiet ?_
      exact h6
    · exact g3
  clear_value s2
  extract_lets +onlyGivenNames x7
  clear_value x7
  split
  · exact h3
  · split
    · refine keep_cond (P := Quiet s0) (fun _ => ?_) (fun _ => ?_)
      · refine losDo_quiet ?_
        exact h3
      · refine markerDo_quiet ?_
        exact h3
    · refine markerDo_quiet ?_
      exact h3

theorem trainRow_quiet {s0 : State} {a1 a2 a3} (g3 : Quiet s0 a3) : Quiet s0 (trainRow a1 a2 a3) := by
  unfold trainRow
  generalize hp2 : @elastic _ _ = p1
  have h3 : Quiet s0 p1.2 := by
    rw [← hp2]
    refine (elastic_calm (Calm.refl _)).toQuiet ?_
    exact g3
  clear hp2
  revert p1
  rintro ⟨v4, s5⟩ h6
  replace h6 : Quiet s0 s5 := h6
  dsimp -zeta only
  refine keep_forEach (P := Quiet s0) ?_ ?_
  · intro x7 x8 h9
    refine tsTcbDo_quiet ?_
    exact h9
  · exact h6

theorem rowIn_quiet {s0 : State} {a1 a2 a3 a4} (g4 : Quiet s0 a4) : Quiet s0 (rowIn a1 a2 a3 a4) := by
  unfold rowIn
  extract_lets +onlyGivenNames x1
  clear_value x1
  extract_lets +onlyGivenNames marks2
  clear_value marks2
  extract_lets +onlyGivenNames train3
  clear_value train3
  extract_lets +onlyGivenNames used4
  clear_value used4
  extract_lets +onlyGivenNames s5
  have h6 : Quiet s0 s5 := by
    simp only [s5]
    refine keep_cond (P := Quiet s0) (fun _ => ?_) (fun _ => ?_)
    · refine (elastic_calm (Calm.refl _)).toQuiet ?_
      exact g4
    · exact g4
  clear_value s5
  extract_lets +onlyGivenNames s7
  have h8 : Quiet s0 s7 := by
    simp only [s7]
    refine keep_forEach (P := Quiet s0) ?_ ?_
    · intro x9 x10 h11
      refine (recentre_calm (Calm.refl _)).toQuiet ?_
      exact h11
    · exact h6
  clear_value s7
  extract_lets +onlyGivenNames s12
  have h13 : Quiet s0 s12 := by
    simp only [s12]
    refine keep_cond (P := Quiet s0) (fun _ => ?_) (fun _ => ?_)
    · exact h8
    · refine markerRow_quiet ?_
      exact h8
  clear_value s12
  extract_lets +onlyGivenNames s14
  have h15 : Quiet s0 s14 := by
    simp only [s14]
    split
    · exact h13
    · refine trainRow_quiet ?_
      exact h13
  clear_value s14
  refine keep_forEach (P := Quiet s0) ?_ ?_
  · intro x16 x17 h18
    refine streamIn_quiet ?_
    exact h18
  · exact h15

theorem rowsIn_quiet {s0 : State} {a1 a2 a3 a4} (g4 : Quiet s0 a4) : Quiet s0 (rowsIn a1 a2 a3 a4) := by
  induction a1 generalizing a2 a3 a4
  · unfold rowsIn
    exact g4
  · rename_i k ih
    unfold rowsIn
    extract_lets +onlyGivenNames x1
    clear_value x1
    extract_lets +onlyGivenNames ls2
    clear_value ls2
    extract_lets +onlyGivenNames r3
    clear_value r3
    refine keep_cond (P := Quiet s0) (fun _ => ?_) (fun _ => ?_)
    · exact g4
    · refine ih ?_
      refine rowIn_quiet ?_
      refine (updPhy_calm (Calm.refl _)).toQuiet ?_
      exact g4

theorem stripIn_quiet {s0 : State} {a1 a2 a3 a4 a5} (g5 : Quiet s0 a5) : Quiet s0 (stripIn a1 a2 a3 a4 a5) := by
  unfold stripIn
  extract_lets +onlyGivenNames s1
  have h2 : Quiet s0 s1 := by
    simp only [s1]
    refine keep_forEach (P := Quiet s0) ?_ ?_
    · intro x3 x4 h5
      refine laneUis_quiet ?_
      exact h5
    · refine (updPhy_calm (Calm.refl _)).toQuiet ?_
      exact g5
  clear_value s1
  refine rowsIn_quiet ?_
  exact h2

theorem rxDo_quiet {s0 : State} {a1 a2 a3 a4} (g2 : ∀ y1 y2, Quiet s0 y2 → Quiet s0 (a2 y1 y2)) (g4 : Quiet s0 a4) : Quiet s0 (rxDo a1 a2 a3 a4) := by
  unfold rxDo
  split
  · refine g2 _ _ ?_
    exact g4
  · refine stripIn_quiet ?_
    exact g4

theorem rxCtnr_quiet {s0 : State} {a1 a2 a3 a4} (g4 : Quiet s0 a4) : Quiet s0 (rxCtnr a1 a2 a3 a4) := by
  unfold rxCtnr
  split
  · refine receiveDo_quiet ?_
    exact g4
  · refine stripIn_quiet ?_
    exact g4

theorem rxTsync_quiet {s0 : State} {a1 a2 a3 a4} (g4 : Quiet s0 a4) : Quiet s0 (rxTsync a1 a2 a3 a4) := by
  unfold rxTsync
  split
  · refine tsyncDo_quiet ?_
    exact g4
  · refine stripIn_quiet ?_
    exact g4

theorem ssyncTake_quiet {s0 : State} {a1} (g1 : Quiet s0 a1) : Quiet s0 (ssyncTake a1) := by
  unfold ssyncTake
  generalize hp2 : @takeMsg _ _ _ = p1
  have h3 : Quiet s0 p1.2 := by
    rw [← hp2]
    refine takeMsg_quiet ?_
    exact g1
  clear hp2
  revert p1
  rintro ⟨_ | v4, s5⟩ h6
  · replace h6 : Quiet s0 s5 := h6
    dsimp -zeta only
    exact h6
  · replace h6 : Quiet s0 s5 := h6
    dsimp -zeta only
    extract_lets +onlyGivenNames d7
    clear_value d7
    extract_lets +onlyGivenNames give8
    clear_value give8
    extract_lets +onlyGivenNames clr9
    clear_value clr9
    extract_lets +onlyGivenNames noMap10
    clear_value noMap10
    extract_lets +onlyGivenNames s11
    have h12 : Quiet s0 s11 := by
      simp only [s11]
      refine (updSeq_calm (Calm.refl _)).toQuiet ?_
      exact h6
    clear_value s11
    refine (sendDev_calm (Calm.refl _)).toQuiet ?_
    refine (unhold_calm (Calm.refl _)).toQuiet ?_
    exact h12

theorem e2ackTake_quiet {s0 : State} {a1} (g1 : Quiet s0 a1) : Quiet s0 (e2ackTake a1) := by
  unfold e2ackTake
  generalize hp2 : @takeMsg _ _ _ = p1
  have h3 : Quiet s0 p1.2 := by
    rw [← hp2]
    refine takeMsg_quiet ?_
    exact g1
  clear hp2
  revert p1
  rintro ⟨_ | v4, s5⟩ h6
  · replace h6 : Quiet s0 s5 := h6
    dsimp -zeta only
    exact h6
  · replace h6 : Quiet s0 s5 := h6
    dsimp -zeta only
    extract_lets +onlyGivenNames d7
    clear_value d7
    extract_lets +onlyGivenNames on8
    clear_value on8
    refine (updSeq_calm (Calm.refl _)).toQuiet ?_
    exact h6

theorem ssyncAckTake_quiet {s0 : State} {a1} (g1 : Quiet s0 a1) : Quiet s0 (ssyncAckTake a1) := by
  unfold ssyncAckTake
  generalize hp2 : @takeMsg _ _ _ = p1
  have h3 : Quiet s0 p1.2 := by
    rw [← hp2]
    refine takeMsg_quiet ?_
    exact g1
  clear hp2
  revert p1
  rintro ⟨_ | v4, s5⟩ h6
  · replace h6 : Quiet s0 s5 := h6
    dsimp -zeta only
    exact h6
  · replace h6 : Quiet s0 s5 := h6
    dsimp -zeta only
    extract_lets +onlyGivenNames d7
    clear_value d7
    refine keep_cond (P := Quiet s0) (fun _ => ?_) (fun _ => ?_)
    · exact h6
    · extract_lets +onlyGivenNames on8
      clear_value on8
      refine (setStream_calm (Calm.refl _)).toQuiet ?_
      refine (updSeq_calm (Calm.refl _)).toQuiet ?_
      exact h6

theorem injectThen_quiet {s0 : State} {a1 a2 a3} (g2 : ∀ y1, Quiet s0 y1 → Quiet s0 (a2 y1)) (g3 : Quiet s0 a3) : Quiet s0 (injectThen a1 a2 a3) := by
  unfold injectThen
  extract_lets +onlyGivenNames s1
  have h2 : Quiet s0 s1 := by
    simp only [s1]
    refine g2 _ ?_
    exact g3
  clear_value s1
  refine keep_cond (P := Quiet s0) (fun _ => ?_) (fun _ => ?_)
  · refine keep_forEach (P := Quiet s0) ?_ ?_
    · intro x3 x4 h5
      refine (seqRun_calm (Calm.refl _)).toQuiet ?_
      exact h5
    · exact h2
  · exact h2

theorem sampleExpire_quiet {s0 : State} {a1 a2} (g2 : Quiet s0 a2) : Quiet s0 (sampleExpire a1 a2) := by
  unfold sampleExpire
  split
  · exact g2
  · refine smpTimeout_quiet ?_
    refine (advanceTo_calm (Calm.refl _)).toQuiet ?_
    exact g2

theorem stagingSteps_quiet {s0 : State} {a1 a2 a3} (g3 : Quiet s0 a3) : Quiet s0 (stagingSteps a1 a2 a3) := by
  unfold stagingSteps
  extract_lets +onlyGivenNames s1
  have h2 : Quiet s0 s1 := by
    simp only [s1]
    refine (updPort_calm (Calm.refl _)).toQuiet ?_
    exact g3
  clear_value s1
  refine keep_forEach (P := Quiet s0) ?_ ?_
  · intro x3 x4 h5
    refine fltGlobal_quiet ?_
    exact h5
  · exact h2

theorem launchTile_quiet {s0 : State} {a1 a2 a3 a4} (g3 : ∀ y1 y2, Quiet s0 y2 → Quiet s0 (a3 y1 y2)) (g4 : Quiet s0 a4) : Quiet s0 (launchTile a1 a2 a3 a4) := by
  unfold launchTile
  refine launch_quiet ?_ ?_
  · intro x1 x2 h3
    refine g3 _ _ ?_
    exact h3
  · exact g4

theorem timeStartDo_quiet {s0 : State} {a1} (g1 : Quiet s0 a1) : Quiet s0 (timeStartDo a1) := by
  unfold timeStartDo
  refine keep_cond (P := Quiet s0) (fun _ => ?_) (fun _ => ?_)
  · refine poolAround_quiet ?_ ?_
    · intro x1 h2
      refine keep_id (P := Quiet s0) ?_
      exact h2
    · refine timeStart_quiet ?_
      exact g1
  · exact g1

theorem launchGlobal_quiet {s0 : State} {a1 a2 a3} (g2 : ∀ y1 y2, Quiet s0 y2 → Quiet s0 (a2 y1 y2)) (g3 : Quiet s0 a3) : Quiet s0 (launchGlobal a1 a2 a3) := by
  unfold launchGlobal
  refine launch_quiet ?_ ?_
  · intro x1 x2 h3
    refine g2 _ _ ?_
    exact h3
  · exact g3

end Sys2Proof.Machine
end

