-- ==== Sys2Proof/Laws/KeepSteady.lean ====
section
/-! SUPPORT. One lemma per operation that keeps what every step keeps: the identity, the clock's direction, and the stores in canonical form. -/

namespace Sys2Proof.Machine

theorem clearBank_steady {s0 : State} {a1 a2 a3} (g3 : Steady s0 a3) : Steady s0 (clearBank a1 a2 a3) := by
  unfold clearBank
  refine keep_foldl (P := Steady s0) ?_ ?_
  · intro x1 x2 h3
    refine tblSet_steady ?_
    exact h3
  · exact g3

theorem copyBank_steady {s0 : State} {a1 a2 a3} (g3 : Steady s0 a3) : Steady s0 (copyBank a1 a2 a3) := by
  unfold copyBank
  refine keep_foldl (P := Steady s0) ?_ ?_
  · intro x1 x2 h3
    refine tblSet_steady ?_
    exact h3
  · refine clearBank_steady ?_
    exact g3

theorem copyDr_steady {s0 : State} {a1} (g1 : Steady s0 a1) : Steady s0 (copyDr a1) := by
  unfold copyDr
  refine copyBank_steady ?_
  exact g1

theorem dropFlows_steady {s0 : State} {a1 a2 a3} (g3 : Steady s0 a3) : Steady s0 (dropFlows a1 a2 a3) := by
  unfold dropFlows
  refine keep_foldl (P := Steady s0) ?_ ?_
  · intro x1 x2 h3
    refine keep_cond (P := Steady s0) (fun _ => ?_) (fun _ => ?_)
    · refine tblSet_steady ?_
      exact h3
    · exact h3
  · exact g3

theorem copyBead_steady {s0 : State} {a1} (g1 : Steady s0 a1) : Steady s0 (copyBead a1) := by
  unfold copyBead
  refine copyBank_steady ?_
  exact g1

theorem copyOvr_steady {s0 : State} {a1} (g1 : Steady s0 a1) : Steady s0 (copyOvr a1) := by
  unfold copyOvr
  refine copyBank_steady ?_
  exact g1

theorem beadWritten_steady {s0 : State} {a1} (g1 : Steady s0 a1) : Steady s0 (beadWritten a1) := by
  unfold beadWritten
  refine keep_cond (P := Steady s0) (fun _ => ?_) (fun _ => ?_)
  · exact Steady.upd g1 rfl
  · exact g1

theorem preparePush_steady {s0 : State} {a1} (g1 : Steady s0 a1) : Steady s0 (preparePush a1) := by
  unfold preparePush
  extract_lets +onlyGivenNames flows1
  clear_value flows1
  extract_lets +onlyGivenNames s2
  have h3 : Steady s0 s2 := by
    simp only [s2]
    refine copyBead_steady ?_
    refine copyOvr_steady ?_
    exact g1
  clear_value s2
  extract_lets +onlyGivenNames s4
  have h5 : Steady s0 s4 := by
    simp only [s4]
    refine beadWritten_steady ?_
    refine dropFlows_steady ?_
    exact h3
  clear_value s4
  exact Steady.upd h5 rfl

theorem fillIn_steady {s0 : State} {a1 a2} (g2 : Steady s0 a2) : Steady s0 (fillIn a1 a2) := by
  unfold fillIn
  refine keep_foldl (P := Steady s0) ?_ ?_
  · intro x1 x2 h3
    refine keep_foldl (P := Steady s0) ?_ ?_
    · intro x4 x5 h6
      extract_lets +onlyGivenNames k7
      clear_value k7
      refine tblSet_steady ?_
      exact h6
    · exact h3
  · exact g2

theorem fillBoth_steady {s0 : State} {a1} (g1 : Steady s0 a1) : Steady s0 (fillBoth a1) := by
  unfold fillBoth
  refine fillIn_steady ?_
  refine fillIn_steady ?_
  exact g1

theorem realign_steady {s0 : State} {a1 a2 a3} (g1 : ∀ y1 y2, Steady s0 y2 → Steady s0 (a1 y1 y2)) (g3 : Steady s0 a3) : Steady s0 (realign a1 a2 a3) := by
  unfold realign
  refine keep_cond (P := Steady s0) (fun _ => ?_) (fun _ => ?_)
  · exact g3
  · extract_lets +onlyGivenNames s1
    have h2 : Steady s0 s1 := by
      simp only [s1]
      refine (advanceToTime_calm (Calm.refl _)).toSteady ?_
      exact g3
    extract_lets +onlyGivenNames found3
    clear_value found3
    refine keep_forEach (P := Steady s0) ?_ ?_
    · intro x4 x5 h6
      refine g1 _ _ ?_
      exact h6
    · refine (setCopies_quiet (Quiet.refl _)).toSteady ?_
      exact h2

theorem activateTake_steady {s0 : State} {a1} (g1 : Steady s0 a1) : Steady s0 (activateTake a1) := by
  unfold activateTake
  refine keep_cond (P := Steady s0) (fun _ => ?_) (fun _ => ?_)
  · exact g1
  · generalize hp2 : @takeMsg _ _ _ = p1
    have h3 : Steady s0 p1.2 := by
      rw [← hp2]
      refine (takeMsg_quiet (Quiet.refl _)).toSteady ?_
      exact g1
    clear hp2
    revert p1
    rintro ⟨_ | v4, s5⟩ h6
    · replace h6 : Steady s0 s5 := h6
      dsimp -zeta only
      exact h6
    · replace h6 : Steady s0 s5 := h6
      dsimp -zeta only
      refine keep_cond (P := Steady s0) (fun _ => ?_) (fun _ => ?_)
      · exact h6
      · extract_lets +onlyGivenNames s7
        have h8 : Steady s0 s7 := by
          simp only [s7]
          refine preparePush_steady ?_
          exact h6
        clear_value s7
        exact Steady.upd h8 rfl

theorem poolAround_steady {s0 : State} {a1 a2} (g1 : ∀ y1, Steady s0 y1 → Steady s0 (a1 y1)) (g2 : Steady s0 a2) : Steady s0 (poolAround a1 a2) := by
  unfold poolAround
  extract_lets +onlyGivenNames hello1
  clear_value hello1
  extract_lets +onlyGivenNames place2
  clear_value place2
  extract_lets +onlyGivenNames ids3
  clear_value ids3
  extract_lets +onlyGivenNames s4
  have h5 : Steady s0 s4 := by
    simp only [s4]
    refine (elect_quiet (Quiet.refl _)).toSteady ?_
    refine g1 _ ?_
    exact g2
  clear_value s4
  extract_lets +onlyGivenNames s6
  have h7 : Steady s0 s6 := by
    simp only [s6]
    refine keep_cond (P := Steady s0) (fun _ => ?_) (fun _ => ?_)
    · exact h5
    · refine keep_forEach (P := Steady s0) ?_ ?_
      · intro x8 x9 h10
        refine (sendHello_calm (Calm.refl _)).toSteady ?_
        exact h10
      · exact h5
  clear_value s6
  extract_lets +onlyGivenNames s11
  have h12 : Steady s0 s11 := by
    simp only [s11]
    refine keep_cond (P := Steady s0) (fun _ => ?_) (fun _ => ?_)
    · exact h7
    · refine (sendUp_calm (Calm.refl _)).toSteady ?_
      exact h7
  clear_value s11
  extract_lets +onlyGivenNames ids13
  clear_value ids13
  extract_lets +onlyGivenNames s14
  have h15 : Steady s0 s14 := by
    simp only [s14]
    refine keep_cond (P := Steady s0) (fun _ => ?_) (fun _ => ?_)
    · exact h12
    · refine (reportLinks_quiet (Quiet.refl _)).toSteady ?_
      exact h12
  clear_value s14
  refine (timeRefresh_quiet (Quiet.refl _)).toSteady ?_
  refine (reachUpdate_quiet (Quiet.refl _)).toSteady ?_
  exact h15

theorem routeTake_steady {s0 : State} {a1} (g1 : Steady s0 a1) : Steady s0 (routeTake a1) := by
  unfold routeTake
  refine keep_cond (P := Steady s0) (fun _ => ?_) (fun _ => ?_)
  · exact g1
  · generalize hp2 : @takeMsg _ _ _ = p1
    have h3 : Steady s0 p1.2 := by
      rw [← hp2]
      refine (takeMsg_quiet (Quiet.refl _)).toSteady ?_
      exact g1
    clear hp2
    revert p1
    rintro ⟨_ | v4, s5⟩ h6
    · replace h6 : Steady s0 s5 := h6
      dsimp -zeta only
      exact h6
    · replace h6 : Steady s0 s5 := h6
      dsimp -zeta only
      refine keep_cond (P := Steady s0) (fun _ => ?_) (fun _ => ?_)
      · exact h6
      · extract_lets +onlyGivenNames first7
        clear_value first7
        extract_lets +onlyGivenNames s8
        extract_lets +onlyGivenNames s9
        have h10 : Steady s0 s9 := by
          simp only [s9]
          refine keep_cond (P := Steady s0) (fun _ => ?_) (fun _ => ?_)
          · refine (regSetBit_calm (Calm.refl _)).toSteady ?_
            exact Steady.upd h6 rfl
          · exact h6
        clear_value s9
        extract_lets +onlyGivenNames s11
        have h12 : Steady s0 s11 := by
          simp only [s11]
          refine keep_forEach (P := Steady s0) ?_ ?_
          · intro x13 x14 h15
            refine keep_cond (P := Steady s0) (fun _ => ?_) (fun _ => ?_)
            · refine tblSet_steady ?_
              exact h15
            · exact h15
          · exact h10
        clear_value s11
        exact Steady.upd h12 rfl

theorem pushCheck_steady {s0 : State} {a1} (g1 : Steady s0 a1) : Steady s0 (pushCheck a1) := by
  unfold pushCheck
  split
  · exact g1
  · refine keep_cond (P := Steady s0) (fun _ => ?_) (fun _ => ?_)
    · exact g1
    · split
      · refine (regSetBit_calm (Calm.refl _)).toSteady ?_
        exact Steady.upd g1 rfl
      · extract_lets +onlyGivenNames s1
        have h2 : Steady s0 s1 := by
          simp only [s1]
          refine fillBoth_steady ?_
          exact g1
        clear_value s1
        extract_lets +onlyGivenNames v3
        clear_value v3
        generalize hp5 : @submitSwitch _ _ _ = p4
        have h6 : Steady s0 p4.2 := by
          rw [← hp5]
          refine (submitSwitch_quiet (Quiet.refl _)).toSteady ?_
          exact h2
        clear hp5
        revert p4
        rintro ⟨v7, s8⟩ h9
        replace h9 : Steady s0 s8 := h9
        dsimp -zeta only
        refine keep_cond (P := Steady s0) (fun _ => ?_) (fun _ => ?_)
        · exact Steady.upd h9 rfl
        · exact h9

theorem bumpChanges_steady {s0 : State} {a1 a2} (g2 : Steady s0 a2) : Steady s0 (bumpChanges a1 a2) := by
  unfold bumpChanges
  exact Steady.upd g2 rfl

theorem switchMode_steady {s0 : State} {a1 a2} (g2 : Steady s0 a2) : Steady s0 (switchMode a1 a2) := by
  unfold switchMode
  refine keep_cond (P := Steady s0) (fun _ => ?_) (fun _ => ?_)
  · exact g2
  · refine keep_cond (P := Steady s0) (fun _ => ?_) (fun _ => ?_)
    · exact Steady.upd g2 rfl
    · refine keep_cond (P := Steady s0) (fun _ => ?_) (fun _ => ?_)
      · exact Steady.upd g2 rfl
      · exact g2

theorem bumpAll_steady {s0 : State} {a1 a2} (g2 : Steady s0 a2) : Steady s0 (bumpAll a1 a2) := by
  unfold bumpAll
  refine keep_forEach (P := Steady s0) ?_ ?_
  · intro x1 x2 h3
    refine bumpChanges_steady ?_
    exact h3
  · exact g2

theorem writeDetour_steady {s0 : State} {a1 a2} (g2 : Steady s0 a2) : Steady s0 (writeDetour a1 a2) := by
  unfold writeDetour
  extract_lets +onlyGivenNames bank1
  clear_value bank1
  extract_lets +onlyGivenNames s2
  have h3 : Steady s0 s2 := by
    simp only [s2]
    refine copyOvr_steady ?_
    exact g2
  clear_value s2
  refine keep_forEach (P := Steady s0) ?_ ?_
  · intro x4 x5 h6
    refine keep_cond (P := Steady s0) (fun _ => ?_) (fun _ => ?_)
    · exact h6
    · refine keep_forEach (P := Steady s0) ?_ ?_
      · intro x7 x8 h9
        split
        refine tblSet_steady ?_
        exact h9
      · exact h6
  · exact h3

theorem notePreempt_steady {s0 : State} {a1} (g1 : Steady s0 a1) : Steady s0 (notePreempt a1) := by
  unfold notePreempt
  extract_lets +onlyGivenNames l1
  clear_value l1
  refine keep_forEach (P := Steady s0) ?_ ?_
  · intro x2 x3 h4
    refine (regSetBit_calm (Calm.refl _)).toSteady ?_
    exact h4
  · exact Steady.upd g1 rfl

theorem writeBeads_steady {s0 : State} {a1 a2 a3} (g3 : Steady s0 a3) : Steady s0 (writeBeads a1 a2 a3) := by
  unfold writeBeads
  extract_lets +onlyGivenNames src1
  have h2 : Steady s0 src1 := by
    simp only [src1]
    exact g3
  clear_value src1
  extract_lets +onlyGivenNames s3
  have h4 : Steady s0 s3 := by
    simp only [s3]
    refine clearBank_steady ?_
    exact g3
  clear_value s3
  refine keep_forEach (P := Steady s0) ?_ ?_
  · intro x5 x6 h7
    split
    extract_lets +onlyGivenNames s8
    have h9 : Steady s0 s8 := by
      simp only [s8]
      refine tblSet_steady ?_
      exact h7
    clear_value s8
    refine keep_forEach (P := Steady s0) ?_ ?_
    · intro x10 x11 h12
      refine tblSet_steady ?_
      exact h12
    · exact h9
  · exact h4

theorem applyDetour_steady {s0 : State} {a1 a2} (g2 : Steady s0 a2) : Steady s0 (applyDetour a1 a2) := by
  unfold applyDetour
  extract_lets +onlyGivenNames beads1
  clear_value beads1
  extract_lets +onlyGivenNames s2
  have h3 : Steady s0 s2 := by
    simp only [s2]
    refine copyDr_steady ?_
    refine writeDetour_steady ?_
    refine notePreempt_steady ?_
    exact g2
  clear_value s2
  extract_lets +onlyGivenNames s4
  have h5 : Steady s0 s4 := by
    simp only [s4]
    refine beadWritten_steady ?_
    refine writeBeads_steady ?_
    exact h3
  clear_value s4
  exact Steady.upd h5 rfl

theorem applyReturn_steady {s0 : State} {a1} (g1 : Steady s0 a1) : Steady s0 (applyReturn a1) := by
  unfold applyReturn
  extract_lets +onlyGivenNames s1
  have h2 : Steady s0 s1 := by
    simp only [s1]
    refine copyDr_steady ?_
    refine clearBank_steady ?_
    refine notePreempt_steady ?_
    exact g1
  clear_value s1
  extract_lets +onlyGivenNames bank3
  clear_value bank3
  extract_lets +onlyGivenNames ok4
  clear_value ok4
  extract_lets +onlyGivenNames s5
  have h6 : Steady s0 s5 := by
    simp only [s5]
    refine keep_cond (P := Steady s0) (fun _ => ?_) (fun _ => ?_)
    · exact h2
    · refine keep_forEach (P := Steady s0) ?_ ?_
      · intro x7 x8 h9
        refine (regSetBit_calm (Calm.refl _)).toSteady ?_
        exact h9
      · refine clearBank_steady ?_
        exact h2
  clear_value s5
  exact Steady.upd h6 rfl

theorem plannerApplyDo_steady {s0 : State} {a1} (g1 : Steady s0 a1) : Steady s0 (plannerApplyDo a1) := by
  unfold plannerApplyDo
  refine keep_cond (P := Steady s0) (fun _ => ?_) (fun _ => ?_)
  · exact g1
  · split
    · exact g1
    · extract_lets +onlyGivenNames s1
      have h2 : Steady s0 s1 := by
        simp only [s1]
        split
        · refine applyDetour_steady ?_
          exact g1
        · refine applyReturn_steady ?_
          exact g1
      clear_value s1
      extract_lets +onlyGivenNames s3
      have h4 : Steady s0 s3 := by
        simp only [s3]
        refine bumpAll_steady ?_
        exact h2
      clear_value s3
      refine (plannerSubmit_quiet (Quiet.refl _)).toSteady ?_
      exact Steady.upd h4 rfl

theorem modeChangeDo_steady {s0 : State} {a1 a2} (g2 : Steady s0 a2) : Steady s0 (modeChangeDo a1 a2) := by
  unfold modeChangeDo
  refine keep_cond (P := Steady s0) (fun _ => ?_) (fun _ => ?_)
  · exact Steady.upd g2 rfl
  · refine keep_cond (P := Steady s0) (fun _ => ?_) (fun _ => ?_)
    · refine (regSetBit_calm (Calm.refl _)).toSteady ?_
      exact g2
    · exact Steady.upd g2 rfl

theorem epochDrainedDo_steady {s0 : State} {a1} (g1 : Steady s0 a1) : Steady s0 (epochDrainedDo a1) := by
  unfold epochDrainedDo
  refine keep_cond (P := Steady s0) (fun _ => ?_) (fun _ => ?_)
  · extract_lets +onlyGivenNames s1
    have h2 : Steady s0 s1 := by
      simp only [s1]
      refine (advanceTo_calm (Calm.refl _)).toSteady ?_
      exact g1
    clear_value s1
    exact Steady.upd h2 rfl
  · exact g1

theorem notePrimary_steady {s0 : State} {a1 a2 a3} (g3 : Steady s0 a3) : Steady s0 (notePrimary a1 a2 a3) := by
  unfold notePrimary
  exact Steady.upd g3 rfl

theorem swapBeads_steady {s0 : State} {a1} (g1 : Steady s0 a1) : Steady s0 (swapBeads a1) := by
  unfold swapBeads
  extract_lets +onlyGivenNames e1
  clear_value e1
  refine bumpAll_steady ?_
  exact Steady.upd g1 rfl

theorem epochSwitchDo_steady {s0 : State} {a1 a2} (g2 : Steady s0 a2) : Steady s0 (epochSwitchDo a1 a2) := by
  unfold epochSwitchDo
  extract_lets +onlyGivenNames ep1
  clear_value ep1
  extract_lets +onlyGivenNames s2
  have h3 : Steady s0 s2 := by
    simp only [s2]
    exact Steady.upd g2 rfl
  clear_value s2
  extract_lets +onlyGivenNames s4
  have h5 : Steady s0 s4 := by
    simp only [s4]
    refine bumpAll_steady ?_
    exact h3
  clear_value s4
  extract_lets +onlyGivenNames s6
  have h7 : Steady s0 s6 := by
    simp only [s6]
    refine keep_cond (P := Steady s0) (fun _ => ?_) (fun _ => ?_)
    · refine swapBeads_steady ?_
      exact h5
    · exact h5
  clear_value s6
  extract_lets +onlyGivenNames ret8
  clear_value ret8
  extract_lets +onlyGivenNames s9
  have h10 : Steady s0 s9 := by
    simp only [s9]
    refine keep_cond (P := Steady s0) (fun _ => ?_) (fun _ => ?_)
    · refine notePrimary_steady ?_
      exact h7
    · exact h7
  clear_value s9
  extract_lets +onlyGivenNames s11
  have h12 : Steady s0 s11 := by
    simp only [s11]
    refine switchMode_steady ?_
    exact h10
  clear_value s11
  extract_lets +onlyGivenNames s13
  extract_lets +onlyGivenNames s14
  have h15 : Steady s0 s14 := by
    simp only [s14]
    refine keep_cond (P := Steady s0) (fun _ => ?_) (fun _ => ?_)
    · exact Steady.upd h12 rfl
    · exact h12
  clear_value s14
  extract_lets +onlyGivenNames s16
  have h17 : Steady s0 s16 := by
    simp only [s16]
    refine keep_cond (P := Steady s0) (fun _ => ?_) (fun _ => ?_)
    · refine (pushActive_quiet (Quiet.refl _)).toSteady ?_
      exact h15
    · exact h15
  clear_value s16
  refine poolAround_steady ?_ ?_
  · intro x18 h19
    refine keep_id (P := Steady s0) ?_
    exact h19
  · exact h17

theorem beadSwapDo_steady {s0 : State} {a1} (g1 : Steady s0 a1) : Steady s0 (beadSwapDo a1) := by
  unfold beadSwapDo
  extract_lets +onlyGivenNames s1
  have h2 : Steady s0 s1 := by
    simp only [s1]
    refine swapBeads_steady ?_
    exact g1
  clear_value s1
  exact Steady.upd h2 rfl

theorem takeBlock_steady {s0 : State} {a1 a2 a3 a4 a5} (g5 : ∀ y1, Steady s0 y1 → Steady s0 (a5 y1)) (g4 : Steady s0 a4) : Steady s0 (takeBlock a1 a2 a3 a4 a5) := by
  unfold takeBlock
  refine keep_cond (P := Steady s0) (fun _ => ?_) (fun _ => ?_)
  · refine (countStrand_calm (Calm.refl _)).toSteady ?_
    exact g4
  · refine keep_cond (P := Steady s0) (fun _ => ?_) (fun _ => ?_)
    · refine g5 _ ?_
      exact g4
    · exact g4

theorem injectDo_steady {s0 : State} {a1 a2 a3 a4} (g1 : ∀ y1 y2 y3, Steady s0 y3 → Steady s0 (a1 y1 y2 y3)) (g4 : Steady s0 a4) : Steady s0 (injectDo a1 a2 a3 a4) := by
  unfold injectDo
  extract_lets +onlyGivenNames e1
  clear_value e1
  refine keep_cond (P := Steady s0) (fun _ => ?_) (fun _ => ?_)
  · exact g4
  · extract_lets +onlyGivenNames kind2
    clear_value kind2
    extract_lets +onlyGivenNames net3
    clear_value net3
    extract_lets +onlyGivenNames cnt4
    clear_value cnt4
    extract_lets +onlyGivenNames u5
    clear_value u5
    extract_lets +onlyGivenNames a6
    clear_value a6
    extract_lets +onlyGivenNames b7
    clear_value b7
    extract_lets +onlyGivenNames dur8
    clear_value dur8
    extract_lets +onlyGivenNames base9
    clear_value base9
    extract_lets +onlyGivenNames add10
    have h11 : ∀ y1 y2, Steady s0 y2 → Steady s0 (add10 y1 y2) := by
      intro x12 x13 h14
      simp only [add10]
      exact Steady.upd h14 rfl
    clear_value add10
    split
    · refine keep_cond (P := Steady s0) (fun _ => ?_) (fun _ => ?_)
      · exact g4
      · split
        · refine h11 _ _ ?_
          exact g4
        · exact g4
    · split
      · refine h11 _ _ ?_
        exact g4
      · exact g4
    · split
      · extract_lets +onlyGivenNames i15
        clear_value i15
        extract_lets +onlyGivenNames s16
        have h17 : Steady s0 s16 := by
          simp only [s16]
          refine h11 _ _ ?_
          exact g4
        clear_value s16
        refine keep_cond (P := Steady s0) (fun _ => ?_) (fun _ => ?_)
        · refine g1 _ _ _ ?_
          exact h17
        · exact h17
      · exact g4
    · refine keep_cond (P := Steady s0) (fun _ => ?_) (fun _ => ?_)
      · exact g4
      · split
        · refine h11 _ _ ?_
          exact g4
        · exact g4
    · extract_lets +onlyGivenNames p18
      clear_value p18
      refine keep_cond (P := Steady s0) (fun _ => ?_) (fun _ => ?_)
      · refine (updPort_calm (Calm.refl _)).toSteady ?_
        exact g4
      · exact g4
    · exact g4

theorem inStage_steady {s0 : State} {a1 a2 a3 a4} (g3 : ∀ y1, Steady s0 y1 → Steady s0 (a3 y1)) (g4 : Steady s0 a4) : Steady s0 (inStage a1 a2 a3 a4) := by
  unfold inStage
  refine keep_cond (P := Steady s0) (fun _ => ?_) (fun _ => ?_)
  · refine (trainOut_calm (Calm.refl _)).toSteady ?_
    refine g3 _ ?_
    exact g4
  · exact g4

theorem restoreEnter_steady {s0 : State} {a1} (g1 : Steady s0 a1) : Steady s0 (restoreEnter a1) := by
  unfold restoreEnter
  refine (seedTime_quiet (Quiet.refl _)).toSteady ?_
  exact Steady.upd g1 rfl

theorem testAsk_steady {s0 : State} {a1} (g1 : Steady s0 a1) : Steady s0 (testAsk a1) := by
  unfold testAsk
  refine keep_cond (P := Steady s0) (fun _ => ?_) (fun _ => ?_)
  · refine (cmdRej_calm (Calm.refl _)).toSteady ?_
    exact g1
  · exact Steady.upd g1 rfl

theorem enterHold_steady {s0 : State} {a1 a2} (g2 : Steady s0 a2) : Steady s0 (enterHold a1 a2) := by
  unfold enterHold
  refine keep_forEach (P := Steady s0) ?_ ?_
  · intro x1 x2 h3
    refine (portDisable_calm (Calm.refl _)).toSteady ?_
    exact h3
  · exact Steady.upd g2 rfl

theorem powerDecision_steady {s0 : State} {a1} (g1 : Steady s0 a1) : Steady s0 (powerDecision a1) := by
  unfold powerDecision
  refine keep_cond (P := Steady s0) (fun _ => ?_) (fun _ => ?_)
  · refine enterHold_steady ?_
    exact g1
  · refine keep_cond (P := Steady s0) (fun _ => ?_) (fun _ => ?_)
    · refine enterHold_steady ?_
      exact g1
    · refine keep_cond (P := Steady s0) (fun _ => ?_) (fun _ => ?_)
      · refine enterHold_steady ?_
        exact g1
      · refine keep_cond (P := Steady s0) (fun _ => ?_) (fun _ => ?_)
        · refine enterHold_steady ?_
          exact g1
        · refine keep_cond (P := Steady s0) (fun _ => ?_) (fun _ => ?_)
          · refine enterHold_steady ?_
            exact g1
          · refine restoreEnter_steady ?_
            exact g1

theorem enterRun_steady {s0 : State} {a1} (g1 : Steady s0 a1) : Steady s0 (enterRun a1) := by
  unfold enterRun
  extract_lets +onlyGivenNames s1
  extract_lets +onlyGivenNames s2
  have h3 : Steady s0 s2 := by
    simp only [s2]
    refine (startWaves_quiet (Quiet.refl _)).toSteady ?_
    exact Steady.upd g1 rfl
  clear_value s2
  refine (planAtRun_quiet (Quiet.refl _)).toSteady ?_
  refine (holdRetired_quiet (Quiet.refl _)).toSteady ?_
  exact h3

theorem cmdRestore_steady {s0 : State} {a1} (g1 : Steady s0 a1) : Steady s0 (cmdRestore a1) := by
  unfold cmdRestore
  refine keep_cond (P := Steady s0) (fun _ => ?_) (fun _ => ?_)
  · refine (cmdRej_calm (Calm.refl _)).toSteady ?_
    exact g1
  · refine restoreEnter_steady ?_
    exact g1

theorem cmdAbort_steady {s0 : State} {a1} (g1 : Steady s0 a1) : Steady s0 (cmdAbort a1) := by
  unfold cmdAbort
  refine keep_cond (P := Steady s0) (fun _ => ?_) (fun _ => ?_)
  · refine (cmdRej_calm (Calm.refl _)).toSteady ?_
    exact g1
  · refine enterHold_steady ?_
    exact g1

theorem enterKeep_steady {s0 : State} {a1} (g1 : Steady s0 a1) : Steady s0 (enterKeep a1) := by
  unfold enterKeep
  extract_lets +onlyGivenNames s1
  have h2 : Steady s0 s1 := by
    simp only [s1]
    refine coreOff_steady ?_
    exact g1
  clear_value s1
  exact Steady.upd h2 rfl

theorem stopTraffic_steady {s0 : State} {a1} (g1 : Steady s0 a1) : Steady s0 (stopTraffic a1) := by
  unfold stopTraffic
  extract_lets +onlyGivenNames s1
  have h2 : Steady s0 s1 := by
    simp only [s1]
    refine keep_forEach (P := Steady s0) ?_ ?_
    · intro x3 x4 h5
      refine (portDisable_calm (Calm.refl _)).toSteady ?_
      exact h5
    · exact g1
  clear_value s1
  exact Steady.upd h2 rfl

theorem drainFinalDo_steady {s0 : State} {a1} (g1 : Steady s0 a1) : Steady s0 (drainFinalDo a1) := by
  unfold drainFinalDo
  refine keep_cond (P := Steady s0) (fun _ => ?_) (fun _ => ?_)
  · exact g1
  · refine keep_cond (P := Steady s0) (fun _ => ?_) (fun _ => ?_)
    · refine enterKeep_steady ?_
      refine keep_cond (P := Steady s0) (fun _ => ?_) (fun _ => ?_)
      · exact Steady.upd g1 rfl
      · exact g1
    · extract_lets +onlyGivenNames s1
      have h2 : Steady s0 s1 := by
        simp only [s1]
        refine keep_cond (P := Steady s0) (fun _ => ?_) (fun _ => ?_)
        · exact g1
        · refine (lkDoubt_calm (Calm.refl _)).toSteady ?_
          refine (advanceTo_calm (Calm.refl _)).toSteady ?_
          exact g1
      clear_value s1
      extract_lets +onlyGivenNames quiet3
      clear_value quiet3
      extract_lets +onlyGivenNames s4
      have h5 : Steady s0 s4 := by
        simp only [s4]
        refine stopTraffic_steady ?_
        exact h2
      clear_value s4
      refine keep_cond (P := Steady s0) (fun _ => ?_) (fun _ => ?_)
      · refine enterKeep_steady ?_
        refine saveDo_steady ?_
        exact Steady.upd h5 rfl
      · extract_lets +onlyGivenNames s6
        have h7 : Steady s0 s6 := by
          simp only [s6]
          refine enterHold_steady ?_
          exact h5
        clear_value s6
        refine (quietGoOn_quiet (Quiet.refl _)).toSteady ?_
        exact Steady.upd h7 rfl

theorem loadTimeoutDo_steady {s0 : State} {a1} (g1 : Steady s0 a1) : Steady s0 (loadTimeoutDo a1) := by
  unfold loadTimeoutDo
  split
  · refine keep_cond (P := Steady s0) (fun _ => ?_) (fun _ => ?_)
    · refine enterHold_steady ?_
      refine (advanceTo_calm (Calm.refl _)).toSteady ?_
      exact g1
    · exact g1
  · exact g1

theorem checkFails_steady {s0 : State} {a1 a2 a3} (g3 : Steady s0 a3) : Steady s0 (checkFails a1 a2 a3) := by
  unfold checkFails
  exact Steady.upd g3 rfl

theorem restoreRun_steady {s0 : State} {a1} (g1 : Steady s0 a1) : Steady s0 (restoreRun a1) := by
  unfold restoreRun
  extract_lets +onlyGivenNames s1
  extract_lets +onlyGivenNames s2
  have h3 : Steady s0 s2 := by
    simp only [s2]
    refine enterRun_steady ?_
    exact Steady.upd g1 rfl
  clear_value s2
  extract_lets +onlyGivenNames s4
  extract_lets +onlyGivenNames s5
  have h6 : Steady s0 s5 := by
    simp only [s5]
    exact Steady.upd h3 rfl
  clear_value s5
  refine keep_cond (P := Steady s0) (fun _ => ?_) (fun _ => ?_)
  · exact Steady.upd h6 rfl
  · exact h6

theorem checkerDo_steady {s0 : State} {a1} (g1 : Steady s0 a1) : Steady s0 (checkerDo a1) := by
  unfold checkerDo
  split
  · exact g1
  · split
    · refine enterHold_steady ?_
      refine checkFails_steady ?_
      refine (noteMap_calm (Calm.refl _)).toSteady ?_
      exact g1
    · extract_lets +onlyGivenNames s1
      extract_lets +onlyGivenNames s2
      have h3 : Steady s0 s2 := by
        simp only [s2]
        refine fillBoth_steady ?_
        exact Steady.upd g1 rfl
      clear_value s2
      split
      · refine enterRun_steady ?_
        exact h3
      · refine (holdRetired_quiet (Quiet.refl _)).toSteady ?_
        refine (startWaves_quiet (Quiet.refl _)).toSteady ?_
        exact Steady.upd h3 rfl
      · refine restoreRun_steady ?_
        exact h3

theorem warmResetDo_steady {s0 : State} {a1} (g1 : Steady s0 a1) : Steady s0 (warmResetDo a1) := by
  unfold warmResetDo
  refine keep_cond (P := Steady s0) (fun _ => ?_) (fun _ => ?_)
  · refine fabricReset_steady ?_
    exact g1
  · exact g1

theorem drainEnter_steady {s0 : State} {a1 a2 a3} (g3 : Steady s0 a3) : Steady s0 (drainEnter a1 a2 a3) := by
  unfold drainEnter
  extract_lets +onlyGivenNames v1
  clear_value v1
  extract_lets +onlyGivenNames full2
  clear_value full2
  extract_lets +onlyGivenNames s3
  have h4 : Steady s0 s3 := by
    simp only [s3]
    refine (claspDiscard_quiet (Quiet.refl _)).toSteady ?_
    refine (hmDiscardAll_quiet (Quiet.refl _)).toSteady ?_
    refine (quietHold_quiet (Quiet.refl _)).toSteady ?_
    exact g3
  clear_value s3
  extract_lets +onlyGivenNames s5
  have h6 : Steady s0 s5 := by
    simp only [s5]
    exact Steady.upd h4 rfl
  clear_value s5
  extract_lets +onlyGivenNames s7
  extract_lets +onlyGivenNames s8
  extract_lets +onlyGivenNames s9
  extract_lets +onlyGivenNames s10
  extract_lets +onlyGivenNames s11
  have h12 : Steady s0 s11 := by
    simp only [s11]
    exact Steady.upd h6 rfl
  clear_value s11
  refine (lkDrain_calm (Calm.refl _)).toSteady ?_
  exact h12

theorem cmdDrain_steady {s0 : State} {a1 a2} (g2 : Steady s0 a2) : Steady s0 (cmdDrain a1 a2) := by
  unfold cmdDrain
  refine keep_cond (P := Steady s0) (fun _ => ?_) (fun _ => ?_)
  · refine drainEnter_steady ?_
    exact g2
  · refine (cmdRej_calm (Calm.refl _)).toSteady ?_
    exact g2

theorem resetReleaseDo_steady {s0 : State} {a1} (g1 : Steady s0 a1) : Steady s0 (resetReleaseDo a1) := by
  unfold resetReleaseDo
  split
  · exact g1
  · extract_lets +onlyGivenNames s1
    have h2 : Steady s0 s1 := by
      simp only [s1]
      split
      · refine (advanceTo_calm (Calm.refl _)).toSteady ?_
        exact g1
      · exact g1
    clear_value s1
    exact Steady.upd h2 rfl

theorem gtHoldClearDo_steady {s0 : State} {a1} (g1 : Steady s0 a1) : Steady s0 (gtHoldClearDo a1) := by
  unfold gtHoldClearDo
  refine keep_cond (P := Steady s0) (fun _ => ?_) (fun _ => ?_)
  · exact g1
  · extract_lets +onlyGivenNames join1
    clear_value join1
    extract_lets +onlyGivenNames met2
    clear_value met2
    extract_lets +onlyGivenNames s3
    have h4 : Steady s0 s3 := by
      simp only [s3]
      refine (frameFrom_calm (Calm.refl _)).toSteady ?_
      exact g1
    clear_value s3
    exact Steady.upd h4 rfl

theorem reload_steady {s0 : State} {a1} (g1 : Steady s0 a1) : Steady s0 (reload a1) := by
  unfold reload
  extract_lets +onlyGivenNames im tiles tm pl s1 s2
  have h1 : Steady s0 s1 := ⟨g1.ident, g1.cyc, g1.free, fun w => ⟨(g1.stores w).2, (g1.stores w).2⟩⟩
  have h2 : Steady s0 s2 := keep_forEach (P := Steady s0) (fun x s h => (disableDo_quiet (Quiet.refl _)).toSteady h) h1
  clear_value s2
  exact poolAround_steady (a1 := id) (fun _ h => h) (Steady.upd h2 rfl)

theorem reloadDo_steady {s0 : State} {a1 a2} (g2 : Steady s0 a2) : Steady s0 (reloadDo a1 a2) := by
  unfold reloadDo
  refine keep_cond (P := Steady s0) (fun _ => ?_) (fun _ => ?_)
  · exact g2
  · extract_lets +onlyGivenNames l1
    extract_lets +onlyGivenNames found2
    clear_value found2
    extract_lets +onlyGivenNames s3
    have h4 : Steady s0 s3 := by
      simp only [s3]
      refine keep_cond (P := Steady s0) (fun _ => ?_) (fun _ => ?_)
      · exact g2
      · refine (useFree_calm (Calm.refl _)).toSteady ?_
        exact g2
    extract_lets +onlyGivenNames wrong5
    extract_lets +onlyGivenNames s6
    extract_lets +onlyGivenNames s7
    have h8 : Steady s0 s7 := by
      simp only [s7]
      exact Steady.upd h4 rfl
    clear_value s7
    refine keep_cond (P := Steady s0) (fun _ => ?_) (fun _ => ?_)
    · refine enterHold_steady ?_
      exact Steady.upd h8 rfl
    · extract_lets +onlyGivenNames s9
      have h10 : Steady s0 s9 := by
        simp only [s9]
        refine reload_steady ?_
        exact h8
      clear_value s9
      exact Steady.upd h10 rfl

theorem cmdLoad_steady {s0 : State} {a1} (g1 : Steady s0 a1) : Steady s0 (cmdLoad a1) := by
  unfold cmdLoad
  refine keep_cond (P := Steady s0) (fun _ => ?_) (fun _ => ?_)
  · refine (cmdRej_calm (Calm.refl _)).toSteady ?_
    exact g1
  · exact Steady.upd g1 rfl

theorem sealDo_steady {s0 : State} {a1 a2} (g2 : Steady s0 a2) : Steady s0 (sealDo a1 a2) := by
  unfold sealDo
  refine keep_cond (P := Steady s0) (fun _ => ?_) (fun _ => ?_)
  · exact g2
  · refine keep_cond (P := Steady s0) (fun _ => ?_) (fun _ => ?_)
    · refine enterHold_steady ?_
      refine checkFails_steady ?_
      exact g2
    · refine keep_cond (P := Steady s0) (fun _ => ?_) (fun _ => ?_)
      · refine enterHold_steady ?_
        refine checkFails_steady ?_
        exact g2
      · exact Steady.upd g2 rfl

theorem drainToKeep_steady {s0 : State} {a1} (g1 : Steady s0 a1) : Steady s0 (drainToKeep a1) := by
  unfold drainToKeep
  refine keep_cond (P := Steady s0) (fun _ => ?_) (fun _ => ?_)
  · exact g1
  · exact Steady.upd g1 rfl

theorem rpllLossDo_steady {s0 : State} {a1} (g1 : Steady s0 a1) : Steady s0 (rpllLossDo a1) := by
  unfold rpllLossDo
  extract_lets +onlyGivenNames s1
  extract_lets +onlyGivenNames s2
  have h3 : Steady s0 s2 := by
    simp only [s2]
    exact Steady.upd g1 rfl
  refine keep_cond (P := Steady s0) (fun _ => ?_) (fun _ => ?_)
  · exact h3
  · refine keep_cond (P := Steady s0) (fun _ => ?_) (fun _ => ?_)
    · refine drainToKeep_steady ?_
      exact Steady.upd h3 rfl
    · refine drainEnter_steady ?_
      exact h3

theorem pfFallDo_steady {s0 : State} {a1} (g1 : Steady s0 a1) : Steady s0 (pfFallDo a1) := by
  unfold pfFallDo
  extract_lets +onlyGivenNames s1
  extract_lets +onlyGivenNames s2
  have h3 : Steady s0 s2 := by
    simp only [s2]
    exact Steady.upd g1 rfl
  refine keep_cond (P := Steady s0) (fun _ => ?_) (fun _ => ?_)
  · exact h3
  · refine keep_cond (P := Steady s0) (fun _ => ?_) (fun _ => ?_)
    · refine drainToKeep_steady ?_
      exact h3
    · refine drainEnter_steady ?_
      exact h3

theorem pfRiseDo_steady {s0 : State} {a1} (g1 : Steady s0 a1) : Steady s0 (pfRiseDo a1) := by
  unfold pfRiseDo
  extract_lets +onlyGivenNames s1
  extract_lets +onlyGivenNames s2
  have h3 : Steady s0 s2 := by
    simp only [s2]
    exact Steady.upd g1 rfl
  refine keep_cond (P := Steady s0) (fun _ => ?_) (fun _ => ?_)
  · refine powerDecision_steady ?_
    exact h3
  · exact h3

theorem powerOnDo_steady {s0 : State} {a1 a2 a3 a4} (g4 : Steady s0 a4) : Steady s0 (powerOnDo a1 a2 a3 a4) := by
  unfold powerOnDo
  extract_lets +onlyGivenNames s1
  have h2 : Steady s0 s1 := by
    simp only [s1]
    refine coreOff_steady ?_
    exact g4
  clear_value s1
  extract_lets +onlyGivenNames s3
  extract_lets +onlyGivenNames s4
  extract_lets +onlyGivenNames s5
  have h6 : Steady s0 s5 := by
    simp only [s5]
    exact Steady.upd h2 rfl
  clear_value s5
  refine powerDecision_steady ?_
  refine (powerKept_quiet (Quiet.refl _)).toSteady ?_
  exact h6

theorem softResetDo_steady {s0 : State} {a1} (g1 : Steady s0 a1) : Steady s0 (softResetDo a1) := by
  unfold softResetDo
  refine keep_cond (P := Steady s0) (fun _ => ?_) (fun _ => ?_)
  · refine fabricReset_steady ?_
    exact g1
  · exact g1

theorem drainOverdueDo_steady {s0 : State} {a1} (g1 : Steady s0 a1) : Steady s0 (drainOverdueDo a1) := by
  unfold drainOverdueDo
  refine keep_cond (P := Steady s0) (fun _ => ?_) (fun _ => ?_)
  · exact g1
  · extract_lets +onlyGivenNames s1
    have h2 : Steady s0 s1 := by
      simp only [s1]
      refine (advanceTo_calm (Calm.refl _)).toSteady ?_
      exact g1
    clear_value s1
    extract_lets +onlyGivenNames s3
    extract_lets +onlyGivenNames s4
    have h5 : Steady s0 s4 := by
      simp only [s4]
      exact Steady.upd h2 rfl
    clear_value s4
    refine keep_forEach (P := Steady s0) ?_ ?_
    · intro x6 x7 h8
      refine (faultEvent_quiet (Quiet.refl _)).toSteady ?_
      exact h8
    · exact h5

theorem keepLostDo_steady {s0 : State} {a1} (g1 : Steady s0 a1) : Steady s0 (keepLostDo a1) := by
  unfold keepLostDo
  exact Steady.upd g1 rfl

theorem setView_steady {s0 : State} {a1 a2 a3 a4 a5} (g5 : Steady s0 a5) : Steady s0 (setView a1 a2 a3 a4 a5) := by
  unfold setView
  extract_lets +onlyGivenNames sel1
  clear_value sel1
  extract_lets +onlyGivenNames v2
  clear_value v2
  exact Steady.upd g5 rfl

theorem fabCmd_steady {s0 : State} {a1 a2 a3} (g3 : Steady s0 a3) : Steady s0 (fabCmd a1 a2 a3) := by
  unfold fabCmd
  extract_lets +onlyGivenNames drain1
  clear_value drain1
  extract_lets +onlyGivenNames test2
  clear_value test2
  extract_lets +onlyGivenNames freset3
  clear_value freset3
  extract_lets +onlyGivenNames n4
  clear_value n4
  refine keep_cond (P := Steady s0) (fun _ => ?_) (fun _ => ?_)
  · exact g3
  · refine keep_cond (P := Steady s0) (fun _ => ?_) (fun _ => ?_)
    · refine (cmdRej_calm (Calm.refl _)).toSteady ?_
      exact g3
    · refine keep_cond (P := Steady s0) (fun _ => ?_) (fun _ => ?_)
      · refine cmdLoad_steady ?_
        exact g3
      · refine keep_cond (P := Steady s0) (fun _ => ?_) (fun _ => ?_)
        · refine cmdAbort_steady ?_
          exact g3
        · refine keep_cond (P := Steady s0) (fun _ => ?_) (fun _ => ?_)
          · refine cmdRestore_steady ?_
            exact g3
          · refine keep_cond (P := Steady s0) (fun _ => ?_) (fun _ => ?_)
            · refine testAsk_steady ?_
              exact g3
            · refine keep_cond (P := Steady s0) (fun _ => ?_) (fun _ => ?_)
              · refine softResetDo_steady ?_
                exact g3
              · refine cmdDrain_steady ?_
                exact g3

theorem fabSealWrite_steady {s0 : State} {a1 a2} (g2 : Steady s0 a2) : Steady s0 (fabSealWrite a1 a2) := by
  unfold fabSealWrite
  refine keep_cond (P := Steady s0) (fun _ => ?_) (fun _ => ?_)
  · refine sealDo_steady ?_
    exact g2
  · exact g2

theorem regSettings_steady {s0 : State} {a1 a2 a3 a4 a5 a6} (g6 : Steady s0 a6) : Steady s0 (regSettings a1 a2 a3 a4 a5 a6) := by
  unfold regSettings
  refine keep_cond (P := Steady s0) (fun _ => ?_) (fun _ => ?_)
  · refine keep_cond (P := Steady s0) (fun _ => ?_) (fun _ => ?_)
    · exact Steady.upd g6 rfl
    · exact g6
  · refine (storeReg_calm (Calm.refl _)).toSteady ?_
    exact g6

theorem writeBasic_steady {s0 : State} {a1 a2 a3 a4 a5 a6 a7} (g7 : Steady s0 a7) : Steady s0 (writeBasic a1 a2 a3 a4 a5 a6 a7) := by
  unfold writeBasic
  extract_lets +onlyGivenNames old1
  clear_value old1
  split
  · refine keep_cond (P := Steady s0) (fun _ => ?_) (fun _ => ?_)
    · refine fabCmd_steady ?_
      exact g7
    · exact g7
  · refine fabSealWrite_steady ?_
    exact g7
  · refine (fenceWrite_calm (Calm.refl _)).toSteady ?_
    exact g7
  · refine poolAround_steady ?_ ?_
    · intro x2 h3
      refine regSettings_steady ?_
      exact h3
    · exact g7
  · refine (regEffect_quiet (Quiet.refl _)).toSteady ?_
    refine regSettings_steady ?_
    exact g7

theorem noteSoftWrite_steady {s0 : State} {a1 a2} (g2 : Steady s0 a2) : Steady s0 (noteSoftWrite a1 a2) := by
  unfold noteSoftWrite
  split
  · extract_lets +onlyGivenNames l1
    clear_value l1
    exact Steady.upd g2 rfl
  · refine beadWritten_steady ?_
    exact Steady.upd g2 rfl
  · exact Steady.upd g2 rfl
  · exact g2

theorem writeTable_steady {s0 : State} {a1 a2 a3 a4 a5 a6 a7} (g7 : Steady s0 a7) : Steady s0 (writeTable a1 a2 a3 a4 a5 a6 a7) := by
  unfold writeTable
  refine keep_cond (P := Steady s0) (fun _ => ?_) (fun _ => ?_)
  · refine (regSetBit_calm (Calm.refl _)).toSteady ?_
    exact g7
  · split
    · refine keep_cond (P := Steady s0) (fun _ => ?_) (fun _ => ?_)
      · refine (resolveWrite_calm (Calm.refl _)).toSteady ?_
        exact g7
      · exact g7
    · extract_lets +onlyGivenNames k1
      clear_value k1
      refine noteSoftWrite_steady ?_
      refine tblSet_steady ?_
      exact g7

theorem performWrite_steady {s0 : State} {a1 a2 a3 a4 a5 a6 a7 a8 a9 a10} (g10 : Steady s0 a10) : Steady s0 (performWrite a1 a2 a3 a4 a5 a6 a7 a8 a9 a10) := by
  unfold performWrite
  extract_lets +onlyGivenNames ro1
  clear_value ro1
  extract_lets +onlyGivenNames mask2
  clear_value mask2
  extract_lets +onlyGivenNames d3
  clear_value d3
  refine keep_cond (P := Steady s0) (fun _ => ?_) (fun _ => ?_)
  · exact g10
  · split
    · refine writeBasic_steady ?_
      exact g10
    · refine (writeExpert_calm (Calm.refl _)).toSteady ?_
      exact g10
    · split
      · refine (writeCounter_calm (Calm.refl _)).toSteady ?_
        exact g10
      · refine writeTable_steady ?_
        exact g10
    · exact g10

theorem holdSel_steady {s0 : State} {a1 a2 a3} (g3 : Steady s0 a3) : Steady s0 (holdSel a1 a2 a3) := by
  unfold holdSel
  refine keep_cond (P := Steady s0) (fun _ => ?_) (fun _ => ?_)
  · exact Steady.upd g3 rfl
  · exact g3

theorem expertOff_steady {s0 : State} {a1 a2} (g2 : Steady s0 a2) : Steady s0 (expertOff a1 a2) := by
  unfold expertOff
  extract_lets +onlyGivenNames t1
  have h2 : Steady s0 t1 := by
    simp only [t1]
    refine holdSel_steady ?_
    refine (regClrBit_calm (Calm.refl _)).toSteady ?_
    refine (regPut_calm (Calm.refl _)).toSteady ?_
    exact g2
  clear_value t1
  refine keep_forEach (P := Steady s0) ?_ ?_
  · intro x3 x4 h5
    refine (regSet_calm (Calm.refl _)).toSteady ?_
    exact h5
  · exact h2

theorem expertOn_steady {s0 : State} {a1 a2} (g2 : Steady s0 a2) : Steady s0 (expertOn a1 a2) := by
  unfold expertOn
  extract_lets +onlyGivenNames t1
  have h2 : Steady s0 t1 := by
    simp only [t1]
    refine holdSel_steady ?_
    refine (regPut_calm (Calm.refl _)).toSteady ?_
    exact g2
  clear_value t1
  refine keep_forEach (P := Steady s0) ?_ ?_
  · intro x3 x4 h5
    refine (regSet_calm (Calm.refl _)).toSteady ?_
    exact h5
  · exact h2

theorem setExpert_steady {s0 : State} {a1 a2 a3} (g3 : Steady s0 a3) : Steady s0 (setExpert a1 a2 a3) := by
  unfold setExpert
  refine keep_cond (P := Steady s0) (fun _ => ?_) (fun _ => ?_)
  · exact g3
  · refine keep_cond (P := Steady s0) (fun _ => ?_) (fun _ => ?_)
    · refine expertOn_steady ?_
      exact g3
    · refine expertOff_steady ?_
      exact g3

theorem applyOne_steady {s0 : State} {a1 a2} (g2 : Steady s0 a2) : Steady s0 (applyOne a1 a2) := by
  unfold applyOne
  split
  · exact g2
  · refine keep_cond (P := Steady s0) (fun _ => ?_) (fun _ => ?_)
    · exact g2
    · refine keep_cond (P := Steady s0) (fun _ => ?_) (fun _ => ?_)
      · refine fabCmd_steady ?_
        exact g2
      · refine performWrite_steady ?_
        exact g2

theorem settleOne_steady {s0 : State} {a1 a2} (g2 : Steady s0 a2) : Steady s0 (settleOne a1 a2) := by
  unfold settleOne
  split
  · exact g2
  · extract_lets +onlyGivenNames o1
    clear_value o1
    refine keep_cond (P := Steady s0) (fun _ => ?_) (fun _ => ?_)
    · exact g2
    · split
      · refine regSettings_steady ?_
        exact g2
      · refine (writeExpert_calm (Calm.refl _)).toSteady ?_
        exact g2
      · split
        · extract_lets +onlyGivenNames k2
          clear_value k2
          refine tblSet_steady ?_
          exact g2
        · exact g2
      · exact g2

theorem applyExpert_steady {s0 : State} {a1 a2} (g2 : Steady s0 a2) : Steady s0 (applyExpert a1 a2) := by
  unfold applyExpert
  refine keep_forEach (P := Steady s0) ?_ ?_
  · intro x1 x2 h3
    split
    · refine setExpert_steady ?_
      exact h3
    · exact h3
  · exact g2

theorem settled_steady {s0 : State} {a1} (g1 : Steady s0 a1) : Steady s0 (settled a1) := by
  unfold settled
  refine keep_forEach (P := Steady s0) ?_ ?_
  · intro x1 x2 h3
    refine settleOne_steady ?_
    exact h3
  · refine applyExpert_steady ?_
    exact g1

theorem claspApplyAll_steady {s0 : State} {a1} (g1 : Steady s0 a1) : Steady s0 (claspApplyAll a1) := by
  unfold claspApplyAll
  extract_lets +onlyGivenNames l1
  clear_value l1
  extract_lets +onlyGivenNames s2
  have h3 : Steady s0 s2 := by
    simp only [s2]
    refine (updClasp_quiet (Quiet.refl _)).toSteady ?_
    exact g1
  clear_value s2
  extract_lets +onlyGivenNames s4
  have h5 : Steady s0 s4 := by
    simp only [s4]
    refine keep_forEach (P := Steady s0) ?_ ?_
    · intro x6 x7 h8
      refine applyOne_steady ?_
      exact h8
    · refine applyExpert_steady ?_
      exact h3
  clear_value s4
  extract_lets +onlyGivenNames s9
  have h10 : Steady s0 s9 := by
    simp only [s9]
    refine keep_cond (P := Steady s0) (fun _ => ?_) (fun _ => ?_)
    · refine fillBoth_steady ?_
      exact h5
    · exact h5
  clear_value s9
  extract_lets +onlyGivenNames s11
  have h12 : Steady s0 s11 := by
    simp only [s11]
    refine bumpAll_steady ?_
    exact h10
  clear_value s11
  refine keep_cond (P := Steady s0) (fun _ => ?_) (fun _ => ?_)
  · refine softResetDo_steady ?_
    exact h12
  · exact h12

theorem claspLaunch_steady {s0 : State} {a1} (g1 : Steady s0 a1) : Steady s0 (claspLaunch a1) := by
  unfold claspLaunch
  refine keep_cond (P := Steady s0) (fun _ => ?_) (fun _ => ?_)
  · exact g1
  · refine keep_cond (P := Steady s0) (fun _ => ?_) (fun _ => ?_)
    · refine (claspDiscard_quiet (Quiet.refl _)).toSteady ?_
      exact g1
    · refine keep_cond (P := Steady s0) (fun _ => ?_) (fun _ => ?_)
      · refine (claspDiscard_quiet (Quiet.refl _)).toSteady ?_
        exact g1
      · refine keep_cond (P := Steady s0) (fun _ => ?_) (fun _ => ?_)
        · refine (claspDiscard_quiet (Quiet.refl _)).toSteady ?_
          exact g1
        · refine claspApplyAll_steady ?_
          exact g1

theorem launch_steady {s0 : State} {a1 a2 a3} (g2 : ∀ y1 y2, Steady s0 y2 → Steady s0 (a2 y1 y2)) (g3 : Steady s0 a3) : Steady s0 (launch a1 a2 a3) := by
  unfold launch
  split
  · exact g3
  · refine keep_cond (P := Steady s0) (fun _ => ?_) (fun _ => ?_)
    · exact g3
    · extract_lets +onlyGivenNames s1
      have h2 : Steady s0 s1 := by
        simp only [s1]
        refine (advanceToLaunch_calm (Calm.refl _)).toSteady ?_
        exact g3
      clear_value s1
      refine keep_cond (P := Steady s0) (fun _ => ?_) (fun _ => ?_)
      · refine (hmDiscardOne_quiet (Quiet.refl _)).toSteady ?_
        exact h2
      · refine g2 _ _ ?_
        refine (hmRemove_quiet (Quiet.refl _)).toSteady ?_
        exact h2

theorem eccFound_steady {s0 : State} {a1 a2 a3 a4 a5 a6} (g6 : Steady s0 a6) : Steady s0 (eccFound a1 a2 a3 a4 a5 a6) := by
  unfold eccFound
  extract_lets +onlyGivenNames ro1
  clear_value ro1
  extract_lets +onlyGivenNames tbl2
  clear_value tbl2
  extract_lets +onlyGivenNames stored3
  clear_value stored3
  refine keep_cond (P := Steady s0) (fun _ => ?_) (fun _ => ?_)
  · exact g6
  · extract_lets +onlyGivenNames s4
    have h5 : Steady s0 s4 := by
      simp only [s4]
      refine (fltGlobal_quiet (Quiet.refl _)).toSteady ?_
      exact g6
    clear_value s4
    refine keep_cond (P := Steady s0) (fun _ => ?_) (fun _ => ?_)
    · exact h5
    · refine keep_cond (P := Steady s0) (fun _ => ?_) (fun _ => ?_)
      · refine tblSet_steady ?_
        exact h5
      · refine keep_cond (P := Steady s0) (fun _ => ?_) (fun _ => ?_)
        · exact Steady.upd h5 rfl
        · refine (regSet_calm (Calm.refl _)).toSteady ?_
          exact h5

theorem eccAt_steady {s0 : State} {a1 a2 a3 a4 a5 a6} (g6 : Steady s0 a6) : Steady s0 (eccAt a1 a2 a3 a4 a5 a6) := by
  unfold eccAt
  refine keep_cond (P := Steady s0) (fun _ => ?_) (fun _ => ?_)
  · exact g6
  · split
    · exact g6
    · extract_lets +onlyGivenNames o1
      clear_value o1
      extract_lets +onlyGivenNames reached2
      clear_value reached2
      refine keep_cond (P := Steady s0) (fun _ => ?_) (fun _ => ?_)
      · refine eccFound_steady ?_
        exact g6
      · exact g6

theorem foldLoad_steady {s0 : State} {a1 a2 a3 a4 a5} (g5 : Steady s0 a5) : Steady s0 (foldLoad a1 a2 a3 a4 a5) := by
  unfold foldLoad
  refine keep_cond (P := Steady s0) (fun _ => ?_) (fun _ => ?_)
  · exact Steady.upd g5 rfl
  · exact g5

theorem writeCtrl_steady {s0 : State} {a1 a2 a3 a4 a5} (g5 : Steady s0 a5) : Steady s0 (writeCtrl a1 a2 a3 a4 a5) := by
  unfold writeCtrl
  refine keep_cond (P := Steady s0) (fun _ => ?_) (fun _ => ?_)
  · refine (violate_calm (Calm.refl _)).toSteady ?_
    exact g5
  · extract_lets +onlyGivenNames s1
    have h2 : Steady s0 s1 := by
      simp only [s1]
      refine setView_steady ?_
      exact g5
    clear_value s1
    refine keep_cond (P := Steady s0) (fun _ => ?_) (fun _ => ?_)
    · exact h2
    · refine keep_cond (P := Steady s0) (fun _ => ?_) (fun _ => ?_)
      · refine setExpert_steady ?_
        exact h2
      · refine (violate_calm (Calm.refl _)).toSteady ?_
        exact h2

theorem joinHalves_steady {s0 : State} {a1 a2 a3 a4 a5} (g5 : Steady s0 a5) : Steady s0 (joinHalves a1 a2 a3 a4 a5).2 := by
  unfold joinHalves
  extract_lets +onlyGivenNames k1
  clear_value k1
  refine keep_cond2 (P := Steady s0) (fun _ => ?_) (fun _ => ?_)
  · refine keep_mk2 (P := Steady s0) ?_
    exact Steady.upd g5 rfl
  · refine keep_cond2 (P := Steady s0) (fun _ => ?_) (fun _ => ?_)
    · refine keep_mk2 (P := Steady s0) ?_
      exact g5
    · split
      refine keep_mk2 (P := Steady s0) ?_
      exact Steady.upd g5 rfl

theorem writePerform_steady {s0 : State} {a1 a2 a3 a4 a5 a6} (g6 : Steady s0 a6) : Steady s0 (writePerform a1 a2 a3 a4 a5 a6) := by
  unfold writePerform
  extract_lets +onlyGivenNames ro1
  clear_value ro1
  extract_lets +onlyGivenNames mask2
  clear_value mask2
  extract_lets +onlyGivenNames d3
  clear_value d3
  extract_lets +onlyGivenNames clOk4
  clear_value clOk4
  extract_lets +onlyGivenNames cs5
  clear_value cs5
  refine keep_cond (P := Steady s0) (fun _ => ?_) (fun _ => ?_)
  · generalize hp7 : @joinHalves _ _ _ _ _ = p6
    have h8 : Steady s0 p6.2 := by
      rw [← hp7]
      refine joinHalves_steady ?_
      exact g6
    clear hp7
    revert p6
    rintro ⟨_ | v9, s10⟩ h11
    · replace h11 : Steady s0 s10 := h11
      dsimp -zeta only
      exact h11
    · replace h11 : Steady s0 s10 := h11
      dsimp -zeta only
      refine keep_cond (P := Steady s0) (fun _ => ?_) (fun _ => ?_)
      · refine (writeClasp_quiet (Quiet.refl _)).toSteady ?_
        exact h11
      · refine performWrite_steady ?_
        exact h11
  · refine keep_cond (P := Steady s0) (fun _ => ?_) (fun _ => ?_)
    · refine (writeClasp_quiet (Quiet.refl _)).toSteady ?_
      exact g6
    · refine performWrite_steady ?_
      exact g6

theorem writePart_steady {s0 : State} {a1 a2 a3 a4 a5 a6} (g6 : Steady s0 a6) : Steady s0 (writePart a1 a2 a3 a4 a5 a6) := by
  unfold writePart
  extract_lets +onlyGivenNames o1
  clear_value o1
  extract_lets +onlyGivenNames r2
  clear_value r2
  refine keep_cond (P := Steady s0) (fun _ => ?_) (fun _ => ?_)
  · exact g6
  · refine keep_cond (P := Steady s0) (fun _ => ?_) (fun _ => ?_)
    · exact g6
    · refine keep_cond (P := Steady s0) (fun _ => ?_) (fun _ => ?_)
      · refine writeCtrl_steady ?_
        exact g6
      · refine keep_cond (P := Steady s0) (fun _ => ?_) (fun _ => ?_)
        · refine (violate_calm (Calm.refl _)).toSteady ?_
          exact g6
        · split
          · refine (writeStatus_quiet (Quiet.refl _)).toSteady ?_
            exact g6
          · refine (writeStatus_quiet (Quiet.refl _)).toSteady ?_
            exact g6
          · refine (writeStatus_quiet (Quiet.refl _)).toSteady ?_
            exact g6
          · refine keep_cond (P := Steady s0) (fun _ => ?_) (fun _ => ?_)
            · exact g6
            · refine (violate_calm (Calm.refl _)).toSteady ?_
              exact g6
          · refine keep_cond (P := Steady s0) (fun _ => ?_) (fun _ => ?_)
            · refine writePerform_steady ?_
              exact g6
            · refine (violate_calm (Calm.refl _)).toSteady ?_
              exact g6

theorem writeAccess_steady {s0 : State} {a1 a2 a3 a4 a5} (g5 : Steady s0 a5) : Steady s0 (writeAccess a1 a2 a3 a4 a5) := by
  unfold writeAccess
  extract_lets +onlyGivenNames s1
  have h2 : Steady s0 s1 := by
    simp only [s1]
    refine foldLoad_steady ?_
    exact g5
  clear_value s1
  refine keep_cond (P := Steady s0) (fun _ => ?_) (fun _ => ?_)
  · refine (violate_calm (Calm.refl _)).toSteady ?_
    exact h2
  · split
    · exact h2
    · refine keep_foldl (P := Steady s0) ?_ ?_
      · intro x3 x4 h5
        refine writePart_steady ?_
        exact h5
      · exact h2

theorem performAccess_steady {s0 : State} {a1 a2} (g2 : Steady s0 a2) : Steady s0 (performAccess a1 a2) := by
  unfold performAccess
  extract_lets +onlyGivenNames s1
  have h2 : Steady s0 s1 := by
    simp only [s1]
    refine eccAt_steady ?_
    exact g2
  clear_value s1
  refine keep_cond (P := Steady s0) (fun _ => ?_) (fun _ => ?_)
  · refine (emit_calm (Calm.refl _)).toSteady ?_
    refine writeAccess_steady ?_
    exact h2
  · generalize hp4 : @readAccess _ _ _ _ = p3
    have h5 : Steady s0 p3.2 := by
      rw [← hp4]
      refine (readAccess_calm (Calm.refl _)).toSteady ?_
      exact h2
    clear hp4
    revert p3
    rintro ⟨v6, s7⟩ h8
    replace h8 : Steady s0 s7 := h8
    dsimp -zeta only
    refine (emit_calm (Calm.refl _)).toSteady ?_
    exact h8

theorem grantHeld_steady {s0 : State} {a1} (g1 : Steady s0 a1) : Steady s0 (grantHeld a1) := by
  unfold grantHeld
  extract_lets +onlyGivenNames l1
  clear_value l1
  refine keep_forEach (P := Steady s0) ?_ ?_
  · intro x2 x3 h4
    refine performAccess_steady ?_
    exact h4
  · exact Steady.upd g1 rfl

theorem claspApplyDo_steady {s0 : State} {a1} (g1 : Steady s0 a1) : Steady s0 (claspApplyDo a1) := by
  unfold claspApplyDo
  extract_lets +onlyGivenNames s1
  have h2 : Steady s0 s1 := by
    simp only [s1]
    refine launch_steady ?_ ?_
    · intro x3 x4 h5
      refine claspLaunch_steady ?_
      exact h5
    · exact g1
  clear_value s1
  refine keep_cond (P := Steady s0) (fun _ => ?_) (fun _ => ?_)
  · exact h2
  · refine grantHeld_steady ?_
    exact h2

theorem matrixAccess_steady {s0 : State} {a1 a2} (g2 : Steady s0 a2) : Steady s0 (matrixAccess a1 a2) := by
  unfold matrixAccess
  refine keep_cond (P := Steady s0) (fun _ => ?_) (fun _ => ?_)
  · exact g2
  · refine keep_cond (P := Steady s0) (fun _ => ?_) (fun _ => ?_)
    · refine (emit_calm (Calm.refl _)).toSteady ?_
      refine (timeoutCount_calm (Calm.refl _)).toSteady ?_
      exact g2
    · refine keep_cond (P := Steady s0) (fun _ => ?_) (fun _ => ?_)
      · exact Steady.upd g2 rfl
      · refine performAccess_steady ?_
        refine keep_cond (P := Steady s0) (fun _ => ?_) (fun _ => ?_)
        · exact g2
        · refine grantHeld_steady ?_
          exact g2

theorem matrixRead_steady {s0 : State} {a1 a2 a3 a4 a5} (g5 : Steady s0 a5) : Steady s0 (matrixRead a1 a2 a3 a4 a5) := by
  unfold matrixRead
  refine matrixAccess_steady ?_
  exact g5

theorem accessTimeoutDo_steady {s0 : State} {a1 a2 a3 a4 a5 a6} (g6 : Steady s0 a6) : Steady s0 (accessTimeoutDo a1 a2 a3 a4 a5 a6) := by
  unfold accessTimeoutDo
  refine keep_cond (P := Steady s0) (fun _ => ?_) (fun _ => ?_)
  · exact g6
  · generalize hp2 : @takeFreeBit _ = p1
    have h3 : Steady s0 p1.2 := by
      rw [← hp2]
      refine (takeFreeBit_calm (Calm.refl _)).toSteady ?_
      exact g6
    clear hp2
    revert p1
    rintro ⟨v4, s5⟩ h6
    replace h6 : Steady s0 s5 := h6
    dsimp -zeta only
    extract_lets +onlyGivenNames s7
    have h8 : Steady s0 s7 := by
      simp only [s7]
      refine (timeoutCount_calm (Calm.refl _)).toSteady ?_
      exact h6
    clear_value s7
    extract_lets +onlyGivenNames s9
    have h10 : Steady s0 s9 := by
      simp only [s9]
      refine keep_cond (P := Steady s0) (fun _ => ?_) (fun _ => ?_)
      · exact h8
      · refine keep_cond (P := Steady s0) (fun _ => ?_) (fun _ => ?_)
        · refine writeAccess_steady ?_
          exact h8
        · refine (readAccess_calm (Calm.refl _)).toSteady ?_
          exact h8
    clear_value s9
    refine keep_cond (P := Steady s0) (fun _ => ?_) (fun _ => ?_)
    · refine (emit_calm (Calm.refl _)).toSteady ?_
      exact h10
    · refine (emit_calm (Calm.refl _)).toSteady ?_
      exact h10

theorem matrixWrite_steady {s0 : State} {a1 a2 a3 a4 a5 a6} (g6 : Steady s0 a6) : Steady s0 (matrixWrite a1 a2 a3 a4 a5 a6) := by
  unfold matrixWrite
  refine matrixAccess_steady ?_
  exact g6

theorem rxDo_steady {s0 : State} {a1 a2 a3 a4} (g2 : ∀ y1 y2, Steady s0 y2 → Steady s0 (a2 y1 y2)) (g4 : Steady s0 a4) : Steady s0 (rxDo a1 a2 a3 a4) := by
  unfold rxDo
  split
  · refine g2 _ _ ?_
    exact g4
  · refine (stripIn_quiet (Quiet.refl _)).toSteady ?_
    exact g4

theorem injectThen_steady {s0 : State} {a1 a2 a3} (g2 : ∀ y1, Steady s0 y1 → Steady s0 (a2 y1)) (g3 : Steady s0 a3) : Steady s0 (injectThen a1 a2 a3) := by
  unfold injectThen
  extract_lets +onlyGivenNames s1
  have h2 : Steady s0 s1 := by
    simp only [s1]
    refine g2 _ ?_
    exact g3
  clear_value s1
  refine keep_cond (P := Steady s0) (fun _ => ?_) (fun _ => ?_)
  · refine keep_forEach (P := Steady s0) ?_ ?_
    · intro x3 x4 h5
      refine (seqRun_calm (Calm.refl _)).toSteady ?_
      exact h5
    · exact h2
  · exact h2

theorem launchTile_steady {s0 : State} {a1 a2 a3 a4} (g3 : ∀ y1 y2, Steady s0 y2 → Steady s0 (a3 y1 y2)) (g4 : Steady s0 a4) : Steady s0 (launchTile a1 a2 a3 a4) := by
  unfold launchTile
  refine launch_steady ?_ ?_
  · intro x1 x2 h3
    refine g3 _ _ ?_
    exact h3
  · exact g4

theorem relayResolveWrite_steady {s0 : State} {a1 a2 a3 a4} (g4 : Steady s0 a4) : Steady s0 (relayResolveWrite a1 a2 a3 a4) := by
  unfold relayResolveWrite
  extract_lets +onlyGivenNames code1
  clear_value code1
  extract_lets +onlyGivenNames s2
  have h3 : Steady s0 s2 := by
    simp only [s2]
    refine matrixWrite_steady ?_
    exact g4
  clear_value s2
  refine matrixWrite_steady ?_
  exact h3

theorem viewWrite_steady {s0 : State} {a1 a2 a3 a4 a5} (g5 : Steady s0 a5) : Steady s0 (viewWrite a1 a2 a3 a4 a5) := by
  unfold viewWrite
  refine matrixWrite_steady ?_
  exact g5

theorem expertWrite_steady {s0 : State} {a1 a2 a3 a4} (g4 : Steady s0 a4) : Steady s0 (expertWrite a1 a2 a3 a4) := by
  unfold expertWrite
  refine matrixWrite_steady ?_
  exact g4

theorem rewrite_steady {s0 : State} {a1 a2 a3 a4 a5} (g5 : Steady s0 a5) : Steady s0 (rewrite a1 a2 a3 a4 a5) := by
  unfold rewrite
  refine matrixWrite_steady ?_
  exact g5

theorem launchGlobal_steady {s0 : State} {a1 a2 a3} (g2 : ∀ y1 y2, Steady s0 y2 → Steady s0 (a2 y1 y2)) (g3 : Steady s0 a3) : Steady s0 (launchGlobal a1 a2 a3) := by
  unfold launchGlobal
  refine launch_steady ?_ ?_
  · intro x1 x2 h3
    refine g2 _ _ ?_
    exact h3
  · exact g3

end Sys2Proof.Machine
end

