-- ==== Sys2Proof/Laws/State.lean ====
section
/-! SUPPORT. What each update of the state leaves in each field: one lemma per field, true by rfl, and the port, tile or strand that
an update names, and any other one. -/

namespace Sys2Proof.Machine

/-! ### begin -/

@[simp] theorem begin_pending (s : State) : (begin s).pending = s.pending := rfl
@[simp] theorem begin_out (s : State) : (begin s).out = [] := rfl
@[simp] theorem begin_freeCtr (s : State) : (begin s).freeCtr = s.freeCtr := rfl
@[simp] theorem begin_ident (s : State) : (begin s).ident = s.ident := rfl
@[simp] theorem begin_straps (s : State) : (begin s).straps = s.straps := rfl
@[simp] theorem begin_pins (s : State) : (begin s).pins = s.pins := rfl
@[simp] theorem begin_ms (s : State) : (begin s).ms = s.ms := rfl
@[simp] theorem begin_ks (s : State) : (begin s).ks = s.ks := rfl
@[simp] theorem begin_clk (s : State) : (begin s).clk = s.clk := rfl
@[simp] theorem begin_time (s : State) : (begin s).time = s.time := rfl
@[simp] theorem begin_hm (s : State) : (begin s).hm = s.hm := rfl
@[simp] theorem begin_epoch (s : State) : (begin s).epoch = s.epoch := rfl
@[simp] theorem begin_planner (s : State) : (begin s).planner = s.planner := rfl
@[simp] theorem begin_rtr (s : State) : (begin s).rtr = s.rtr := rfl
@[simp] theorem begin_tiles (s : State) : (begin s).tiles = s.tiles := rfl
@[simp] theorem begin_ports (s : State) : (begin s).ports = s.ports := rfl
@[simp] theorem begin_strands (s : State) : (begin s).strands = s.strands := rfl
@[simp] theorem begin_seqr (s : State) : (begin s).seqr = s.seqr := rfl
@[simp] theorem begin_pool (s : State) : (begin s).pool = s.pool := rfl
@[simp] theorem begin_lock (s : State) : (begin s).lock = s.lock := rfl
@[simp] theorem begin_flt (s : State) : (begin s).flt = s.flt := rfl
@[simp] theorem begin_cnt (s : State) : (begin s).cnt = s.cnt := rfl
@[simp] theorem begin_samps (s : State) : (begin s).samps = s.samps := rfl
@[simp] theorem begin_clasp (s : State) : (begin s).clasp = s.clasp := rfl
@[simp] theorem begin_power (s : State) : (begin s).power = s.power := rfl
@[simp] theorem begin_regs (s : State) : (begin s).regs = s.regs := rfl
@[simp] theorem begin_tbls (s : State) : (begin s).tbls = s.tbls := rfl
@[simp] theorem begin_changes (s : State) : (begin s).changes = s.changes := rfl
@[simp] theorem begin_views (s : State) : (begin s).views = s.views := rfl
@[simp] theorem begin_halves (s : State) : (begin s).halves = s.halves := rfl
@[simp] theorem begin_selHeld (s : State) : (begin s).selHeld = s.selHeld := rfl
@[simp] theorem begin_withheld (s : State) : (begin s).withheld = s.withheld := rfl

/-! ### emit -/

@[simp] theorem emit_pending (o : Out) (s : State) : (emit o s).pending = s.pending := rfl
@[simp] theorem emit_out (o : Out) (s : State) : (emit o s).out = s.out ++ [o] := rfl
@[simp] theorem emit_freeCtr (o : Out) (s : State) : (emit o s).freeCtr = s.freeCtr := rfl
@[simp] theorem emit_ident (o : Out) (s : State) : (emit o s).ident = s.ident := rfl
@[simp] theorem emit_straps (o : Out) (s : State) : (emit o s).straps = s.straps := rfl
@[simp] theorem emit_pins (o : Out) (s : State) : (emit o s).pins = s.pins := rfl
@[simp] theorem emit_ms (o : Out) (s : State) : (emit o s).ms = s.ms := rfl
@[simp] theorem emit_ks (o : Out) (s : State) : (emit o s).ks = s.ks := rfl
@[simp] theorem emit_clk (o : Out) (s : State) : (emit o s).clk = s.clk := rfl
@[simp] theorem emit_time (o : Out) (s : State) : (emit o s).time = s.time := rfl
@[simp] theorem emit_hm (o : Out) (s : State) : (emit o s).hm = s.hm := rfl
@[simp] theorem emit_epoch (o : Out) (s : State) : (emit o s).epoch = s.epoch := rfl
@[simp] theorem emit_planner (o : Out) (s : State) : (emit o s).planner = s.planner := rfl
@[simp] theorem emit_rtr (o : Out) (s : State) : (emit o s).rtr = s.rtr := rfl
@[simp] theorem emit_tiles (o : Out) (s : State) : (emit o s).tiles = s.tiles := rfl
@[simp] theorem emit_ports (o : Out) (s : State) : (emit o s).ports = s.ports := rfl
@[simp] theorem emit_strands (o : Out) (s : State) : (emit o s).strands = s.strands := rfl
@[simp] theorem emit_seqr (o : Out) (s : State) : (emit o s).seqr = s.seqr := rfl
@[simp] theorem emit_pool (o : Out) (s : State) : (emit o s).pool = s.pool := rfl
@[simp] theorem emit_lock (o : Out) (s : State) : (emit o s).lock = s.lock := rfl
@[simp] theorem emit_flt (o : Out) (s : State) : (emit o s).flt = s.flt := rfl
@[simp] theorem emit_cnt (o : Out) (s : State) : (emit o s).cnt = s.cnt := rfl
@[simp] theorem emit_samps (o : Out) (s : State) : (emit o s).samps = s.samps := rfl
@[simp] theorem emit_clasp (o : Out) (s : State) : (emit o s).clasp = s.clasp := rfl
@[simp] theorem emit_power (o : Out) (s : State) : (emit o s).power = s.power := rfl
@[simp] theorem emit_regs (o : Out) (s : State) : (emit o s).regs = s.regs := rfl
@[simp] theorem emit_tbls (o : Out) (s : State) : (emit o s).tbls = s.tbls := rfl
@[simp] theorem emit_changes (o : Out) (s : State) : (emit o s).changes = s.changes := rfl
@[simp] theorem emit_views (o : Out) (s : State) : (emit o s).views = s.views := rfl
@[simp] theorem emit_halves (o : Out) (s : State) : (emit o s).halves = s.halves := rfl
@[simp] theorem emit_selHeld (o : Out) (s : State) : (emit o s).selHeld = s.selHeld := rfl
@[simp] theorem emit_withheld (o : Out) (s : State) : (emit o s).withheld = s.withheld := rfl

/-! ### useFree -/

@[simp] theorem useFree_pending (s : State) : (useFree s).pending = s.pending := rfl
@[simp] theorem useFree_out (s : State) : (useFree s).out = s.out := rfl
@[simp] theorem useFree_ident (s : State) : (useFree s).ident = s.ident := rfl
@[simp] theorem useFree_straps (s : State) : (useFree s).straps = s.straps := rfl
@[simp] theorem useFree_pins (s : State) : (useFree s).pins = s.pins := rfl
@[simp] theorem useFree_ms (s : State) : (useFree s).ms = s.ms := rfl
@[simp] theorem useFree_ks (s : State) : (useFree s).ks = s.ks := rfl
@[simp] theorem useFree_time (s : State) : (useFree s).time = s.time := rfl
@[simp] theorem useFree_hm (s : State) : (useFree s).hm = s.hm := rfl
@[simp] theorem useFree_epoch (s : State) : (useFree s).epoch = s.epoch := rfl
@[simp] theorem useFree_planner (s : State) : (useFree s).planner = s.planner := rfl
@[simp] theorem useFree_rtr (s : State) : (useFree s).rtr = s.rtr := rfl
@[simp] theorem useFree_tiles (s : State) : (useFree s).tiles = s.tiles := rfl
@[simp] theorem useFree_ports (s : State) : (useFree s).ports = s.ports := rfl
@[simp] theorem useFree_strands (s : State) : (useFree s).strands = s.strands := rfl
@[simp] theorem useFree_seqr (s : State) : (useFree s).seqr = s.seqr := rfl
@[simp] theorem useFree_pool (s : State) : (useFree s).pool = s.pool := rfl
@[simp] theorem useFree_lock (s : State) : (useFree s).lock = s.lock := rfl
@[simp] theorem useFree_flt (s : State) : (useFree s).flt = s.flt := rfl
@[simp] theorem useFree_samps (s : State) : (useFree s).samps = s.samps := rfl
@[simp] theorem useFree_clasp (s : State) : (useFree s).clasp = s.clasp := rfl
@[simp] theorem useFree_power (s : State) : (useFree s).power = s.power := rfl
@[simp] theorem useFree_regs (s : State) : (useFree s).regs = s.regs := rfl
@[simp] theorem useFree_tbls (s : State) : (useFree s).tbls = s.tbls := rfl
@[simp] theorem useFree_changes (s : State) : (useFree s).changes = s.changes := rfl
@[simp] theorem useFree_views (s : State) : (useFree s).views = s.views := rfl
@[simp] theorem useFree_halves (s : State) : (useFree s).halves = s.halves := rfl
@[simp] theorem useFree_selHeld (s : State) : (useFree s).selHeld = s.selHeld := rfl
@[simp] theorem useFree_withheld (s : State) : (useFree s).withheld = s.withheld := rfl
@[simp] theorem useFree_clk (s : State) : (useFree s).clk = s.clk := rfl
@[simp] theorem useFree_cnt (s : State) : (useFree s).cnt = s.cnt := rfl
@[simp] theorem useFree_freeCtr (s : State) : (useFree s).freeCtr = s.freeCtr + 1 := rfl

/-! ### updPort -/

@[simp] theorem updPort_pending (p : Fin 96) (f : PortSt → PortSt) (s : State) : (updPort p f s).pending = s.pending := rfl
@[simp] theorem updPort_out (p : Fin 96) (f : PortSt → PortSt) (s : State) : (updPort p f s).out = s.out := rfl
@[simp] theorem updPort_freeCtr (p : Fin 96) (f : PortSt → PortSt) (s : State) : (updPort p f s).freeCtr = s.freeCtr := rfl
@[simp] theorem updPort_ident (p : Fin 96) (f : PortSt → PortSt) (s : State) : (updPort p f s).ident = s.ident := rfl
@[simp] theorem updPort_straps (p : Fin 96) (f : PortSt → PortSt) (s : State) : (updPort p f s).straps = s.straps := rfl
@[simp] theorem updPort_pins (p : Fin 96) (f : PortSt → PortSt) (s : State) : (updPort p f s).pins = s.pins := rfl
@[simp] theorem updPort_ms (p : Fin 96) (f : PortSt → PortSt) (s : State) : (updPort p f s).ms = s.ms := rfl
@[simp] theorem updPort_ks (p : Fin 96) (f : PortSt → PortSt) (s : State) : (updPort p f s).ks = s.ks := rfl
@[simp] theorem updPort_clk (p : Fin 96) (f : PortSt → PortSt) (s : State) : (updPort p f s).clk = s.clk := rfl
@[simp] theorem updPort_time (p : Fin 96) (f : PortSt → PortSt) (s : State) : (updPort p f s).time = s.time := rfl
@[simp] theorem updPort_hm (p : Fin 96) (f : PortSt → PortSt) (s : State) : (updPort p f s).hm = s.hm := rfl
@[simp] theorem updPort_epoch (p : Fin 96) (f : PortSt → PortSt) (s : State) : (updPort p f s).epoch = s.epoch := rfl
@[simp] theorem updPort_planner (p : Fin 96) (f : PortSt → PortSt) (s : State) : (updPort p f s).planner = s.planner := rfl
@[simp] theorem updPort_rtr (p : Fin 96) (f : PortSt → PortSt) (s : State) : (updPort p f s).rtr = s.rtr := rfl
@[simp] theorem updPort_tiles (p : Fin 96) (f : PortSt → PortSt) (s : State) : (updPort p f s).tiles = s.tiles := rfl
@[simp] theorem updPort_ports (p : Fin 96) (f : PortSt → PortSt) (s : State) : (updPort p f s).ports = s.ports.set p (f s.ports[p]) := rfl
@[simp] theorem updPort_strands (p : Fin 96) (f : PortSt → PortSt) (s : State) : (updPort p f s).strands = s.strands := rfl
@[simp] theorem updPort_seqr (p : Fin 96) (f : PortSt → PortSt) (s : State) : (updPort p f s).seqr = s.seqr := rfl
@[simp] theorem updPort_pool (p : Fin 96) (f : PortSt → PortSt) (s : State) : (updPort p f s).pool = s.pool := rfl
@[simp] theorem updPort_lock (p : Fin 96) (f : PortSt → PortSt) (s : State) : (updPort p f s).lock = s.lock := rfl
@[simp] theorem updPort_flt (p : Fin 96) (f : PortSt → PortSt) (s : State) : (updPort p f s).flt = s.flt := rfl
@[simp] theorem updPort_cnt (p : Fin 96) (f : PortSt → PortSt) (s : State) : (updPort p f s).cnt = s.cnt := rfl
@[simp] theorem updPort_samps (p : Fin 96) (f : PortSt → PortSt) (s : State) : (updPort p f s).samps = s.samps := rfl
@[simp] theorem updPort_clasp (p : Fin 96) (f : PortSt → PortSt) (s : State) : (updPort p f s).clasp = s.clasp := rfl
@[simp] theorem updPort_power (p : Fin 96) (f : PortSt → PortSt) (s : State) : (updPort p f s).power = s.power := rfl
@[simp] theorem updPort_regs (p : Fin 96) (f : PortSt → PortSt) (s : State) : (updPort p f s).regs = s.regs := rfl
@[simp] theorem updPort_tbls (p : Fin 96) (f : PortSt → PortSt) (s : State) : (updPort p f s).tbls = s.tbls := rfl
@[simp] theorem updPort_changes (p : Fin 96) (f : PortSt → PortSt) (s : State) : (updPort p f s).changes = s.changes := rfl
@[simp] theorem updPort_views (p : Fin 96) (f : PortSt → PortSt) (s : State) : (updPort p f s).views = s.views := rfl
@[simp] theorem updPort_halves (p : Fin 96) (f : PortSt → PortSt) (s : State) : (updPort p f s).halves = s.halves := rfl
@[simp] theorem updPort_selHeld (p : Fin 96) (f : PortSt → PortSt) (s : State) : (updPort p f s).selHeld = s.selHeld := rfl
@[simp] theorem updPort_withheld (p : Fin 96) (f : PortSt → PortSt) (s : State) : (updPort p f s).withheld = s.withheld := rfl

/-! ### updTile -/

@[simp] theorem updTile_pending (p : Fin 48) (f : TileSt → TileSt) (s : State) : (updTile p f s).pending = s.pending := rfl
@[simp] theorem updTile_out (p : Fin 48) (f : TileSt → TileSt) (s : State) : (updTile p f s).out = s.out := rfl
@[simp] theorem updTile_freeCtr (p : Fin 48) (f : TileSt → TileSt) (s : State) : (updTile p f s).freeCtr = s.freeCtr := rfl
@[simp] theorem updTile_ident (p : Fin 48) (f : TileSt → TileSt) (s : State) : (updTile p f s).ident = s.ident := rfl
@[simp] theorem updTile_straps (p : Fin 48) (f : TileSt → TileSt) (s : State) : (updTile p f s).straps = s.straps := rfl
@[simp] theorem updTile_pins (p : Fin 48) (f : TileSt → TileSt) (s : State) : (updTile p f s).pins = s.pins := rfl
@[simp] theorem updTile_ms (p : Fin 48) (f : TileSt → TileSt) (s : State) : (updTile p f s).ms = s.ms := rfl
@[simp] theorem updTile_ks (p : Fin 48) (f : TileSt → TileSt) (s : State) : (updTile p f s).ks = s.ks := rfl
@[simp] theorem updTile_clk (p : Fin 48) (f : TileSt → TileSt) (s : State) : (updTile p f s).clk = s.clk := rfl
@[simp] theorem updTile_time (p : Fin 48) (f : TileSt → TileSt) (s : State) : (updTile p f s).time = s.time := rfl
@[simp] theorem updTile_hm (p : Fin 48) (f : TileSt → TileSt) (s : State) : (updTile p f s).hm = s.hm := rfl
@[simp] theorem updTile_epoch (p : Fin 48) (f : TileSt → TileSt) (s : State) : (updTile p f s).epoch = s.epoch := rfl
@[simp] theorem updTile_planner (p : Fin 48) (f : TileSt → TileSt) (s : State) : (updTile p f s).planner = s.planner := rfl
@[simp] theorem updTile_rtr (p : Fin 48) (f : TileSt → TileSt) (s : State) : (updTile p f s).rtr = s.rtr := rfl
@[simp] theorem updTile_tiles (p : Fin 48) (f : TileSt → TileSt) (s : State) : (updTile p f s).tiles = s.tiles.set p (f s.tiles[p]) := rfl
@[simp] theorem updTile_ports (p : Fin 48) (f : TileSt → TileSt) (s : State) : (updTile p f s).ports = s.ports := rfl
@[simp] theorem updTile_strands (p : Fin 48) (f : TileSt → TileSt) (s : State) : (updTile p f s).strands = s.strands := rfl
@[simp] theorem updTile_seqr (p : Fin 48) (f : TileSt → TileSt) (s : State) : (updTile p f s).seqr = s.seqr := rfl
@[simp] theorem updTile_pool (p : Fin 48) (f : TileSt → TileSt) (s : State) : (updTile p f s).pool = s.pool := rfl
@[simp] theorem updTile_lock (p : Fin 48) (f : TileSt → TileSt) (s : State) : (updTile p f s).lock = s.lock := rfl
@[simp] theorem updTile_flt (p : Fin 48) (f : TileSt → TileSt) (s : State) : (updTile p f s).flt = s.flt := rfl
@[simp] theorem updTile_cnt (p : Fin 48) (f : TileSt → TileSt) (s : State) : (updTile p f s).cnt = s.cnt := rfl
@[simp] theorem updTile_samps (p : Fin 48) (f : TileSt → TileSt) (s : State) : (updTile p f s).samps = s.samps := rfl
@[simp] theorem updTile_clasp (p : Fin 48) (f : TileSt → TileSt) (s : State) : (updTile p f s).clasp = s.clasp := rfl
@[simp] theorem updTile_power (p : Fin 48) (f : TileSt → TileSt) (s : State) : (updTile p f s).power = s.power := rfl
@[simp] theorem updTile_regs (p : Fin 48) (f : TileSt → TileSt) (s : State) : (updTile p f s).regs = s.regs := rfl
@[simp] theorem updTile_tbls (p : Fin 48) (f : TileSt → TileSt) (s : State) : (updTile p f s).tbls = s.tbls := rfl
@[simp] theorem updTile_changes (p : Fin 48) (f : TileSt → TileSt) (s : State) : (updTile p f s).changes = s.changes := rfl
@[simp] theorem updTile_views (p : Fin 48) (f : TileSt → TileSt) (s : State) : (updTile p f s).views = s.views := rfl
@[simp] theorem updTile_halves (p : Fin 48) (f : TileSt → TileSt) (s : State) : (updTile p f s).halves = s.halves := rfl
@[simp] theorem updTile_selHeld (p : Fin 48) (f : TileSt → TileSt) (s : State) : (updTile p f s).selHeld = s.selHeld := rfl
@[simp] theorem updTile_withheld (p : Fin 48) (f : TileSt → TileSt) (s : State) : (updTile p f s).withheld = s.withheld := rfl

/-! ### updStrand -/

@[simp] theorem updStrand_pending (p : Fin 10) (f : StrandSt → StrandSt) (s : State) : (updStrand p f s).pending = s.pending := rfl
@[simp] theorem updStrand_out (p : Fin 10) (f : StrandSt → StrandSt) (s : State) : (updStrand p f s).out = s.out := rfl
@[simp] theorem updStrand_freeCtr (p : Fin 10) (f : StrandSt → StrandSt) (s : State) : (updStrand p f s).freeCtr = s.freeCtr := rfl
@[simp] theorem updStrand_ident (p : Fin 10) (f : StrandSt → StrandSt) (s : State) : (updStrand p f s).ident = s.ident := rfl
@[simp] theorem updStrand_straps (p : Fin 10) (f : StrandSt → StrandSt) (s : State) : (updStrand p f s).straps = s.straps := rfl
@[simp] theorem updStrand_pins (p : Fin 10) (f : StrandSt → StrandSt) (s : State) : (updStrand p f s).pins = s.pins := rfl
@[simp] theorem updStrand_ms (p : Fin 10) (f : StrandSt → StrandSt) (s : State) : (updStrand p f s).ms = s.ms := rfl
@[simp] theorem updStrand_ks (p : Fin 10) (f : StrandSt → StrandSt) (s : State) : (updStrand p f s).ks = s.ks := rfl
@[simp] theorem updStrand_clk (p : Fin 10) (f : StrandSt → StrandSt) (s : State) : (updStrand p f s).clk = s.clk := rfl
@[simp] theorem updStrand_time (p : Fin 10) (f : StrandSt → StrandSt) (s : State) : (updStrand p f s).time = s.time := rfl
@[simp] theorem updStrand_hm (p : Fin 10) (f : StrandSt → StrandSt) (s : State) : (updStrand p f s).hm = s.hm := rfl
@[simp] theorem updStrand_epoch (p : Fin 10) (f : StrandSt → StrandSt) (s : State) : (updStrand p f s).epoch = s.epoch := rfl
@[simp] theorem updStrand_planner (p : Fin 10) (f : StrandSt → StrandSt) (s : State) : (updStrand p f s).planner = s.planner := rfl
@[simp] theorem updStrand_rtr (p : Fin 10) (f : StrandSt → StrandSt) (s : State) : (updStrand p f s).rtr = s.rtr := rfl
@[simp] theorem updStrand_tiles (p : Fin 10) (f : StrandSt → StrandSt) (s : State) : (updStrand p f s).tiles = s.tiles := rfl
@[simp] theorem updStrand_ports (p : Fin 10) (f : StrandSt → StrandSt) (s : State) : (updStrand p f s).ports = s.ports := rfl
@[simp] theorem updStrand_strands (p : Fin 10) (f : StrandSt → StrandSt) (s : State) : (updStrand p f s).strands = s.strands.set p (f s.strands[p]) := rfl
@[simp] theorem updStrand_seqr (p : Fin 10) (f : StrandSt → StrandSt) (s : State) : (updStrand p f s).seqr = s.seqr := rfl
@[simp] theorem updStrand_pool (p : Fin 10) (f : StrandSt → StrandSt) (s : State) : (updStrand p f s).pool = s.pool := rfl
@[simp] theorem updStrand_lock (p : Fin 10) (f : StrandSt → StrandSt) (s : State) : (updStrand p f s).lock = s.lock := rfl
@[simp] theorem updStrand_flt (p : Fin 10) (f : StrandSt → StrandSt) (s : State) : (updStrand p f s).flt = s.flt := rfl
@[simp] theorem updStrand_cnt (p : Fin 10) (f : StrandSt → StrandSt) (s : State) : (updStrand p f s).cnt = s.cnt := rfl
@[simp] theorem updStrand_samps (p : Fin 10) (f : StrandSt → StrandSt) (s : State) : (updStrand p f s).samps = s.samps := rfl
@[simp] theorem updStrand_clasp (p : Fin 10) (f : StrandSt → StrandSt) (s : State) : (updStrand p f s).clasp = s.clasp := rfl
@[simp] theorem updStrand_power (p : Fin 10) (f : StrandSt → StrandSt) (s : State) : (updStrand p f s).power = s.power := rfl
@[simp] theorem updStrand_regs (p : Fin 10) (f : StrandSt → StrandSt) (s : State) : (updStrand p f s).regs = s.regs := rfl
@[simp] theorem updStrand_tbls (p : Fin 10) (f : StrandSt → StrandSt) (s : State) : (updStrand p f s).tbls = s.tbls := rfl
@[simp] theorem updStrand_changes (p : Fin 10) (f : StrandSt → StrandSt) (s : State) : (updStrand p f s).changes = s.changes := rfl
@[simp] theorem updStrand_views (p : Fin 10) (f : StrandSt → StrandSt) (s : State) : (updStrand p f s).views = s.views := rfl
@[simp] theorem updStrand_halves (p : Fin 10) (f : StrandSt → StrandSt) (s : State) : (updStrand p f s).halves = s.halves := rfl
@[simp] theorem updStrand_selHeld (p : Fin 10) (f : StrandSt → StrandSt) (s : State) : (updStrand p f s).selHeld = s.selHeld := rfl
@[simp] theorem updStrand_withheld (p : Fin 10) (f : StrandSt → StrandSt) (s : State) : (updStrand p f s).withheld = s.withheld := rfl

/-! ### updPhy -/

@[simp] theorem updPhy_pending (p : Fin 10) (f : PhySt → PhySt) (s : State) : (updPhy p f s).pending = s.pending := rfl
@[simp] theorem updPhy_out (p : Fin 10) (f : PhySt → PhySt) (s : State) : (updPhy p f s).out = s.out := rfl
@[simp] theorem updPhy_freeCtr (p : Fin 10) (f : PhySt → PhySt) (s : State) : (updPhy p f s).freeCtr = s.freeCtr := rfl
@[simp] theorem updPhy_ident (p : Fin 10) (f : PhySt → PhySt) (s : State) : (updPhy p f s).ident = s.ident := rfl
@[simp] theorem updPhy_straps (p : Fin 10) (f : PhySt → PhySt) (s : State) : (updPhy p f s).straps = s.straps := rfl
@[simp] theorem updPhy_pins (p : Fin 10) (f : PhySt → PhySt) (s : State) : (updPhy p f s).pins = s.pins := rfl
@[simp] theorem updPhy_ms (p : Fin 10) (f : PhySt → PhySt) (s : State) : (updPhy p f s).ms = s.ms := rfl
@[simp] theorem updPhy_ks (p : Fin 10) (f : PhySt → PhySt) (s : State) : (updPhy p f s).ks = s.ks := rfl
@[simp] theorem updPhy_clk (p : Fin 10) (f : PhySt → PhySt) (s : State) : (updPhy p f s).clk = s.clk := rfl
@[simp] theorem updPhy_time (p : Fin 10) (f : PhySt → PhySt) (s : State) : (updPhy p f s).time = s.time := rfl
@[simp] theorem updPhy_hm (p : Fin 10) (f : PhySt → PhySt) (s : State) : (updPhy p f s).hm = s.hm := rfl
@[simp] theorem updPhy_epoch (p : Fin 10) (f : PhySt → PhySt) (s : State) : (updPhy p f s).epoch = s.epoch := rfl
@[simp] theorem updPhy_planner (p : Fin 10) (f : PhySt → PhySt) (s : State) : (updPhy p f s).planner = s.planner := rfl
@[simp] theorem updPhy_rtr (p : Fin 10) (f : PhySt → PhySt) (s : State) : (updPhy p f s).rtr = s.rtr := rfl
@[simp] theorem updPhy_tiles (p : Fin 10) (f : PhySt → PhySt) (s : State) : (updPhy p f s).tiles = s.tiles := rfl
@[simp] theorem updPhy_ports (p : Fin 10) (f : PhySt → PhySt) (s : State) : (updPhy p f s).ports = s.ports := rfl
@[simp] theorem updPhy_strands (p : Fin 10) (f : PhySt → PhySt) (s : State) : (updPhy p f s).strands = s.strands.set p { s.strands[p] with phy := f s.strands[p].phy } := rfl
@[simp] theorem updPhy_seqr (p : Fin 10) (f : PhySt → PhySt) (s : State) : (updPhy p f s).seqr = s.seqr := rfl
@[simp] theorem updPhy_pool (p : Fin 10) (f : PhySt → PhySt) (s : State) : (updPhy p f s).pool = s.pool := rfl
@[simp] theorem updPhy_lock (p : Fin 10) (f : PhySt → PhySt) (s : State) : (updPhy p f s).lock = s.lock := rfl
@[simp] theorem updPhy_flt (p : Fin 10) (f : PhySt → PhySt) (s : State) : (updPhy p f s).flt = s.flt := rfl
@[simp] theorem updPhy_cnt (p : Fin 10) (f : PhySt → PhySt) (s : State) : (updPhy p f s).cnt = s.cnt := rfl
@[simp] theorem updPhy_samps (p : Fin 10) (f : PhySt → PhySt) (s : State) : (updPhy p f s).samps = s.samps := rfl
@[simp] theorem updPhy_clasp (p : Fin 10) (f : PhySt → PhySt) (s : State) : (updPhy p f s).clasp = s.clasp := rfl
@[simp] theorem updPhy_power (p : Fin 10) (f : PhySt → PhySt) (s : State) : (updPhy p f s).power = s.power := rfl
@[simp] theorem updPhy_regs (p : Fin 10) (f : PhySt → PhySt) (s : State) : (updPhy p f s).regs = s.regs := rfl
@[simp] theorem updPhy_tbls (p : Fin 10) (f : PhySt → PhySt) (s : State) : (updPhy p f s).tbls = s.tbls := rfl
@[simp] theorem updPhy_changes (p : Fin 10) (f : PhySt → PhySt) (s : State) : (updPhy p f s).changes = s.changes := rfl
@[simp] theorem updPhy_views (p : Fin 10) (f : PhySt → PhySt) (s : State) : (updPhy p f s).views = s.views := rfl
@[simp] theorem updPhy_halves (p : Fin 10) (f : PhySt → PhySt) (s : State) : (updPhy p f s).halves = s.halves := rfl
@[simp] theorem updPhy_selHeld (p : Fin 10) (f : PhySt → PhySt) (s : State) : (updPhy p f s).selHeld = s.selHeld := rfl
@[simp] theorem updPhy_withheld (p : Fin 10) (f : PhySt → PhySt) (s : State) : (updPhy p f s).withheld = s.withheld := rfl

/-! ### updLnk -/

@[simp] theorem updLnk_pending (p : Fin 10) (f : LinkSt → LinkSt) (s : State) : (updLnk p f s).pending = s.pending := rfl
@[simp] theorem updLnk_out (p : Fin 10) (f : LinkSt → LinkSt) (s : State) : (updLnk p f s).out = s.out := rfl
@[simp] theorem updLnk_freeCtr (p : Fin 10) (f : LinkSt → LinkSt) (s : State) : (updLnk p f s).freeCtr = s.freeCtr := rfl
@[simp] theorem updLnk_ident (p : Fin 10) (f : LinkSt → LinkSt) (s : State) : (updLnk p f s).ident = s.ident := rfl
@[simp] theorem updLnk_straps (p : Fin 10) (f : LinkSt → LinkSt) (s : State) : (updLnk p f s).straps = s.straps := rfl
@[simp] theorem updLnk_pins (p : Fin 10) (f : LinkSt → LinkSt) (s : State) : (updLnk p f s).pins = s.pins := rfl
@[simp] theorem updLnk_ms (p : Fin 10) (f : LinkSt → LinkSt) (s : State) : (updLnk p f s).ms = s.ms := rfl
@[simp] theorem updLnk_ks (p : Fin 10) (f : LinkSt → LinkSt) (s : State) : (updLnk p f s).ks = s.ks := rfl
@[simp] theorem updLnk_clk (p : Fin 10) (f : LinkSt → LinkSt) (s : State) : (updLnk p f s).clk = s.clk := rfl
@[simp] theorem updLnk_time (p : Fin 10) (f : LinkSt → LinkSt) (s : State) : (updLnk p f s).time = s.time := rfl
@[simp] theorem updLnk_hm (p : Fin 10) (f : LinkSt → LinkSt) (s : State) : (updLnk p f s).hm = s.hm := rfl
@[simp] theorem updLnk_epoch (p : Fin 10) (f : LinkSt → LinkSt) (s : State) : (updLnk p f s).epoch = s.epoch := rfl
@[simp] theorem updLnk_planner (p : Fin 10) (f : LinkSt → LinkSt) (s : State) : (updLnk p f s).planner = s.planner := rfl
@[simp] theorem updLnk_rtr (p : Fin 10) (f : LinkSt → LinkSt) (s : State) : (updLnk p f s).rtr = s.rtr := rfl
@[simp] theorem updLnk_tiles (p : Fin 10) (f : LinkSt → LinkSt) (s : State) : (updLnk p f s).tiles = s.tiles := rfl
@[simp] theorem updLnk_ports (p : Fin 10) (f : LinkSt → LinkSt) (s : State) : (updLnk p f s).ports = s.ports := rfl
@[simp] theorem updLnk_strands (p : Fin 10) (f : LinkSt → LinkSt) (s : State) : (updLnk p f s).strands = s.strands.set p { s.strands[p] with lnk := f s.strands[p].lnk } := rfl
@[simp] theorem updLnk_seqr (p : Fin 10) (f : LinkSt → LinkSt) (s : State) : (updLnk p f s).seqr = s.seqr := rfl
@[simp] theorem updLnk_pool (p : Fin 10) (f : LinkSt → LinkSt) (s : State) : (updLnk p f s).pool = s.pool := rfl
@[simp] theorem updLnk_lock (p : Fin 10) (f : LinkSt → LinkSt) (s : State) : (updLnk p f s).lock = s.lock := rfl
@[simp] theorem updLnk_flt (p : Fin 10) (f : LinkSt → LinkSt) (s : State) : (updLnk p f s).flt = s.flt := rfl
@[simp] theorem updLnk_cnt (p : Fin 10) (f : LinkSt → LinkSt) (s : State) : (updLnk p f s).cnt = s.cnt := rfl
@[simp] theorem updLnk_samps (p : Fin 10) (f : LinkSt → LinkSt) (s : State) : (updLnk p f s).samps = s.samps := rfl
@[simp] theorem updLnk_clasp (p : Fin 10) (f : LinkSt → LinkSt) (s : State) : (updLnk p f s).clasp = s.clasp := rfl
@[simp] theorem updLnk_power (p : Fin 10) (f : LinkSt → LinkSt) (s : State) : (updLnk p f s).power = s.power := rfl
@[simp] theorem updLnk_regs (p : Fin 10) (f : LinkSt → LinkSt) (s : State) : (updLnk p f s).regs = s.regs := rfl
@[simp] theorem updLnk_tbls (p : Fin 10) (f : LinkSt → LinkSt) (s : State) : (updLnk p f s).tbls = s.tbls := rfl
@[simp] theorem updLnk_changes (p : Fin 10) (f : LinkSt → LinkSt) (s : State) : (updLnk p f s).changes = s.changes := rfl
@[simp] theorem updLnk_views (p : Fin 10) (f : LinkSt → LinkSt) (s : State) : (updLnk p f s).views = s.views := rfl
@[simp] theorem updLnk_halves (p : Fin 10) (f : LinkSt → LinkSt) (s : State) : (updLnk p f s).halves = s.halves := rfl
@[simp] theorem updLnk_selHeld (p : Fin 10) (f : LinkSt → LinkSt) (s : State) : (updLnk p f s).selHeld = s.selHeld := rfl
@[simp] theorem updLnk_withheld (p : Fin 10) (f : LinkSt → LinkSt) (s : State) : (updLnk p f s).withheld = s.withheld := rfl

/-! ### updCoord -/

@[simp] theorem updCoord_pending (p : Fin 64) (f : Coord → Coord) (s : State) : (updCoord p f s).pending = s.pending := rfl
@[simp] theorem updCoord_out (p : Fin 64) (f : Coord → Coord) (s : State) : (updCoord p f s).out = s.out := rfl
@[simp] theorem updCoord_freeCtr (p : Fin 64) (f : Coord → Coord) (s : State) : (updCoord p f s).freeCtr = s.freeCtr := rfl
@[simp] theorem updCoord_ident (p : Fin 64) (f : Coord → Coord) (s : State) : (updCoord p f s).ident = s.ident := rfl
@[simp] theorem updCoord_straps (p : Fin 64) (f : Coord → Coord) (s : State) : (updCoord p f s).straps = s.straps := rfl
@[simp] theorem updCoord_pins (p : Fin 64) (f : Coord → Coord) (s : State) : (updCoord p f s).pins = s.pins := rfl
@[simp] theorem updCoord_ms (p : Fin 64) (f : Coord → Coord) (s : State) : (updCoord p f s).ms = s.ms := rfl
@[simp] theorem updCoord_ks (p : Fin 64) (f : Coord → Coord) (s : State) : (updCoord p f s).ks = s.ks := rfl
@[simp] theorem updCoord_clk (p : Fin 64) (f : Coord → Coord) (s : State) : (updCoord p f s).clk = s.clk := rfl
@[simp] theorem updCoord_time (p : Fin 64) (f : Coord → Coord) (s : State) : (updCoord p f s).time = s.time := rfl
@[simp] theorem updCoord_hm (p : Fin 64) (f : Coord → Coord) (s : State) : (updCoord p f s).hm = s.hm := rfl
@[simp] theorem updCoord_epoch (p : Fin 64) (f : Coord → Coord) (s : State) : (updCoord p f s).epoch = s.epoch := rfl
@[simp] theorem updCoord_planner (p : Fin 64) (f : Coord → Coord) (s : State) : (updCoord p f s).planner = s.planner := rfl
@[simp] theorem updCoord_rtr (p : Fin 64) (f : Coord → Coord) (s : State) : (updCoord p f s).rtr = s.rtr := rfl
@[simp] theorem updCoord_tiles (p : Fin 64) (f : Coord → Coord) (s : State) : (updCoord p f s).tiles = s.tiles := rfl
@[simp] theorem updCoord_ports (p : Fin 64) (f : Coord → Coord) (s : State) : (updCoord p f s).ports = s.ports := rfl
@[simp] theorem updCoord_strands (p : Fin 64) (f : Coord → Coord) (s : State) : (updCoord p f s).strands = s.strands := rfl
@[simp] theorem updCoord_seqr (p : Fin 64) (f : Coord → Coord) (s : State) : (updCoord p f s).seqr = s.seqr := rfl
@[simp] theorem updCoord_pool (p : Fin 64) (f : Coord → Coord) (s : State) : (updCoord p f s).pool = s.pool := rfl
@[simp] theorem updCoord_lock (p : Fin 64) (f : Coord → Coord) (s : State) : (updCoord p f s).lock = { s.lock with coords := s.lock.coords.set p (f s.lock.coords[p]) } := rfl
@[simp] theorem updCoord_flt (p : Fin 64) (f : Coord → Coord) (s : State) : (updCoord p f s).flt = s.flt := rfl
@[simp] theorem updCoord_cnt (p : Fin 64) (f : Coord → Coord) (s : State) : (updCoord p f s).cnt = s.cnt := rfl
@[simp] theorem updCoord_samps (p : Fin 64) (f : Coord → Coord) (s : State) : (updCoord p f s).samps = s.samps := rfl
@[simp] theorem updCoord_clasp (p : Fin 64) (f : Coord → Coord) (s : State) : (updCoord p f s).clasp = s.clasp := rfl
@[simp] theorem updCoord_power (p : Fin 64) (f : Coord → Coord) (s : State) : (updCoord p f s).power = s.power := rfl
@[simp] theorem updCoord_regs (p : Fin 64) (f : Coord → Coord) (s : State) : (updCoord p f s).regs = s.regs := rfl
@[simp] theorem updCoord_tbls (p : Fin 64) (f : Coord → Coord) (s : State) : (updCoord p f s).tbls = s.tbls := rfl
@[simp] theorem updCoord_changes (p : Fin 64) (f : Coord → Coord) (s : State) : (updCoord p f s).changes = s.changes := rfl
@[simp] theorem updCoord_views (p : Fin 64) (f : Coord → Coord) (s : State) : (updCoord p f s).views = s.views := rfl
@[simp] theorem updCoord_halves (p : Fin 64) (f : Coord → Coord) (s : State) : (updCoord p f s).halves = s.halves := rfl
@[simp] theorem updCoord_selHeld (p : Fin 64) (f : Coord → Coord) (s : State) : (updCoord p f s).selHeld = s.selHeld := rfl
@[simp] theorem updCoord_withheld (p : Fin 64) (f : Coord → Coord) (s : State) : (updCoord p f s).withheld = s.withheld := rfl

/-! ### updRelay -/

@[simp] theorem updRelay_pending (p : Fin 64) (f : Relay → Relay) (s : State) : (updRelay p f s).pending = s.pending := rfl
@[simp] theorem updRelay_out (p : Fin 64) (f : Relay → Relay) (s : State) : (updRelay p f s).out = s.out := rfl
@[simp] theorem updRelay_freeCtr (p : Fin 64) (f : Relay → Relay) (s : State) : (updRelay p f s).freeCtr = s.freeCtr := rfl
@[simp] theorem updRelay_ident (p : Fin 64) (f : Relay → Relay) (s : State) : (updRelay p f s).ident = s.ident := rfl
@[simp] theorem updRelay_straps (p : Fin 64) (f : Relay → Relay) (s : State) : (updRelay p f s).straps = s.straps := rfl
@[simp] theorem updRelay_pins (p : Fin 64) (f : Relay → Relay) (s : State) : (updRelay p f s).pins = s.pins := rfl
@[simp] theorem updRelay_ms (p : Fin 64) (f : Relay → Relay) (s : State) : (updRelay p f s).ms = s.ms := rfl
@[simp] theorem updRelay_ks (p : Fin 64) (f : Relay → Relay) (s : State) : (updRelay p f s).ks = s.ks := rfl
@[simp] theorem updRelay_clk (p : Fin 64) (f : Relay → Relay) (s : State) : (updRelay p f s).clk = s.clk := rfl
@[simp] theorem updRelay_time (p : Fin 64) (f : Relay → Relay) (s : State) : (updRelay p f s).time = s.time := rfl
@[simp] theorem updRelay_hm (p : Fin 64) (f : Relay → Relay) (s : State) : (updRelay p f s).hm = s.hm := rfl
@[simp] theorem updRelay_epoch (p : Fin 64) (f : Relay → Relay) (s : State) : (updRelay p f s).epoch = s.epoch := rfl
@[simp] theorem updRelay_planner (p : Fin 64) (f : Relay → Relay) (s : State) : (updRelay p f s).planner = s.planner := rfl
@[simp] theorem updRelay_rtr (p : Fin 64) (f : Relay → Relay) (s : State) : (updRelay p f s).rtr = s.rtr := rfl
@[simp] theorem updRelay_tiles (p : Fin 64) (f : Relay → Relay) (s : State) : (updRelay p f s).tiles = s.tiles := rfl
@[simp] theorem updRelay_ports (p : Fin 64) (f : Relay → Relay) (s : State) : (updRelay p f s).ports = s.ports := rfl
@[simp] theorem updRelay_strands (p : Fin 64) (f : Relay → Relay) (s : State) : (updRelay p f s).strands = s.strands := rfl
@[simp] theorem updRelay_seqr (p : Fin 64) (f : Relay → Relay) (s : State) : (updRelay p f s).seqr = s.seqr := rfl
@[simp] theorem updRelay_pool (p : Fin 64) (f : Relay → Relay) (s : State) : (updRelay p f s).pool = s.pool := rfl
@[simp] theorem updRelay_lock (p : Fin 64) (f : Relay → Relay) (s : State) : (updRelay p f s).lock = { s.lock with relays := s.lock.relays.set p (f s.lock.relays[p]) } := rfl
@[simp] theorem updRelay_flt (p : Fin 64) (f : Relay → Relay) (s : State) : (updRelay p f s).flt = s.flt := rfl
@[simp] theorem updRelay_cnt (p : Fin 64) (f : Relay → Relay) (s : State) : (updRelay p f s).cnt = s.cnt := rfl
@[simp] theorem updRelay_samps (p : Fin 64) (f : Relay → Relay) (s : State) : (updRelay p f s).samps = s.samps := rfl
@[simp] theorem updRelay_clasp (p : Fin 64) (f : Relay → Relay) (s : State) : (updRelay p f s).clasp = s.clasp := rfl
@[simp] theorem updRelay_power (p : Fin 64) (f : Relay → Relay) (s : State) : (updRelay p f s).power = s.power := rfl
@[simp] theorem updRelay_regs (p : Fin 64) (f : Relay → Relay) (s : State) : (updRelay p f s).regs = s.regs := rfl
@[simp] theorem updRelay_tbls (p : Fin 64) (f : Relay → Relay) (s : State) : (updRelay p f s).tbls = s.tbls := rfl
@[simp] theorem updRelay_changes (p : Fin 64) (f : Relay → Relay) (s : State) : (updRelay p f s).changes = s.changes := rfl
@[simp] theorem updRelay_views (p : Fin 64) (f : Relay → Relay) (s : State) : (updRelay p f s).views = s.views := rfl
@[simp] theorem updRelay_halves (p : Fin 64) (f : Relay → Relay) (s : State) : (updRelay p f s).halves = s.halves := rfl
@[simp] theorem updRelay_selHeld (p : Fin 64) (f : Relay → Relay) (s : State) : (updRelay p f s).selHeld = s.selHeld := rfl
@[simp] theorem updRelay_withheld (p : Fin 64) (f : Relay → Relay) (s : State) : (updRelay p f s).withheld = s.withheld := rfl

/-! ### updClasp -/

@[simp] theorem updClasp_pending (f : ClaspSt → ClaspSt) (s : State) : (updClasp f s).pending = s.pending := rfl
@[simp] theorem updClasp_out (f : ClaspSt → ClaspSt) (s : State) : (updClasp f s).out = s.out := rfl
@[simp] theorem updClasp_freeCtr (f : ClaspSt → ClaspSt) (s : State) : (updClasp f s).freeCtr = s.freeCtr := rfl
@[simp] theorem updClasp_ident (f : ClaspSt → ClaspSt) (s : State) : (updClasp f s).ident = s.ident := rfl
@[simp] theorem updClasp_straps (f : ClaspSt → ClaspSt) (s : State) : (updClasp f s).straps = s.straps := rfl
@[simp] theorem updClasp_pins (f : ClaspSt → ClaspSt) (s : State) : (updClasp f s).pins = s.pins := rfl
@[simp] theorem updClasp_ms (f : ClaspSt → ClaspSt) (s : State) : (updClasp f s).ms = s.ms := rfl
@[simp] theorem updClasp_ks (f : ClaspSt → ClaspSt) (s : State) : (updClasp f s).ks = s.ks := rfl
@[simp] theorem updClasp_clk (f : ClaspSt → ClaspSt) (s : State) : (updClasp f s).clk = s.clk := rfl
@[simp] theorem updClasp_time (f : ClaspSt → ClaspSt) (s : State) : (updClasp f s).time = s.time := rfl
@[simp] theorem updClasp_hm (f : ClaspSt → ClaspSt) (s : State) : (updClasp f s).hm = s.hm := rfl
@[simp] theorem updClasp_epoch (f : ClaspSt → ClaspSt) (s : State) : (updClasp f s).epoch = s.epoch := rfl
@[simp] theorem updClasp_planner (f : ClaspSt → ClaspSt) (s : State) : (updClasp f s).planner = s.planner := rfl
@[simp] theorem updClasp_rtr (f : ClaspSt → ClaspSt) (s : State) : (updClasp f s).rtr = s.rtr := rfl
@[simp] theorem updClasp_tiles (f : ClaspSt → ClaspSt) (s : State) : (updClasp f s).tiles = s.tiles := rfl
@[simp] theorem updClasp_ports (f : ClaspSt → ClaspSt) (s : State) : (updClasp f s).ports = s.ports := rfl
@[simp] theorem updClasp_strands (f : ClaspSt → ClaspSt) (s : State) : (updClasp f s).strands = s.strands := rfl
@[simp] theorem updClasp_seqr (f : ClaspSt → ClaspSt) (s : State) : (updClasp f s).seqr = s.seqr := rfl
@[simp] theorem updClasp_pool (f : ClaspSt → ClaspSt) (s : State) : (updClasp f s).pool = s.pool := rfl
@[simp] theorem updClasp_lock (f : ClaspSt → ClaspSt) (s : State) : (updClasp f s).lock = s.lock := rfl
@[simp] theorem updClasp_flt (f : ClaspSt → ClaspSt) (s : State) : (updClasp f s).flt = s.flt := rfl
@[simp] theorem updClasp_cnt (f : ClaspSt → ClaspSt) (s : State) : (updClasp f s).cnt = s.cnt := rfl
@[simp] theorem updClasp_samps (f : ClaspSt → ClaspSt) (s : State) : (updClasp f s).samps = s.samps := rfl
@[simp] theorem updClasp_clasp (f : ClaspSt → ClaspSt) (s : State) : (updClasp f s).clasp = f s.clasp := rfl
@[simp] theorem updClasp_power (f : ClaspSt → ClaspSt) (s : State) : (updClasp f s).power = s.power := rfl
@[simp] theorem updClasp_regs (f : ClaspSt → ClaspSt) (s : State) : (updClasp f s).regs = s.regs := rfl
@[simp] theorem updClasp_tbls (f : ClaspSt → ClaspSt) (s : State) : (updClasp f s).tbls = s.tbls := rfl
@[simp] theorem updClasp_changes (f : ClaspSt → ClaspSt) (s : State) : (updClasp f s).changes = s.changes := rfl
@[simp] theorem updClasp_views (f : ClaspSt → ClaspSt) (s : State) : (updClasp f s).views = s.views := rfl
@[simp] theorem updClasp_halves (f : ClaspSt → ClaspSt) (s : State) : (updClasp f s).halves = s.halves := rfl
@[simp] theorem updClasp_selHeld (f : ClaspSt → ClaspSt) (s : State) : (updClasp f s).selHeld = s.selHeld := rfl
@[simp] theorem updClasp_withheld (f : ClaspSt → ClaspSt) (s : State) : (updClasp f s).withheld = s.withheld := rfl

/-! ### updSamp -/

@[simp] theorem updSamp_pending (p : Fin 4) (f : SampSt → SampSt) (s : State) : (updSamp p f s).pending = s.pending := rfl
@[simp] theorem updSamp_out (p : Fin 4) (f : SampSt → SampSt) (s : State) : (updSamp p f s).out = s.out := rfl
@[simp] theorem updSamp_freeCtr (p : Fin 4) (f : SampSt → SampSt) (s : State) : (updSamp p f s).freeCtr = s.freeCtr := rfl
@[simp] theorem updSamp_ident (p : Fin 4) (f : SampSt → SampSt) (s : State) : (updSamp p f s).ident = s.ident := rfl
@[simp] theorem updSamp_straps (p : Fin 4) (f : SampSt → SampSt) (s : State) : (updSamp p f s).straps = s.straps := rfl
@[simp] theorem updSamp_pins (p : Fin 4) (f : SampSt → SampSt) (s : State) : (updSamp p f s).pins = s.pins := rfl
@[simp] theorem updSamp_ms (p : Fin 4) (f : SampSt → SampSt) (s : State) : (updSamp p f s).ms = s.ms := rfl
@[simp] theorem updSamp_ks (p : Fin 4) (f : SampSt → SampSt) (s : State) : (updSamp p f s).ks = s.ks := rfl
@[simp] theorem updSamp_clk (p : Fin 4) (f : SampSt → SampSt) (s : State) : (updSamp p f s).clk = s.clk := rfl
@[simp] theorem updSamp_time (p : Fin 4) (f : SampSt → SampSt) (s : State) : (updSamp p f s).time = s.time := rfl
@[simp] theorem updSamp_hm (p : Fin 4) (f : SampSt → SampSt) (s : State) : (updSamp p f s).hm = s.hm := rfl
@[simp] theorem updSamp_epoch (p : Fin 4) (f : SampSt → SampSt) (s : State) : (updSamp p f s).epoch = s.epoch := rfl
@[simp] theorem updSamp_planner (p : Fin 4) (f : SampSt → SampSt) (s : State) : (updSamp p f s).planner = s.planner := rfl
@[simp] theorem updSamp_rtr (p : Fin 4) (f : SampSt → SampSt) (s : State) : (updSamp p f s).rtr = s.rtr := rfl
@[simp] theorem updSamp_tiles (p : Fin 4) (f : SampSt → SampSt) (s : State) : (updSamp p f s).tiles = s.tiles := rfl
@[simp] theorem updSamp_ports (p : Fin 4) (f : SampSt → SampSt) (s : State) : (updSamp p f s).ports = s.ports := rfl
@[simp] theorem updSamp_strands (p : Fin 4) (f : SampSt → SampSt) (s : State) : (updSamp p f s).strands = s.strands := rfl
@[simp] theorem updSamp_seqr (p : Fin 4) (f : SampSt → SampSt) (s : State) : (updSamp p f s).seqr = s.seqr := rfl
@[simp] theorem updSamp_pool (p : Fin 4) (f : SampSt → SampSt) (s : State) : (updSamp p f s).pool = s.pool := rfl
@[simp] theorem updSamp_lock (p : Fin 4) (f : SampSt → SampSt) (s : State) : (updSamp p f s).lock = s.lock := rfl
@[simp] theorem updSamp_flt (p : Fin 4) (f : SampSt → SampSt) (s : State) : (updSamp p f s).flt = s.flt := rfl
@[simp] theorem updSamp_cnt (p : Fin 4) (f : SampSt → SampSt) (s : State) : (updSamp p f s).cnt = s.cnt := rfl
@[simp] theorem updSamp_samps (p : Fin 4) (f : SampSt → SampSt) (s : State) : (updSamp p f s).samps = s.samps.set p (f s.samps[p]) := rfl
@[simp] theorem updSamp_clasp (p : Fin 4) (f : SampSt → SampSt) (s : State) : (updSamp p f s).clasp = s.clasp := rfl
@[simp] theorem updSamp_power (p : Fin 4) (f : SampSt → SampSt) (s : State) : (updSamp p f s).power = s.power := rfl
@[simp] theorem updSamp_regs (p : Fin 4) (f : SampSt → SampSt) (s : State) : (updSamp p f s).regs = s.regs := rfl
@[simp] theorem updSamp_tbls (p : Fin 4) (f : SampSt → SampSt) (s : State) : (updSamp p f s).tbls = s.tbls := rfl
@[simp] theorem updSamp_changes (p : Fin 4) (f : SampSt → SampSt) (s : State) : (updSamp p f s).changes = s.changes := rfl
@[simp] theorem updSamp_views (p : Fin 4) (f : SampSt → SampSt) (s : State) : (updSamp p f s).views = s.views := rfl
@[simp] theorem updSamp_halves (p : Fin 4) (f : SampSt → SampSt) (s : State) : (updSamp p f s).halves = s.halves := rfl
@[simp] theorem updSamp_selHeld (p : Fin 4) (f : SampSt → SampSt) (s : State) : (updSamp p f s).selHeld = s.selHeld := rfl
@[simp] theorem updSamp_withheld (p : Fin 4) (f : SampSt → SampSt) (s : State) : (updSamp p f s).withheld = s.withheld := rfl

/-! ### updSeq -/

@[simp] theorem updSeq_pending (f : SeqSt → SeqSt) (s : State) : (updSeq f s).pending = s.pending := rfl
@[simp] theorem updSeq_out (f : SeqSt → SeqSt) (s : State) : (updSeq f s).out = s.out := rfl
@[simp] theorem updSeq_freeCtr (f : SeqSt → SeqSt) (s : State) : (updSeq f s).freeCtr = s.freeCtr := rfl
@[simp] theorem updSeq_ident (f : SeqSt → SeqSt) (s : State) : (updSeq f s).ident = s.ident := rfl
@[simp] theorem updSeq_straps (f : SeqSt → SeqSt) (s : State) : (updSeq f s).straps = s.straps := rfl
@[simp] theorem updSeq_pins (f : SeqSt → SeqSt) (s : State) : (updSeq f s).pins = s.pins := rfl
@[simp] theorem updSeq_ms (f : SeqSt → SeqSt) (s : State) : (updSeq f s).ms = s.ms := rfl
@[simp] theorem updSeq_ks (f : SeqSt → SeqSt) (s : State) : (updSeq f s).ks = s.ks := rfl
@[simp] theorem updSeq_clk (f : SeqSt → SeqSt) (s : State) : (updSeq f s).clk = s.clk := rfl
@[simp] theorem updSeq_time (f : SeqSt → SeqSt) (s : State) : (updSeq f s).time = s.time := rfl
@[simp] theorem updSeq_hm (f : SeqSt → SeqSt) (s : State) : (updSeq f s).hm = s.hm := rfl
@[simp] theorem updSeq_epoch (f : SeqSt → SeqSt) (s : State) : (updSeq f s).epoch = s.epoch := rfl
@[simp] theorem updSeq_planner (f : SeqSt → SeqSt) (s : State) : (updSeq f s).planner = s.planner := rfl
@[simp] theorem updSeq_rtr (f : SeqSt → SeqSt) (s : State) : (updSeq f s).rtr = s.rtr := rfl
@[simp] theorem updSeq_tiles (f : SeqSt → SeqSt) (s : State) : (updSeq f s).tiles = s.tiles := rfl
@[simp] theorem updSeq_ports (f : SeqSt → SeqSt) (s : State) : (updSeq f s).ports = s.ports := rfl
@[simp] theorem updSeq_strands (f : SeqSt → SeqSt) (s : State) : (updSeq f s).strands = s.strands := rfl
@[simp] theorem updSeq_seqr (f : SeqSt → SeqSt) (s : State) : (updSeq f s).seqr = f s.seqr := rfl
@[simp] theorem updSeq_pool (f : SeqSt → SeqSt) (s : State) : (updSeq f s).pool = s.pool := rfl
@[simp] theorem updSeq_lock (f : SeqSt → SeqSt) (s : State) : (updSeq f s).lock = s.lock := rfl
@[simp] theorem updSeq_flt (f : SeqSt → SeqSt) (s : State) : (updSeq f s).flt = s.flt := rfl
@[simp] theorem updSeq_cnt (f : SeqSt → SeqSt) (s : State) : (updSeq f s).cnt = s.cnt := rfl
@[simp] theorem updSeq_samps (f : SeqSt → SeqSt) (s : State) : (updSeq f s).samps = s.samps := rfl
@[simp] theorem updSeq_clasp (f : SeqSt → SeqSt) (s : State) : (updSeq f s).clasp = s.clasp := rfl
@[simp] theorem updSeq_power (f : SeqSt → SeqSt) (s : State) : (updSeq f s).power = s.power := rfl
@[simp] theorem updSeq_regs (f : SeqSt → SeqSt) (s : State) : (updSeq f s).regs = s.regs := rfl
@[simp] theorem updSeq_tbls (f : SeqSt → SeqSt) (s : State) : (updSeq f s).tbls = s.tbls := rfl
@[simp] theorem updSeq_changes (f : SeqSt → SeqSt) (s : State) : (updSeq f s).changes = s.changes := rfl
@[simp] theorem updSeq_views (f : SeqSt → SeqSt) (s : State) : (updSeq f s).views = s.views := rfl
@[simp] theorem updSeq_halves (f : SeqSt → SeqSt) (s : State) : (updSeq f s).halves = s.halves := rfl
@[simp] theorem updSeq_selHeld (f : SeqSt → SeqSt) (s : State) : (updSeq f s).selHeld = s.selHeld := rfl
@[simp] theorem updSeq_withheld (f : SeqSt → SeqSt) (s : State) : (updSeq f s).withheld = s.withheld := rfl

/-! ### regSet -/

@[simp] theorem regSet_pending (o : Nat) (w : Word) (s : State) : (regSet o w s).pending = s.pending := rfl
@[simp] theorem regSet_out (o : Nat) (w : Word) (s : State) : (regSet o w s).out = s.out := rfl
@[simp] theorem regSet_freeCtr (o : Nat) (w : Word) (s : State) : (regSet o w s).freeCtr = s.freeCtr := rfl
@[simp] theorem regSet_ident (o : Nat) (w : Word) (s : State) : (regSet o w s).ident = s.ident := rfl
@[simp] theorem regSet_straps (o : Nat) (w : Word) (s : State) : (regSet o w s).straps = s.straps := rfl
@[simp] theorem regSet_pins (o : Nat) (w : Word) (s : State) : (regSet o w s).pins = s.pins := rfl
@[simp] theorem regSet_ms (o : Nat) (w : Word) (s : State) : (regSet o w s).ms = s.ms := rfl
@[simp] theorem regSet_ks (o : Nat) (w : Word) (s : State) : (regSet o w s).ks = s.ks := rfl
@[simp] theorem regSet_clk (o : Nat) (w : Word) (s : State) : (regSet o w s).clk = s.clk := rfl
@[simp] theorem regSet_time (o : Nat) (w : Word) (s : State) : (regSet o w s).time = s.time := rfl
@[simp] theorem regSet_hm (o : Nat) (w : Word) (s : State) : (regSet o w s).hm = s.hm := rfl
@[simp] theorem regSet_epoch (o : Nat) (w : Word) (s : State) : (regSet o w s).epoch = s.epoch := rfl
@[simp] theorem regSet_planner (o : Nat) (w : Word) (s : State) : (regSet o w s).planner = s.planner := rfl
@[simp] theorem regSet_rtr (o : Nat) (w : Word) (s : State) : (regSet o w s).rtr = s.rtr := rfl
@[simp] theorem regSet_tiles (o : Nat) (w : Word) (s : State) : (regSet o w s).tiles = s.tiles := rfl
@[simp] theorem regSet_ports (o : Nat) (w : Word) (s : State) : (regSet o w s).ports = s.ports := rfl
@[simp] theorem regSet_strands (o : Nat) (w : Word) (s : State) : (regSet o w s).strands = s.strands := rfl
@[simp] theorem regSet_seqr (o : Nat) (w : Word) (s : State) : (regSet o w s).seqr = s.seqr := rfl
@[simp] theorem regSet_pool (o : Nat) (w : Word) (s : State) : (regSet o w s).pool = s.pool := rfl
@[simp] theorem regSet_lock (o : Nat) (w : Word) (s : State) : (regSet o w s).lock = s.lock := rfl
@[simp] theorem regSet_flt (o : Nat) (w : Word) (s : State) : (regSet o w s).flt = s.flt := rfl
@[simp] theorem regSet_cnt (o : Nat) (w : Word) (s : State) : (regSet o w s).cnt = s.cnt := rfl
@[simp] theorem regSet_samps (o : Nat) (w : Word) (s : State) : (regSet o w s).samps = s.samps := rfl
@[simp] theorem regSet_clasp (o : Nat) (w : Word) (s : State) : (regSet o w s).clasp = s.clasp := rfl
@[simp] theorem regSet_power (o : Nat) (w : Word) (s : State) : (regSet o w s).power = s.power := rfl
@[simp] theorem regSet_tbls (o : Nat) (w : Word) (s : State) : (regSet o w s).tbls = s.tbls := rfl
@[simp] theorem regSet_changes (o : Nat) (w : Word) (s : State) : (regSet o w s).changes = s.changes := rfl
@[simp] theorem regSet_views (o : Nat) (w : Word) (s : State) : (regSet o w s).views = s.views := rfl
@[simp] theorem regSet_halves (o : Nat) (w : Word) (s : State) : (regSet o w s).halves = s.halves := rfl
@[simp] theorem regSet_selHeld (o : Nat) (w : Word) (s : State) : (regSet o w s).selHeld = s.selHeld := rfl
@[simp] theorem regSet_withheld (o : Nat) (w : Word) (s : State) : (regSet o w s).withheld = s.withheld := rfl

/-! ### tblSet -/

@[simp] theorem tblSet_pending (k : Nat) (w : Word) (s : State) : (tblSet k w s).pending = s.pending := rfl
@[simp] theorem tblSet_out (k : Nat) (w : Word) (s : State) : (tblSet k w s).out = s.out := rfl
@[simp] theorem tblSet_freeCtr (k : Nat) (w : Word) (s : State) : (tblSet k w s).freeCtr = s.freeCtr := rfl
@[simp] theorem tblSet_ident (k : Nat) (w : Word) (s : State) : (tblSet k w s).ident = s.ident := rfl
@[simp] theorem tblSet_straps (k : Nat) (w : Word) (s : State) : (tblSet k w s).straps = s.straps := rfl
@[simp] theorem tblSet_pins (k : Nat) (w : Word) (s : State) : (tblSet k w s).pins = s.pins := rfl
@[simp] theorem tblSet_ms (k : Nat) (w : Word) (s : State) : (tblSet k w s).ms = s.ms := rfl
@[simp] theorem tblSet_ks (k : Nat) (w : Word) (s : State) : (tblSet k w s).ks = s.ks := rfl
@[simp] theorem tblSet_clk (k : Nat) (w : Word) (s : State) : (tblSet k w s).clk = s.clk := rfl
@[simp] theorem tblSet_time (k : Nat) (w : Word) (s : State) : (tblSet k w s).time = s.time := rfl
@[simp] theorem tblSet_hm (k : Nat) (w : Word) (s : State) : (tblSet k w s).hm = s.hm := rfl
@[simp] theorem tblSet_epoch (k : Nat) (w : Word) (s : State) : (tblSet k w s).epoch = s.epoch := rfl
@[simp] theorem tblSet_planner (k : Nat) (w : Word) (s : State) : (tblSet k w s).planner = s.planner := rfl
@[simp] theorem tblSet_rtr (k : Nat) (w : Word) (s : State) : (tblSet k w s).rtr = s.rtr := rfl
@[simp] theorem tblSet_tiles (k : Nat) (w : Word) (s : State) : (tblSet k w s).tiles = s.tiles := rfl
@[simp] theorem tblSet_ports (k : Nat) (w : Word) (s : State) : (tblSet k w s).ports = s.ports := rfl
@[simp] theorem tblSet_strands (k : Nat) (w : Word) (s : State) : (tblSet k w s).strands = s.strands := rfl
@[simp] theorem tblSet_seqr (k : Nat) (w : Word) (s : State) : (tblSet k w s).seqr = s.seqr := rfl
@[simp] theorem tblSet_pool (k : Nat) (w : Word) (s : State) : (tblSet k w s).pool = s.pool := rfl
@[simp] theorem tblSet_lock (k : Nat) (w : Word) (s : State) : (tblSet k w s).lock = s.lock := rfl
@[simp] theorem tblSet_flt (k : Nat) (w : Word) (s : State) : (tblSet k w s).flt = s.flt := rfl
@[simp] theorem tblSet_cnt (k : Nat) (w : Word) (s : State) : (tblSet k w s).cnt = s.cnt := rfl
@[simp] theorem tblSet_samps (k : Nat) (w : Word) (s : State) : (tblSet k w s).samps = s.samps := rfl
@[simp] theorem tblSet_clasp (k : Nat) (w : Word) (s : State) : (tblSet k w s).clasp = s.clasp := rfl
@[simp] theorem tblSet_power (k : Nat) (w : Word) (s : State) : (tblSet k w s).power = s.power := rfl
@[simp] theorem tblSet_regs (k : Nat) (w : Word) (s : State) : (tblSet k w s).regs = s.regs := rfl
@[simp] theorem tblSet_changes (k : Nat) (w : Word) (s : State) : (tblSet k w s).changes = s.changes := rfl
@[simp] theorem tblSet_views (k : Nat) (w : Word) (s : State) : (tblSet k w s).views = s.views := rfl
@[simp] theorem tblSet_halves (k : Nat) (w : Word) (s : State) : (tblSet k w s).halves = s.halves := rfl
@[simp] theorem tblSet_selHeld (k : Nat) (w : Word) (s : State) : (tblSet k w s).selHeld = s.selHeld := rfl
@[simp] theorem tblSet_withheld (k : Nat) (w : Word) (s : State) : (tblSet k w s).withheld = s.withheld := rfl

/-! ### cntSet -/

@[simp] theorem cntSet_pending (c v : Nat) (s : State) : (cntSet c v s).pending = s.pending := rfl
@[simp] theorem cntSet_out (c v : Nat) (s : State) : (cntSet c v s).out = s.out := rfl
@[simp] theorem cntSet_freeCtr (c v : Nat) (s : State) : (cntSet c v s).freeCtr = s.freeCtr := rfl
@[simp] theorem cntSet_ident (c v : Nat) (s : State) : (cntSet c v s).ident = s.ident := rfl
@[simp] theorem cntSet_straps (c v : Nat) (s : State) : (cntSet c v s).straps = s.straps := rfl
@[simp] theorem cntSet_pins (c v : Nat) (s : State) : (cntSet c v s).pins = s.pins := rfl
@[simp] theorem cntSet_ms (c v : Nat) (s : State) : (cntSet c v s).ms = s.ms := rfl
@[simp] theorem cntSet_ks (c v : Nat) (s : State) : (cntSet c v s).ks = s.ks := rfl
@[simp] theorem cntSet_clk (c v : Nat) (s : State) : (cntSet c v s).clk = s.clk := rfl
@[simp] theorem cntSet_time (c v : Nat) (s : State) : (cntSet c v s).time = s.time := rfl
@[simp] theorem cntSet_hm (c v : Nat) (s : State) : (cntSet c v s).hm = s.hm := rfl
@[simp] theorem cntSet_epoch (c v : Nat) (s : State) : (cntSet c v s).epoch = s.epoch := rfl
@[simp] theorem cntSet_planner (c v : Nat) (s : State) : (cntSet c v s).planner = s.planner := rfl
@[simp] theorem cntSet_rtr (c v : Nat) (s : State) : (cntSet c v s).rtr = s.rtr := rfl
@[simp] theorem cntSet_tiles (c v : Nat) (s : State) : (cntSet c v s).tiles = s.tiles := rfl
@[simp] theorem cntSet_ports (c v : Nat) (s : State) : (cntSet c v s).ports = s.ports := rfl
@[simp] theorem cntSet_strands (c v : Nat) (s : State) : (cntSet c v s).strands = s.strands := rfl
@[simp] theorem cntSet_seqr (c v : Nat) (s : State) : (cntSet c v s).seqr = s.seqr := rfl
@[simp] theorem cntSet_pool (c v : Nat) (s : State) : (cntSet c v s).pool = s.pool := rfl
@[simp] theorem cntSet_lock (c v : Nat) (s : State) : (cntSet c v s).lock = s.lock := rfl
@[simp] theorem cntSet_flt (c v : Nat) (s : State) : (cntSet c v s).flt = s.flt := rfl
@[simp] theorem cntSet_cnt (c v : Nat) (s : State) : (cntSet c v s).cnt = { s.cnt with val := spSet 0 s.cnt.val c (v % 2 ^ 48) } := rfl
@[simp] theorem cntSet_samps (c v : Nat) (s : State) : (cntSet c v s).samps = s.samps := rfl
@[simp] theorem cntSet_clasp (c v : Nat) (s : State) : (cntSet c v s).clasp = s.clasp := rfl
@[simp] theorem cntSet_power (c v : Nat) (s : State) : (cntSet c v s).power = s.power := rfl
@[simp] theorem cntSet_regs (c v : Nat) (s : State) : (cntSet c v s).regs = s.regs := rfl
@[simp] theorem cntSet_tbls (c v : Nat) (s : State) : (cntSet c v s).tbls = s.tbls := rfl
@[simp] theorem cntSet_changes (c v : Nat) (s : State) : (cntSet c v s).changes = s.changes := rfl
@[simp] theorem cntSet_views (c v : Nat) (s : State) : (cntSet c v s).views = s.views := rfl
@[simp] theorem cntSet_halves (c v : Nat) (s : State) : (cntSet c v s).halves = s.halves := rfl
@[simp] theorem cntSet_selHeld (c v : Nat) (s : State) : (cntSet c v s).selHeld = s.selHeld := rfl
@[simp] theorem cntSet_withheld (c v : Nat) (s : State) : (cntSet c v s).withheld = s.withheld := rfl

/-! ### putGq -/

@[simp] theorem putGq_pending (i : Fin 32) (e : Option HmEntry) (s : State) : (putGq i e s).pending = s.pending := rfl
@[simp] theorem putGq_out (i : Fin 32) (e : Option HmEntry) (s : State) : (putGq i e s).out = s.out := rfl
@[simp] theorem putGq_freeCtr (i : Fin 32) (e : Option HmEntry) (s : State) : (putGq i e s).freeCtr = s.freeCtr := rfl
@[simp] theorem putGq_ident (i : Fin 32) (e : Option HmEntry) (s : State) : (putGq i e s).ident = s.ident := rfl
@[simp] theorem putGq_straps (i : Fin 32) (e : Option HmEntry) (s : State) : (putGq i e s).straps = s.straps := rfl
@[simp] theorem putGq_pins (i : Fin 32) (e : Option HmEntry) (s : State) : (putGq i e s).pins = s.pins := rfl
@[simp] theorem putGq_ms (i : Fin 32) (e : Option HmEntry) (s : State) : (putGq i e s).ms = s.ms := rfl
@[simp] theorem putGq_ks (i : Fin 32) (e : Option HmEntry) (s : State) : (putGq i e s).ks = s.ks := rfl
@[simp] theorem putGq_clk (i : Fin 32) (e : Option HmEntry) (s : State) : (putGq i e s).clk = s.clk := rfl
@[simp] theorem putGq_time (i : Fin 32) (e : Option HmEntry) (s : State) : (putGq i e s).time = s.time := rfl
@[simp] theorem putGq_hm (i : Fin 32) (e : Option HmEntry) (s : State) : (putGq i e s).hm = { s.hm with gq := s.hm.gq.set i e } := rfl
@[simp] theorem putGq_epoch (i : Fin 32) (e : Option HmEntry) (s : State) : (putGq i e s).epoch = s.epoch := rfl
@[simp] theorem putGq_planner (i : Fin 32) (e : Option HmEntry) (s : State) : (putGq i e s).planner = s.planner := rfl
@[simp] theorem putGq_rtr (i : Fin 32) (e : Option HmEntry) (s : State) : (putGq i e s).rtr = s.rtr := rfl
@[simp] theorem putGq_tiles (i : Fin 32) (e : Option HmEntry) (s : State) : (putGq i e s).tiles = s.tiles := rfl
@[simp] theorem putGq_ports (i : Fin 32) (e : Option HmEntry) (s : State) : (putGq i e s).ports = s.ports := rfl
@[simp] theorem putGq_strands (i : Fin 32) (e : Option HmEntry) (s : State) : (putGq i e s).strands = s.strands := rfl
@[simp] theorem putGq_seqr (i : Fin 32) (e : Option HmEntry) (s : State) : (putGq i e s).seqr = s.seqr := rfl
@[simp] theorem putGq_pool (i : Fin 32) (e : Option HmEntry) (s : State) : (putGq i e s).pool = s.pool := rfl
@[simp] theorem putGq_lock (i : Fin 32) (e : Option HmEntry) (s : State) : (putGq i e s).lock = s.lock := rfl
@[simp] theorem putGq_flt (i : Fin 32) (e : Option HmEntry) (s : State) : (putGq i e s).flt = s.flt := rfl
@[simp] theorem putGq_cnt (i : Fin 32) (e : Option HmEntry) (s : State) : (putGq i e s).cnt = s.cnt := rfl
@[simp] theorem putGq_samps (i : Fin 32) (e : Option HmEntry) (s : State) : (putGq i e s).samps = s.samps := rfl
@[simp] theorem putGq_clasp (i : Fin 32) (e : Option HmEntry) (s : State) : (putGq i e s).clasp = s.clasp := rfl
@[simp] theorem putGq_power (i : Fin 32) (e : Option HmEntry) (s : State) : (putGq i e s).power = s.power := rfl
@[simp] theorem putGq_regs (i : Fin 32) (e : Option HmEntry) (s : State) : (putGq i e s).regs = s.regs := rfl
@[simp] theorem putGq_tbls (i : Fin 32) (e : Option HmEntry) (s : State) : (putGq i e s).tbls = s.tbls := rfl
@[simp] theorem putGq_changes (i : Fin 32) (e : Option HmEntry) (s : State) : (putGq i e s).changes = s.changes := rfl
@[simp] theorem putGq_views (i : Fin 32) (e : Option HmEntry) (s : State) : (putGq i e s).views = s.views := rfl
@[simp] theorem putGq_halves (i : Fin 32) (e : Option HmEntry) (s : State) : (putGq i e s).halves = s.halves := rfl
@[simp] theorem putGq_selHeld (i : Fin 32) (e : Option HmEntry) (s : State) : (putGq i e s).selHeld = s.selHeld := rfl
@[simp] theorem putGq_withheld (i : Fin 32) (e : Option HmEntry) (s : State) : (putGq i e s).withheld = s.withheld := rfl

/-! ### putTq -/

@[simp] theorem putTq_pending (t : Fin 48) (i : Fin 8) (e : Option HmEntry) (s : State) : (putTq t i e s).pending = s.pending := rfl
@[simp] theorem putTq_out (t : Fin 48) (i : Fin 8) (e : Option HmEntry) (s : State) : (putTq t i e s).out = s.out := rfl
@[simp] theorem putTq_freeCtr (t : Fin 48) (i : Fin 8) (e : Option HmEntry) (s : State) : (putTq t i e s).freeCtr = s.freeCtr := rfl
@[simp] theorem putTq_ident (t : Fin 48) (i : Fin 8) (e : Option HmEntry) (s : State) : (putTq t i e s).ident = s.ident := rfl
@[simp] theorem putTq_straps (t : Fin 48) (i : Fin 8) (e : Option HmEntry) (s : State) : (putTq t i e s).straps = s.straps := rfl
@[simp] theorem putTq_pins (t : Fin 48) (i : Fin 8) (e : Option HmEntry) (s : State) : (putTq t i e s).pins = s.pins := rfl
@[simp] theorem putTq_ms (t : Fin 48) (i : Fin 8) (e : Option HmEntry) (s : State) : (putTq t i e s).ms = s.ms := rfl
@[simp] theorem putTq_ks (t : Fin 48) (i : Fin 8) (e : Option HmEntry) (s : State) : (putTq t i e s).ks = s.ks := rfl
@[simp] theorem putTq_clk (t : Fin 48) (i : Fin 8) (e : Option HmEntry) (s : State) : (putTq t i e s).clk = s.clk := rfl
@[simp] theorem putTq_time (t : Fin 48) (i : Fin 8) (e : Option HmEntry) (s : State) : (putTq t i e s).time = s.time := rfl
@[simp] theorem putTq_hm (t : Fin 48) (i : Fin 8) (e : Option HmEntry) (s : State) : (putTq t i e s).hm = { s.hm with tq := s.hm.tq.set t ((s.hm.tq[t]).set i e) } := rfl
@[simp] theorem putTq_epoch (t : Fin 48) (i : Fin 8) (e : Option HmEntry) (s : State) : (putTq t i e s).epoch = s.epoch := rfl
@[simp] theorem putTq_planner (t : Fin 48) (i : Fin 8) (e : Option HmEntry) (s : State) : (putTq t i e s).planner = s.planner := rfl
@[simp] theorem putTq_rtr (t : Fin 48) (i : Fin 8) (e : Option HmEntry) (s : State) : (putTq t i e s).rtr = s.rtr := rfl
@[simp] theorem putTq_tiles (t : Fin 48) (i : Fin 8) (e : Option HmEntry) (s : State) : (putTq t i e s).tiles = s.tiles := rfl
@[simp] theorem putTq_ports (t : Fin 48) (i : Fin 8) (e : Option HmEntry) (s : State) : (putTq t i e s).ports = s.ports := rfl
@[simp] theorem putTq_strands (t : Fin 48) (i : Fin 8) (e : Option HmEntry) (s : State) : (putTq t i e s).strands = s.strands := rfl
@[simp] theorem putTq_seqr (t : Fin 48) (i : Fin 8) (e : Option HmEntry) (s : State) : (putTq t i e s).seqr = s.seqr := rfl
@[simp] theorem putTq_pool (t : Fin 48) (i : Fin 8) (e : Option HmEntry) (s : State) : (putTq t i e s).pool = s.pool := rfl
@[simp] theorem putTq_lock (t : Fin 48) (i : Fin 8) (e : Option HmEntry) (s : State) : (putTq t i e s).lock = s.lock := rfl
@[simp] theorem putTq_flt (t : Fin 48) (i : Fin 8) (e : Option HmEntry) (s : State) : (putTq t i e s).flt = s.flt := rfl
@[simp] theorem putTq_cnt (t : Fin 48) (i : Fin 8) (e : Option HmEntry) (s : State) : (putTq t i e s).cnt = s.cnt := rfl
@[simp] theorem putTq_samps (t : Fin 48) (i : Fin 8) (e : Option HmEntry) (s : State) : (putTq t i e s).samps = s.samps := rfl
@[simp] theorem putTq_clasp (t : Fin 48) (i : Fin 8) (e : Option HmEntry) (s : State) : (putTq t i e s).clasp = s.clasp := rfl
@[simp] theorem putTq_power (t : Fin 48) (i : Fin 8) (e : Option HmEntry) (s : State) : (putTq t i e s).power = s.power := rfl
@[simp] theorem putTq_regs (t : Fin 48) (i : Fin 8) (e : Option HmEntry) (s : State) : (putTq t i e s).regs = s.regs := rfl
@[simp] theorem putTq_tbls (t : Fin 48) (i : Fin 8) (e : Option HmEntry) (s : State) : (putTq t i e s).tbls = s.tbls := rfl
@[simp] theorem putTq_changes (t : Fin 48) (i : Fin 8) (e : Option HmEntry) (s : State) : (putTq t i e s).changes = s.changes := rfl
@[simp] theorem putTq_views (t : Fin 48) (i : Fin 8) (e : Option HmEntry) (s : State) : (putTq t i e s).views = s.views := rfl
@[simp] theorem putTq_halves (t : Fin 48) (i : Fin 8) (e : Option HmEntry) (s : State) : (putTq t i e s).halves = s.halves := rfl
@[simp] theorem putTq_selHeld (t : Fin 48) (i : Fin 8) (e : Option HmEntry) (s : State) : (putTq t i e s).selHeld = s.selHeld := rfl
@[simp] theorem putTq_withheld (t : Fin 48) (i : Fin 8) (e : Option HmEntry) (s : State) : (putTq t i e s).withheld = s.withheld := rfl

/-! ### countN, countDue -/

/-- Counting moves the counters alone. -/
theorem countN_only (c n : Nat) (s : State) : countN c n s = { s with cnt := (countN c n s).cnt } := by
  unfold countN
  split
  · rfl
  · dsimp only; split <;> rfl
/-- So does counting what is due (R444). -/
theorem countDue_only (s : State) : countDue s = { s with cnt := (countDue s).cnt } := by
  suffices h : ∀ (l : List (Nat × Nat)) (x : State), (∃ k, x = { s with cnt := k }) →
      ∃ k, l.foldl (fun s e => count e.2 s) x = { s with cnt := k } by
    obtain ⟨k, hk⟩ := h _ _ ⟨_, rfl⟩
    exact hk.trans (by rw [countDue, hk])
  intro l
  induction l with
  | nil => exact fun x h => h
  | cons e r ih => rintro x ⟨k, rfl⟩; exact ih _ ⟨_, countN_only e.2 1 _⟩

@[simp] theorem countDue_pending (s : State) : (countDue s).pending = s.pending := by rw [countDue_only]
@[simp] theorem countDue_out (s : State) : (countDue s).out = s.out := by rw [countDue_only]
@[simp] theorem countDue_freeCtr (s : State) : (countDue s).freeCtr = s.freeCtr := by rw [countDue_only]
@[simp] theorem countDue_ident (s : State) : (countDue s).ident = s.ident := by rw [countDue_only]
@[simp] theorem countDue_straps (s : State) : (countDue s).straps = s.straps := by rw [countDue_only]
@[simp] theorem countDue_pins (s : State) : (countDue s).pins = s.pins := by rw [countDue_only]
@[simp] theorem countDue_ms (s : State) : (countDue s).ms = s.ms := by rw [countDue_only]
@[simp] theorem countDue_ks (s : State) : (countDue s).ks = s.ks := by rw [countDue_only]
@[simp] theorem countDue_time (s : State) : (countDue s).time = s.time := by rw [countDue_only]
@[simp] theorem countDue_hm (s : State) : (countDue s).hm = s.hm := by rw [countDue_only]
@[simp] theorem countDue_epoch (s : State) : (countDue s).epoch = s.epoch := by rw [countDue_only]
@[simp] theorem countDue_planner (s : State) : (countDue s).planner = s.planner := by rw [countDue_only]
@[simp] theorem countDue_rtr (s : State) : (countDue s).rtr = s.rtr := by rw [countDue_only]
@[simp] theorem countDue_tiles (s : State) : (countDue s).tiles = s.tiles := by rw [countDue_only]
@[simp] theorem countDue_ports (s : State) : (countDue s).ports = s.ports := by rw [countDue_only]
@[simp] theorem countDue_strands (s : State) : (countDue s).strands = s.strands := by rw [countDue_only]
@[simp] theorem countDue_seqr (s : State) : (countDue s).seqr = s.seqr := by rw [countDue_only]
@[simp] theorem countDue_pool (s : State) : (countDue s).pool = s.pool := by rw [countDue_only]
@[simp] theorem countDue_lock (s : State) : (countDue s).lock = s.lock := by rw [countDue_only]
@[simp] theorem countDue_flt (s : State) : (countDue s).flt = s.flt := by rw [countDue_only]
@[simp] theorem countDue_samps (s : State) : (countDue s).samps = s.samps := by rw [countDue_only]
@[simp] theorem countDue_clasp (s : State) : (countDue s).clasp = s.clasp := by rw [countDue_only]
@[simp] theorem countDue_power (s : State) : (countDue s).power = s.power := by rw [countDue_only]
@[simp] theorem countDue_regs (s : State) : (countDue s).regs = s.regs := by rw [countDue_only]
@[simp] theorem countDue_tbls (s : State) : (countDue s).tbls = s.tbls := by rw [countDue_only]
@[simp] theorem countDue_changes (s : State) : (countDue s).changes = s.changes := by rw [countDue_only]
@[simp] theorem countDue_views (s : State) : (countDue s).views = s.views := by rw [countDue_only]
@[simp] theorem countDue_halves (s : State) : (countDue s).halves = s.halves := by rw [countDue_only]
@[simp] theorem countDue_selHeld (s : State) : (countDue s).selHeld = s.selHeld := by rw [countDue_only]
@[simp] theorem countDue_withheld (s : State) : (countDue s).withheld = s.withheld := by rw [countDue_only]
@[simp] theorem countDue_clk (s : State) : (countDue s).clk = s.clk := by rw [countDue_only]

/-! ### advance -/

/-- The passing of time moves the clock, and the counters by what falls due in it (R444). -/
theorem advance_only (n : Nat) (s : State) : advance n s = { s with clk := (advance n s).clk, cnt := (advance n s).cnt } := by
  unfold advance; rw [countDue_only]
theorem advanceTo_only (c : Nat) (s : State) :
    advanceTo c s = { s with clk := (advanceTo c s).clk, cnt := (advanceTo c s).cnt } := advance_only _ s

@[simp] theorem advance_pending (n : Nat) (s : State) : (advance n s).pending = s.pending := by rw [advance_only]
@[simp] theorem advance_out (n : Nat) (s : State) : (advance n s).out = s.out := by rw [advance_only]
@[simp] theorem advance_freeCtr (n : Nat) (s : State) : (advance n s).freeCtr = s.freeCtr := by rw [advance_only]
@[simp] theorem advance_ident (n : Nat) (s : State) : (advance n s).ident = s.ident := by rw [advance_only]
@[simp] theorem advance_straps (n : Nat) (s : State) : (advance n s).straps = s.straps := by rw [advance_only]
@[simp] theorem advance_pins (n : Nat) (s : State) : (advance n s).pins = s.pins := by rw [advance_only]
@[simp] theorem advance_ms (n : Nat) (s : State) : (advance n s).ms = s.ms := by rw [advance_only]
@[simp] theorem advance_ks (n : Nat) (s : State) : (advance n s).ks = s.ks := by rw [advance_only]
@[simp] theorem advance_time (n : Nat) (s : State) : (advance n s).time = s.time := by rw [advance_only]
@[simp] theorem advance_hm (n : Nat) (s : State) : (advance n s).hm = s.hm := by rw [advance_only]
@[simp] theorem advance_epoch (n : Nat) (s : State) : (advance n s).epoch = s.epoch := by rw [advance_only]
@[simp] theorem advance_planner (n : Nat) (s : State) : (advance n s).planner = s.planner := by rw [advance_only]
@[simp] theorem advance_rtr (n : Nat) (s : State) : (advance n s).rtr = s.rtr := by rw [advance_only]
@[simp] theorem advance_tiles (n : Nat) (s : State) : (advance n s).tiles = s.tiles := by rw [advance_only]
@[simp] theorem advance_ports (n : Nat) (s : State) : (advance n s).ports = s.ports := by rw [advance_only]
@[simp] theorem advance_strands (n : Nat) (s : State) : (advance n s).strands = s.strands := by rw [advance_only]
@[simp] theorem advance_seqr (n : Nat) (s : State) : (advance n s).seqr = s.seqr := by rw [advance_only]
@[simp] theorem advance_pool (n : Nat) (s : State) : (advance n s).pool = s.pool := by rw [advance_only]
@[simp] theorem advance_lock (n : Nat) (s : State) : (advance n s).lock = s.lock := by rw [advance_only]
@[simp] theorem advance_flt (n : Nat) (s : State) : (advance n s).flt = s.flt := by rw [advance_only]
@[simp] theorem advance_samps (n : Nat) (s : State) : (advance n s).samps = s.samps := by rw [advance_only]
@[simp] theorem advance_clasp (n : Nat) (s : State) : (advance n s).clasp = s.clasp := by rw [advance_only]
@[simp] theorem advance_power (n : Nat) (s : State) : (advance n s).power = s.power := by rw [advance_only]
@[simp] theorem advance_regs (n : Nat) (s : State) : (advance n s).regs = s.regs := by rw [advance_only]
@[simp] theorem advance_tbls (n : Nat) (s : State) : (advance n s).tbls = s.tbls := by rw [advance_only]
@[simp] theorem advance_changes (n : Nat) (s : State) : (advance n s).changes = s.changes := by rw [advance_only]
@[simp] theorem advance_views (n : Nat) (s : State) : (advance n s).views = s.views := by rw [advance_only]
@[simp] theorem advance_halves (n : Nat) (s : State) : (advance n s).halves = s.halves := by rw [advance_only]
@[simp] theorem advance_selHeld (n : Nat) (s : State) : (advance n s).selHeld = s.selHeld := by rw [advance_only]
@[simp] theorem advance_withheld (n : Nat) (s : State) : (advance n s).withheld = s.withheld := by rw [advance_only]

/-! ### advanceTo -/

@[simp] theorem advanceTo_pending (c : Nat) (s : State) : (advanceTo c s).pending = s.pending := advance_pending _ s
@[simp] theorem advanceTo_out (c : Nat) (s : State) : (advanceTo c s).out = s.out := advance_out _ s
@[simp] theorem advanceTo_freeCtr (c : Nat) (s : State) : (advanceTo c s).freeCtr = s.freeCtr := advance_freeCtr _ s
@[simp] theorem advanceTo_ident (c : Nat) (s : State) : (advanceTo c s).ident = s.ident := advance_ident _ s
@[simp] theorem advanceTo_straps (c : Nat) (s : State) : (advanceTo c s).straps = s.straps := advance_straps _ s
@[simp] theorem advanceTo_pins (c : Nat) (s : State) : (advanceTo c s).pins = s.pins := advance_pins _ s
@[simp] theorem advanceTo_ms (c : Nat) (s : State) : (advanceTo c s).ms = s.ms := advance_ms _ s
@[simp] theorem advanceTo_ks (c : Nat) (s : State) : (advanceTo c s).ks = s.ks := advance_ks _ s
@[simp] theorem advanceTo_time (c : Nat) (s : State) : (advanceTo c s).time = s.time := advance_time _ s
@[simp] theorem advanceTo_hm (c : Nat) (s : State) : (advanceTo c s).hm = s.hm := advance_hm _ s
@[simp] theorem advanceTo_epoch (c : Nat) (s : State) : (advanceTo c s).epoch = s.epoch := advance_epoch _ s
@[simp] theorem advanceTo_planner (c : Nat) (s : State) : (advanceTo c s).planner = s.planner := advance_planner _ s
@[simp] theorem advanceTo_rtr (c : Nat) (s : State) : (advanceTo c s).rtr = s.rtr := advance_rtr _ s
@[simp] theorem advanceTo_tiles (c : Nat) (s : State) : (advanceTo c s).tiles = s.tiles := advance_tiles _ s
@[simp] theorem advanceTo_ports (c : Nat) (s : State) : (advanceTo c s).ports = s.ports := advance_ports _ s
@[simp] theorem advanceTo_strands (c : Nat) (s : State) : (advanceTo c s).strands = s.strands := advance_strands _ s
@[simp] theorem advanceTo_seqr (c : Nat) (s : State) : (advanceTo c s).seqr = s.seqr := advance_seqr _ s
@[simp] theorem advanceTo_pool (c : Nat) (s : State) : (advanceTo c s).pool = s.pool := advance_pool _ s
@[simp] theorem advanceTo_lock (c : Nat) (s : State) : (advanceTo c s).lock = s.lock := advance_lock _ s
@[simp] theorem advanceTo_flt (c : Nat) (s : State) : (advanceTo c s).flt = s.flt := advance_flt _ s
@[simp] theorem advanceTo_samps (c : Nat) (s : State) : (advanceTo c s).samps = s.samps := advance_samps _ s
@[simp] theorem advanceTo_clasp (c : Nat) (s : State) : (advanceTo c s).clasp = s.clasp := advance_clasp _ s
@[simp] theorem advanceTo_power (c : Nat) (s : State) : (advanceTo c s).power = s.power := advance_power _ s
@[simp] theorem advanceTo_regs (c : Nat) (s : State) : (advanceTo c s).regs = s.regs := advance_regs _ s
@[simp] theorem advanceTo_tbls (c : Nat) (s : State) : (advanceTo c s).tbls = s.tbls := advance_tbls _ s
@[simp] theorem advanceTo_changes (c : Nat) (s : State) : (advanceTo c s).changes = s.changes := advance_changes _ s
@[simp] theorem advanceTo_views (c : Nat) (s : State) : (advanceTo c s).views = s.views := advance_views _ s
@[simp] theorem advanceTo_halves (c : Nat) (s : State) : (advanceTo c s).halves = s.halves := advance_halves _ s
@[simp] theorem advanceTo_selHeld (c : Nat) (s : State) : (advanceTo c s).selHeld = s.selHeld := advance_selHeld _ s
@[simp] theorem advanceTo_withheld (c : Nat) (s : State) : (advanceTo c s).withheld = s.withheld := advance_withheld _ s

/-! ### setFrozen -/

@[simp] theorem setFrozen_pending (v : Bool) (s : State) : (setFrozen v s).pending = s.pending := rfl
@[simp] theorem setFrozen_out (v : Bool) (s : State) : (setFrozen v s).out = s.out := rfl
@[simp] theorem setFrozen_freeCtr (v : Bool) (s : State) : (setFrozen v s).freeCtr = s.freeCtr := rfl
@[simp] theorem setFrozen_ident (v : Bool) (s : State) : (setFrozen v s).ident = s.ident := rfl
@[simp] theorem setFrozen_straps (v : Bool) (s : State) : (setFrozen v s).straps = s.straps := rfl
@[simp] theorem setFrozen_pins (v : Bool) (s : State) : (setFrozen v s).pins = s.pins := rfl
@[simp] theorem setFrozen_ms (v : Bool) (s : State) : (setFrozen v s).ms = s.ms := rfl
@[simp] theorem setFrozen_ks (v : Bool) (s : State) : (setFrozen v s).ks = s.ks := rfl
@[simp] theorem setFrozen_clk (v : Bool) (s : State) : (setFrozen v s).clk = s.clk := rfl
@[simp] theorem setFrozen_time (v : Bool) (s : State) : (setFrozen v s).time = s.time := rfl
@[simp] theorem setFrozen_hm (v : Bool) (s : State) : (setFrozen v s).hm = s.hm := rfl
@[simp] theorem setFrozen_epoch (v : Bool) (s : State) : (setFrozen v s).epoch = s.epoch := rfl
@[simp] theorem setFrozen_planner (v : Bool) (s : State) : (setFrozen v s).planner = s.planner := rfl
@[simp] theorem setFrozen_rtr (v : Bool) (s : State) : (setFrozen v s).rtr = s.rtr := rfl
@[simp] theorem setFrozen_tiles (v : Bool) (s : State) : (setFrozen v s).tiles = s.tiles := rfl
@[simp] theorem setFrozen_ports (v : Bool) (s : State) : (setFrozen v s).ports = s.ports := rfl
@[simp] theorem setFrozen_strands (v : Bool) (s : State) : (setFrozen v s).strands = s.strands := rfl
@[simp] theorem setFrozen_seqr (v : Bool) (s : State) : (setFrozen v s).seqr = s.seqr := rfl
@[simp] theorem setFrozen_pool (v : Bool) (s : State) : (setFrozen v s).pool = s.pool := rfl
@[simp] theorem setFrozen_lock (v : Bool) (s : State) : (setFrozen v s).lock = s.lock := rfl
@[simp] theorem setFrozen_flt (v : Bool) (s : State) : (setFrozen v s).flt = s.flt := rfl
@[simp] theorem setFrozen_cnt (v : Bool) (s : State) : (setFrozen v s).cnt = { s.cnt with frozen := v } := rfl
@[simp] theorem setFrozen_samps (v : Bool) (s : State) : (setFrozen v s).samps = s.samps := rfl
@[simp] theorem setFrozen_clasp (v : Bool) (s : State) : (setFrozen v s).clasp = s.clasp := rfl
@[simp] theorem setFrozen_power (v : Bool) (s : State) : (setFrozen v s).power = s.power := rfl
@[simp] theorem setFrozen_regs (v : Bool) (s : State) : (setFrozen v s).regs = s.regs := rfl
@[simp] theorem setFrozen_tbls (v : Bool) (s : State) : (setFrozen v s).tbls = s.tbls := rfl
@[simp] theorem setFrozen_changes (v : Bool) (s : State) : (setFrozen v s).changes = s.changes := rfl
@[simp] theorem setFrozen_views (v : Bool) (s : State) : (setFrozen v s).views = s.views := rfl
@[simp] theorem setFrozen_halves (v : Bool) (s : State) : (setFrozen v s).halves = s.halves := rfl
@[simp] theorem setFrozen_selHeld (v : Bool) (s : State) : (setFrozen v s).selHeld = s.selHeld := rfl
@[simp] theorem setFrozen_withheld (v : Bool) (s : State) : (setFrozen v s).withheld = s.withheld := rfl

/-! ### updDom -/

@[simp] theorem updDom_pending (d : Domain) (f : DomSt → DomSt) (s : State) : (updDom d f s).pending = s.pending := by cases d <;> rfl
@[simp] theorem updDom_out (d : Domain) (f : DomSt → DomSt) (s : State) : (updDom d f s).out = s.out := by cases d <;> rfl
@[simp] theorem updDom_freeCtr (d : Domain) (f : DomSt → DomSt) (s : State) : (updDom d f s).freeCtr = s.freeCtr := by cases d <;> rfl
@[simp] theorem updDom_ident (d : Domain) (f : DomSt → DomSt) (s : State) : (updDom d f s).ident = s.ident := by cases d <;> rfl
@[simp] theorem updDom_straps (d : Domain) (f : DomSt → DomSt) (s : State) : (updDom d f s).straps = s.straps := by cases d <;> rfl
@[simp] theorem updDom_pins (d : Domain) (f : DomSt → DomSt) (s : State) : (updDom d f s).pins = s.pins := by cases d <;> rfl
@[simp] theorem updDom_ms (d : Domain) (f : DomSt → DomSt) (s : State) : (updDom d f s).ms = s.ms := by cases d <;> rfl
@[simp] theorem updDom_ks (d : Domain) (f : DomSt → DomSt) (s : State) : (updDom d f s).ks = s.ks := by cases d <;> rfl
@[simp] theorem updDom_clk (d : Domain) (f : DomSt → DomSt) (s : State) : (updDom d f s).clk = s.clk := by cases d <;> rfl
@[simp] theorem updDom_time (d : Domain) (f : DomSt → DomSt) (s : State) : (updDom d f s).time = s.time := by cases d <;> rfl
@[simp] theorem updDom_hm (d : Domain) (f : DomSt → DomSt) (s : State) : (updDom d f s).hm = s.hm := by cases d <;> rfl
@[simp] theorem updDom_epoch (d : Domain) (f : DomSt → DomSt) (s : State) : (updDom d f s).epoch = s.epoch := by cases d <;> rfl
@[simp] theorem updDom_planner (d : Domain) (f : DomSt → DomSt) (s : State) : (updDom d f s).planner = s.planner := by cases d <;> rfl
@[simp] theorem updDom_rtr (d : Domain) (f : DomSt → DomSt) (s : State) : (updDom d f s).rtr = s.rtr := by cases d <;> rfl
@[simp] theorem updDom_tiles (d : Domain) (f : DomSt → DomSt) (s : State) : (updDom d f s).tiles = s.tiles := by cases d <;> rfl
@[simp] theorem updDom_ports (d : Domain) (f : DomSt → DomSt) (s : State) : (updDom d f s).ports = s.ports := by cases d <;> rfl
@[simp] theorem updDom_strands (d : Domain) (f : DomSt → DomSt) (s : State) : (updDom d f s).strands = s.strands := by cases d <;> rfl
@[simp] theorem updDom_seqr (d : Domain) (f : DomSt → DomSt) (s : State) : (updDom d f s).seqr = s.seqr := by cases d <;> rfl
@[simp] theorem updDom_pool (d : Domain) (f : DomSt → DomSt) (s : State) : (updDom d f s).pool = s.pool := by cases d <;> rfl
@[simp] theorem updDom_lock (d : Domain) (f : DomSt → DomSt) (s : State) : (updDom d f s).lock = s.lock := by cases d <;> rfl
@[simp] theorem updDom_cnt (d : Domain) (f : DomSt → DomSt) (s : State) : (updDom d f s).cnt = s.cnt := by cases d <;> rfl
@[simp] theorem updDom_samps (d : Domain) (f : DomSt → DomSt) (s : State) : (updDom d f s).samps = s.samps := by cases d <;> rfl
@[simp] theorem updDom_clasp (d : Domain) (f : DomSt → DomSt) (s : State) : (updDom d f s).clasp = s.clasp := by cases d <;> rfl
@[simp] theorem updDom_power (d : Domain) (f : DomSt → DomSt) (s : State) : (updDom d f s).power = s.power := by cases d <;> rfl
@[simp] theorem updDom_regs (d : Domain) (f : DomSt → DomSt) (s : State) : (updDom d f s).regs = s.regs := by cases d <;> rfl
@[simp] theorem updDom_tbls (d : Domain) (f : DomSt → DomSt) (s : State) : (updDom d f s).tbls = s.tbls := by cases d <;> rfl
@[simp] theorem updDom_changes (d : Domain) (f : DomSt → DomSt) (s : State) : (updDom d f s).changes = s.changes := by cases d <;> rfl
@[simp] theorem updDom_views (d : Domain) (f : DomSt → DomSt) (s : State) : (updDom d f s).views = s.views := by cases d <;> rfl
@[simp] theorem updDom_halves (d : Domain) (f : DomSt → DomSt) (s : State) : (updDom d f s).halves = s.halves := by cases d <;> rfl
@[simp] theorem updDom_selHeld (d : Domain) (f : DomSt → DomSt) (s : State) : (updDom d f s).selHeld = s.selHeld := by cases d <;> rfl
@[simp] theorem updDom_withheld (d : Domain) (f : DomSt → DomSt) (s : State) : (updDom d f s).withheld = s.withheld := by cases d <;> rfl

/-! ### The element an update names, and any other -/

theorem updPort_self (p : Fin 96) (f : PortSt → PortSt) (s : State) : (updPort p f s).ports[p] = f s.ports[p] := by simp
theorem updPort_ne {p q : Fin 96} (h : q ≠ p) (f : PortSt → PortSt) (s : State) : (updPort p f s).ports[q] = s.ports[q] := by
  have h' : p.val ≠ q.val := fun e => h (Fin.ext e.symm)
  simp [h']
theorem updTile_self (p : Fin 48) (f : TileSt → TileSt) (s : State) : (updTile p f s).tiles[p] = f s.tiles[p] := by simp
theorem updTile_ne {p q : Fin 48} (h : q ≠ p) (f : TileSt → TileSt) (s : State) : (updTile p f s).tiles[q] = s.tiles[q] := by
  have h' : p.val ≠ q.val := fun e => h (Fin.ext e.symm)
  simp [h']
theorem updStrand_self (p : Fin 10) (f : StrandSt → StrandSt) (s : State) : (updStrand p f s).strands[p] = f s.strands[p] := by simp
theorem updStrand_ne {p q : Fin 10} (h : q ≠ p) (f : StrandSt → StrandSt) (s : State) : (updStrand p f s).strands[q] = s.strands[q] := by
  have h' : p.val ≠ q.val := fun e => h (Fin.ext e.symm)
  simp [h']
theorem updSamp_self (p : Fin 4) (f : SampSt → SampSt) (s : State) : (updSamp p f s).samps[p] = f s.samps[p] := by simp
theorem updSamp_ne {p q : Fin 4} (h : q ≠ p) (f : SampSt → SampSt) (s : State) : (updSamp p f s).samps[q] = s.samps[q] := by
  have h' : p.val ≠ q.val := fun e => h (Fin.ext e.symm)
  simp [h']
theorem updPhy_self (p : Fin 10) (f : PhySt → PhySt) (s : State) :
    (updPhy p f s).strands[p] = { s.strands[p] with phy := f s.strands[p].phy } := by simp
theorem updPhy_ne {p q : Fin 10} (h : q ≠ p) (f : PhySt → PhySt) (s : State) : (updPhy p f s).strands[q] = s.strands[q] :=
  updStrand_ne h _ s
theorem updLnk_self (p : Fin 10) (f : LinkSt → LinkSt) (s : State) :
    (updLnk p f s).strands[p] = { s.strands[p] with lnk := f s.strands[p].lnk } := by simp
theorem updLnk_ne {p q : Fin 10} (h : q ≠ p) (f : LinkSt → LinkSt) (s : State) : (updLnk p f s).strands[q] = s.strands[q] :=
  updStrand_ne h _ s
theorem updCoord_self (l : Fin 64) (f : Coord → Coord) (s : State) : (updCoord l f s).lock.coords[l] = f s.lock.coords[l] := by simp
theorem updRelay_self (l : Fin 64) (f : Relay → Relay) (s : State) : (updRelay l f s).lock.relays[l] = f s.lock.relays[l] := by simp

theorem getDom_updDom_self (d : Domain) (f : DomSt → DomSt) (s : State) : getDom (updDom d f s) d = f (getDom s d) := by
  cases d <;> simp [getDom, updDom]

/-! ### Sparse maps -/

theorem spGet_spDel_ne {α : Type} {d : α} {m : Sparse α} {k j : Nat} (h : j ≠ k) : spGet d (spDel m k) j = spGet d m j := by
  induction m with
  | nil => rfl
  | cons e r ih =>
    obtain ⟨i, v⟩ := e
    simp only [spDel]
    split
    · next e => simp [spGet, e, Ne.symm h]
    · simp only [spGet, ih]

@[simp] theorem spGet_spIns_self {α : Type} {d v : α} {m : Sparse α} {k : Nat} : spGet d (spIns m k v) k = v := by
  induction m with
  | nil => simp [spIns, spGet]
  | cons e r ih => obtain ⟨i, w⟩ := e; simp only [spIns]; split <;> (try split) <;> simp_all [spGet]

theorem spGet_spIns_ne {α : Type} {d v : α} {m : Sparse α} {k j : Nat} (h : j ≠ k) : spGet d (spIns m k v) j = spGet d m j := by
  induction m with
  | nil => simp [spIns, spGet, Ne.symm h]
  | cons e r ih =>
    obtain ⟨i, w⟩ := e
    simp only [spIns]
    split
    · simp [spGet, Ne.symm h]
    · split
      · simp_all [spGet, Ne.symm h]
      · simp_all [spGet]

theorem spGet_spSet_ne {α : Type} [DecidableEq α] {d : α} {m : Sparse α} {k j : Nat} {v : α} (h : j ≠ k) :
    spGet d (spSet d m k v) j = spGet d m j := by
  unfold spSet; split
  · exact spGet_spDel_ne h
  · exact spGet_spIns_ne h

theorem spGet_spSet_self {α : Type} [DecidableEq α] {d : α} {m : Sparse α} {k : Nat} {v : α} (h : v ≠ d) :
    spGet d (spSet d m k v) k = v := by
  simp [spSet, h]

/-! ### What a command leaves -/

/-- A performed command answers a next state. -/
theorem performs_eq (f : State → State) (s : State) : performs f s = .next { f (begin s) with pending := s.pending } := rfl
theorem portCmd_used {p : Fin 96} (h : usedPort p.val = true) (f : State → State) (s : State) : portCmd p f s = performs f s := by
  simp [portCmd, h]
theorem portCmd_empty {p : Fin 96} (h : usedPort p.val = false) (f : State → State) (s : State) : portCmd p f s = .fault .emptySlot := by
  simp [portCmd, h]

end Sys2Proof.Machine
end

