-- ==== Sys2Proof/Laws/Matrix.lean ====
section
/-! SUPPORT. What a matrix access does once it is performed: the judgement of R409 settled, the write itself is left. -/

namespace Sys2Proof.Machine

theorem eccAt_clean (wr : Bool) (m : Master) (off size : Nat) (s : State) : eccAt .clean wr m off size s = s := by
  unfold eccAt eccFound
  split
  · rfl
  · split
    · rfl
    · simp

@[simp] theorem foldLoad_mode (m : Master) (off size data : Nat) (s : State) : (foldLoad m off size data s).ms.mode = s.ms.mode := by
  unfold foldLoad; split <;> rfl
@[simp] theorem foldLoad_checking (m : Master) (off size data : Nat) (s : State) :
    (foldLoad m off size data s).ms.checking = s.ms.checking := by unfold foldLoad; split <;> rfl
@[simp] theorem foldLoad_straps (m : Master) (off size data : Nat) (s : State) : (foldLoad m off size data s).straps = s.straps := by
  unfold foldLoad; split <;> rfl

/-- Outside LOAD nothing is folded (R381). -/
theorem foldLoad_other {s : State} (h : s.ms.mode ≠ .load) (m : Master) (off size data : Nat) : foldLoad m off size data s = s := by
  simp [foldLoad, h]
/-- FAB_CMD and FAB_SEAL are not folded (R381). -/
theorem foldLoad_command (m : Master) {off : Nat} (h : 0x48 ≤ off ∧ off < 0x58) (size data : Nat) (s : State) :
    foldLoad m off size data s = s := by
  simp [foldLoad, h.1, h.2]

@[simp] theorem mayWrite_foldLoad (m : Master) (off size data : Nat) (s : State) (m' : Master) (pg : Page) (o : Nat) :
    mayWrite (foldLoad m off size data s) m' pg o = mayWrite s m' pg o := by unfold foldLoad; split <;> rfl
@[simp] theorem foldLoad_withheld (m : Master) (off size data : Nat) (s : State) : (foldLoad m off size data s).withheld = s.withheld := by
  unfold foldLoad; split <;> rfl
@[simp] theorem foldLoad_clasp (m : Master) (off size data : Nat) (s : State) : (foldLoad m off size data s).clasp = s.clasp := by
  unfold foldLoad; split <;> rfl
@[simp] theorem foldLoad_hm (m : Master) (off size data : Nat) (s : State) : (foldLoad m off size data s).hm = s.hm := by
  unfold foldLoad; split <;> rfl
theorem MatrixOpen.fold {s : State} (h : MatrixOpen s) (m : Master) (off size data : Nat) : MatrixOpen (foldLoad m off size data s) := by
  unfold foldLoad; split <;> exact h

/-- A write of one part to a setting, in a mode that performs it, by a master that may make it (R408, R409). -/
theorem writePart_performed {m : Master} {pg : Page} {off size data : Nat} {s : State} (ho : MatrixOpen s) (hd : s.ms.mode ≠ .drain)
    (hl : s.ms.mode = .load → m = .mgt) (hr : regionOf (inPage pg off) = .basic ∨ regionOf (inPage pg off) = .expert ∨ regionOf (inPage pg off) = .tables)
    (hm : mayWrite s m pg (inPage pg off) = true) :
    writePart m pg off size data s = writePerform m pg (inPage pg off) size data s := by
  have h10 : inPage pg off ≠ 0x10 := by
    intro h; rw [h] at hr; revert hr; decide
  have hw : writesHeld s = false := by simp [writesHeld, ho.2.2.1]
  have hl' : ¬(s.ms.mode = .load ∧ m ≠ .mgt) := fun h => h.2 (hl h.1)
  unfold writePart
  simp only [hw, Bool.false_eq_true, if_false, hd, false_and, h10, hl', hm, if_true]
  rcases hr with hr | hr | hr <;> simp [hr]

/-- With no access waiting there is none to grant. -/
theorem grantHeld_none {s : State} (h : s.withheld = []) : grantHeld s = s := by
  cases s; cases h; rfl

/-- Nothing holds an access back: it is granted at once (R55, R368, R372). -/
theorem matrixAccess_open {s : State} (ho : MatrixOpen s) (a : Access) : matrixAccess a s = performAccess a s := by
  have h1 : coreIsOff s = false := by simp [coreIsOff, ho.1]
  have h2 : matrixHeldReset s = false := by simp [matrixHeldReset, ho.2.1]
  have h3 : claspHolds s a.off = false := by
    unfold claspHolds
    have hn := ho.2.2.2.2
    by_cases ha : s.clasp.state = .armed
    · have hb : ((claspEntry s).any fun x => x.2.sent) = false := by
        rw [← Bool.not_eq_true]; exact fun h => hn ⟨ha, h⟩
      simp only [hb, Bool.and_false, Bool.false_and]
    · simp only [ha, decide_false, Bool.false_and]
  unfold matrixAccess
  simp only [h1, h2, h3, Bool.false_eq_true, if_false, grantHeld_none ho.2.2.2.1, ite_self]

/-- A write of intact words reaches its registers, and is acknowledged (R403). -/
theorem matrixWrite_open {m : Master} {off size data : Nat} {s : State} (ho : MatrixOpen s) :
    matrixWrite m off size data .clean s = emit (.ack m) (writeAccess m off size data s) := by
  unfold matrixWrite
  rw [matrixAccess_open ho]
  simp only [performAccess, eccAt_clean, if_true]

/-- A read of intact words answers what the registers give (R403). -/
theorem matrixRead_open {m : Master} {off size : Nat} {s : State} (ho : MatrixOpen s) :
    matrixRead m off size .clean s = emit (.readData m (word (readAccess m off size s).1)) (readAccess m off size s).2 := by
  unfold matrixRead
  rw [matrixAccess_open ho]
  simp only [performAccess, eccAt_clean, Bool.false_eq_true, if_false]

/-- A write access to one register, performed (R38, R403, R408, R409). -/
theorem matrixWrite_performed {m : Master} {off size data : Nat} {s : State} {pg : Page} (ho : MatrixOpen s) (hpg : pageOf off = some pg)
    (hs : sizeOk off size = true) (hp : accessParts pg off size = [(off, size)]) (hd : s.ms.mode ≠ .drain)
    (hl : s.ms.mode = .load → m = .mgt) (hr : regionOf (inPage pg off) = .basic ∨ regionOf (inPage pg off) = .expert ∨ regionOf (inPage pg off) = .tables)
    (hm : mayWrite s m pg (inPage pg off) = true) :
    matrixWrite m off size data .clean s =
      emit (.ack m) (writePerform m pg (inPage pg off) size (data % 2 ^ (8 * size)) (foldLoad m off size data s)) := by
  rw [matrixWrite_open ho]
  unfold writeAccess
  simp only [hs, Bool.not_true, Bool.false_eq_true, if_false, hpg, hp, List.foldl_cons, List.foldl_nil, Nat.sub_self, Nat.mul_zero,
    Nat.pow_zero, Nat.div_one]
  rw [writePart_performed (ho.fold m off size data) (by simpa using hd) (by simpa using hl) hr (by simpa using hm)]

/-- A performed write outside the CLASP page and FAB_SEAL. -/
theorem writePerform_page {m : Master} {pg : Page} {o size data : Nat} {s : State}
    (hl : latched (pg.base + o / regWidth pg o * regWidth pg o) = false) (hk : pg.kind ≠ .clasp) (hc : pg.kind = .global → o / regWidth pg o * regWidth pg o ≠ 0x48) :
    writePerform m pg o size data s =
      performWrite m pg (viewSel s m pg.base) (viewBank s m pg.base) (decide (kindClass pg.kind = .clasp)) false o size data s := by
  unfold writePerform
  have hc' : ¬(pg.kind = .global ∧ o / regWidth pg o * regWidth pg o = 0x48) := fun h => hc h.1 h.2
  simp [hl, hk, hc']

/-- A performed write to the basic region of an answering register. -/
theorem performWrite_basic {m : Master} {pg : Page} {sel : Nat} {bank clOk byClasp : Bool} {o size data : Nat} {s : State}
    (ha : answers s pg (o / regWidth pg o * regWidth pg o) = true) (hr : regionOf o = .basic) :
    performWrite m pg sel bank clOk byClasp o size data s =
      writeBasic pg (o / regWidth pg o * regWidth pg o) clOk byClasp (maskOf pg o size) (dataOf pg o (data % 2 ^ (8 * size))) s := by
  unfold performWrite
  simp only [ha, Bool.not_true, Bool.false_eq_true, if_false, hr]

/-- A write of a whole register of the basic region (R409), outside the CLASP page, FAB_SEAL and FAB_CMD. -/
theorem matrixWrite_register {m : Master} {off w d : Nat} {s : State} {pg : Page} {o : Nat} (ho : MatrixOpen s) (hd : s.ms.mode ≠ .drain)
    (hl : s.ms.mode = .load → m = .mgt) (hm : mayWrite s m pg o = true) (hpg : pageOf off = some pg) (hin : inPage pg off = o)
    (hbase : pg.base + o = off) (hw : regWidth pg o = w) (hs : sizeOk off w = true) (hal : o % w = 0) (hb : regionOf o = .basic)
    (hk : pg.kind ≠ .clasp) (hlat : latched off = false) (hc : pg.kind = .global → o ≠ 0x48) (ha : answers s pg o = true) :
    matrixWrite m off w d .clean s =
      emit (.ack m) (writeBasic pg o (decide (kindClass pg.kind = .clasp)) false (2 ^ (8 * w) - 1) (d % 2 ^ (8 * w)) (foldLoad m off w d s)) := by
  have hp : accessParts pg off w = [(off, w)] := by
    unfold accessParts; rw [hin, hw]; split
    · next h => exfalso; omega
    · rfl
  have hro : o / w * w = o := Nat.div_mul_cancel (Nat.dvd_of_mod_eq_zero hal)
  rw [matrixWrite_performed ho hpg hs hp hd hl (.inl (hin ▸ hb)) (hin ▸ hm)]
  congr 1
  rw [hin, writePerform_page (by rw [hw, hro, hbase]; exact hlat) hk (by rw [hw, hro]; exact hc),
    performWrite_basic (by rw [hw, hro]; exact (by
      unfold foldLoad; split <;> exact ha)) hb]
  rw [hw, hro, Nat.mod_mod, maskOf, dataOf, hw, hal, Nat.mul_zero, Nat.shiftLeft_zero, Nat.shiftLeft_zero]

/-- A page of the device domain is never dark. -/
theorem dark_global {s : State} {pg : Page} (h : pg.kind = .global ∨ pg.kind = .time ∨ pg.kind = .clasp ∨ pg.kind = .fault ∨ pg.kind = .locket ∨
    pg.kind = .sampler ∨ pg.kind = .devroute ∨ pg.kind = .addrmap ∨ pg.kind = .keepsake) : dark s pg = false := by
  rcases h with h | h | h | h | h | h | h | h | h <;> simp [dark, pageTile, h]

/-- A write of FAB_CMD by the proposer or the PFC (R379, R386, R408). -/
theorem fabCmd_write {m : Master} {s : State} (hm : m = .mgt ∨ m = .pfc) (ho : MatrixOpen s) (hd : s.ms.mode ≠ .drain)
    (hl : s.ms.mode = .load → m = .mgt) (d : Nat) :
    matrixWrite m 0x48 8 d .clean s =
      emit (.ack m) (fabCmd false (cmdBits m (d % 2 ^ 64)) s) := by
  have hmw : mayWrite s m ⟨.global, 0, 0⟩ 0x48 = true := by rcases hm with h | h <;> subst h <;> simp [mayWrite, classAt, kindClass, regionOf]
  have hb : cmdBits m (d % 2 ^ 64) < 2 ^ 64 := by
    unfold cmdBits; split
    · exact Nat.lt_of_le_of_lt Nat.and_le_right (by decide)
    · exact Nat.mod_lt _ (by decide)
  rw [matrixWrite_performed (pg := ⟨.global, 0, 0⟩) ho rfl rfl rfl hd hl (.inl rfl) hmw, foldLoad_command m (by decide)]
  congr 1
  have e1 : inPage ⟨.global, 0, 0⟩ 0x48 = 0x48 := rfl
  have e2 : regWidth ⟨.global, 0, 0⟩ 0x48 = 8 := rfl
  unfold writePerform
  simp only [e1, e2]
  simp [latched, performWrite, answers, dark_global, regionOf, writeBasic, e2, maskOf, dataOf]
  have e3 : (18446744073709551615 : Nat) = 2 ^ 64 - 1 := rfl
  rw [e3, Nat.and_two_pow_sub_one_eq_mod, Nat.mod_mod]
  exact congrArg (fabCmd false · s) (Nat.mod_eq_of_lt hb)

end Sys2Proof.Machine
end

