-- ==== Sys2Proof/Laws/Commands.lean ====
section
/-! SUPPORT. One lemma per command: what its effect keeps, in the strongest of the three senses that holds of it; and the frame of a
performed command. -/

namespace Sys2Proof.Machine

/-- A command that performs f completes, with what f leaves. -/
theorem Completes.of_performs {c : Instr} {s : State} {f : State → State} {P : State → Prop} (h : exec c s = performs f s)
    (hp : P { f (begin s) with pending := s.pending }) : Completes c s P := ⟨_, h, hp⟩
/-- So does a command at a slot with a fabric half. -/
theorem Completes.of_port {c : Instr} {s : State} {p : Fin 96} {f : State → State} {P : State → Prop} (h : exec c s = portCmd p f s)
    (hu : usedPort p.val = true) (hp : P { f (begin s) with pending := s.pending }) : Completes c s P :=
  ⟨_, h.trans (portCmd_used hu f s), hp⟩

theorem Calm.queued {s x : State} (h : Calm s x) (q : List Instr) : Calm s { x with pending := q } := Calm.upd h rfl
theorem Quiet.queued {s x : State} (h : Quiet s x) (q : List Instr) : Quiet s { x with pending := q } := Quiet.upd h rfl
theorem Steady.queued {s x : State} (h : Steady s x) (q : List Instr) : Steady s { x with pending := q } := Steady.upd h rfl

/-- The frame of a performed command. -/
theorem Calm.of_performs {s t : State} {f : State → State} (h : Calm s (f (begin s))) (e : performs f s = .next t) : Calm s t := by
  cases e; exact h.queued _
theorem Quiet.of_performs {s t : State} {f : State → State} (h : Quiet s (f (begin s))) (e : performs f s = .next t) : Quiet s t := by
  cases e; exact h.queued _
theorem Steady.of_performs {s t : State} {f : State → State} (h : Steady s (f (begin s))) (e : performs f s = .next t) : Steady s t := by
  cases e; exact h.queued _
/-- And of one at a port slot. -/
theorem portCmd_next {p : Fin 96} {f : State → State} {s t : State} (e : portCmd p f s = .next t) : performs f s = .next t := by
  unfold portCmd at e; split at e
  · exact e
  · cases e

theorem keeps_powerOn (test confHost0 pfWarnLow : Bool) (s : State) : Steady s (powerOnDo test confHost0 pfWarnLow (begin s)) :=
  powerOnDo_steady ((begin_calm (Calm.refl s)).toSteady (Steady.refl s))
theorem keeps_warmReset (s : State) : Steady s (warmResetDo (begin s)) :=
  warmResetDo_steady ((begin_calm (Calm.refl s)).toSteady (Steady.refl s))
theorem keeps_resetRelease (s : State) : Steady s (resetReleaseDo (begin s)) :=
  resetReleaseDo_steady ((begin_calm (Calm.refl s)).toSteady (Steady.refl s))
theorem keeps_fabCmdLoad (m : Master) (s : State) : Steady s (matrixWrite m 0x48 8 1 .clean (begin s)) :=
  matrixWrite_steady ((begin_calm (Calm.refl s)).toSteady (Steady.refl s))
theorem keeps_fabCmdAbort (m : Master) (s : State) : Steady s (matrixWrite m 0x48 8 2 .clean (begin s)) :=
  matrixWrite_steady ((begin_calm (Calm.refl s)).toSteady (Steady.refl s))
theorem keeps_fabCmdRestore (m : Master) (s : State) : Steady s (matrixWrite m 0x48 8 4 .clean (begin s)) :=
  matrixWrite_steady ((begin_calm (Calm.refl s)).toSteady (Steady.refl s))
theorem keeps_drainToHold (m : Master) (s : State) : Steady s (matrixWrite m 0x48 8 0x10 .clean (begin s)) :=
  matrixWrite_steady ((begin_calm (Calm.refl s)).toSteady (Steady.refl s))
theorem keeps_drainToKeep (m : Master) (s : State) : Steady s (matrixWrite m 0x48 8 0x20 .clean (begin s)) :=
  matrixWrite_steady ((begin_calm (Calm.refl s)).toSteady (Steady.refl s))
theorem keeps_sealWrite (m : Master) (crc : BitVec 32) (s : State) : Steady s (matrixWrite m 0x50 8 (0x5EA1 * 2 ^ 32 + crc.toNat) .clean (begin s)) :=
  matrixWrite_steady ((begin_calm (Calm.refl s)).toSteady (Steady.refl s))
theorem keeps_configurationCheckerDone (s : State) : Steady s (checkerDo (begin s)) :=
  checkerDo_steady ((begin_calm (Calm.refl s)).toSteady (Steady.refl s))
theorem keeps_loadTimeout (s : State) : Steady s (loadTimeoutDo (begin s)) :=
  loadTimeoutDo_steady ((begin_calm (Calm.refl s)).toSteady (Steady.refl s))
theorem keeps_pfWarnFall (s : State) : Steady s (pfFallDo (begin s)) :=
  pfFallDo_steady ((begin_calm (Calm.refl s)).toSteady (Steady.refl s))
theorem keeps_pfWarnRise (s : State) : Steady s (pfRiseDo (begin s)) :=
  pfRiseDo_steady ((begin_calm (Calm.refl s)).toSteady (Steady.refl s))
theorem keeps_rpllLoss (s : State) : Steady s (rpllLossDo (begin s)) :=
  rpllLossDo_steady ((begin_calm (Calm.refl s)).toSteady (Steady.refl s))
theorem keeps_drainFinal (s : State) : Steady s (drainFinalDo (begin s)) :=
  drainFinalDo_steady ((begin_calm (Calm.refl s)).toSteady (Steady.refl s))
theorem keeps_restoreReloadDone (bad : List (Fin 59)) (s : State) : Steady s (reloadDo bad (begin s)) :=
  reloadDo_steady ((begin_calm (Calm.refl s)).toSteady (Steady.refl s))
theorem keeps_gtHoldClear (s : State) : Steady s (gtHoldClearDo (begin s)) :=
  gtHoldClearDo_steady ((begin_calm (Calm.refl s)).toSteady (Steady.refl s))
theorem keeps_keepsakeLost (s : State) : Steady s (keepLostDo (begin s)) :=
  keepLostDo_steady ((begin_calm (Calm.refl s)).toSteady (Steady.refl s))
theorem keeps_hmSubmitAtTime (m : Master) (s : State) : Steady s (matrixWrite m 0x1058 8 1 .clean (begin s)) :=
  matrixWrite_steady ((begin_calm (Calm.refl s)).toSteady (Steady.refl s))
theorem keeps_hmSubmitNextFrame (m : Master) (s : State) : Steady s (matrixWrite m 0x1058 8 2 .clean (begin s)) :=
  matrixWrite_steady ((begin_calm (Calm.refl s)).toSteady (Steady.refl s))
theorem keeps_hmCancel (m : Master) (id : BitVec 9) (s : State) : Steady s (matrixWrite m 0x1058 8 (256 * id.toNat + 3) .clean (begin s)) :=
  matrixWrite_steady ((begin_calm (Calm.refl s)).toSteady (Steady.refl s))
theorem keeps_hmSendToTiles (e : Fin 32) (s : State) : Quiet s (hmSend e (begin s)) :=
  hmSend_quiet ((begin_calm (Calm.refl s)).toQuiet (Quiet.refl s))
theorem keeps_epochSwitch (s : State) : Steady s (launchGlobal 1 epochSwitchDo (begin s)) :=
  launchGlobal_steady (fun _ _ h => epochSwitchDo_steady h) ((begin_calm (Calm.refl s)).toSteady (Steady.refl s))
theorem keeps_beadSwap (s : State) : Steady s (launchGlobal 2 (fun _ => beadSwapDo) (begin s)) :=
  launchGlobal_steady (fun _ _ h => beadSwapDo_steady h) ((begin_calm (Calm.refl s)).toSteady (Steady.refl s))
theorem keeps_cameo (s : State) : Quiet s (launchGlobal 3 (fun _ => takeCameo) (begin s)) :=
  launchGlobal_quiet (fun _ _ h => (takeCameo_calm (Calm.refl _)).toQuiet h) ((begin_calm (Calm.refl s)).toQuiet (Quiet.refl s))
theorem keeps_freezeOn (s : State) : Quiet s (launchGlobal 4 (fun _ => setFrozen true) (begin s)) :=
  launchGlobal_quiet (fun _ _ h => (setFrozen_calm (Calm.refl _)).toQuiet h) ((begin_calm (Calm.refl s)).toQuiet (Quiet.refl s))
theorem keeps_freezeOff (s : State) : Quiet s (launchGlobal 5 (fun _ => setFrozen false) (begin s)) :=
  launchGlobal_quiet (fun _ _ h => (setFrozen_calm (Calm.refl _)).toQuiet h) ((begin_calm (Calm.refl s)).toQuiet (Quiet.refl s))
theorem keeps_portPowerHallmark (tile : Fin 48) (s : State) : Quiet s (launchTile tile 6 (fun e => portPowerDo (portF e.target) e.arg) (begin s)) :=
  launchTile_quiet (fun _ _ h => portPowerDo_quiet h) ((begin_calm (Calm.refl s)).toQuiet (Quiet.refl s))
theorem keeps_modeChange (s : State) : Steady s (launchGlobal 7 (fun e => modeChangeDo e.arg) (begin s)) :=
  launchGlobal_steady (fun _ _ h => modeChangeDo_steady h) ((begin_calm (Calm.refl s)).toSteady (Steady.refl s))
theorem keeps_faultInjection (tile : Fin 48) (s : State) : Quiet s (launchTile tile 8 (fun e => injectDo losMask tile e.arg) (begin s)) :=
  launchTile_quiet (fun _ _ h => injectDo_quiet (fun _ _ _ h => losMask_quiet h) h) ((begin_calm (Calm.refl s)).toQuiet (Quiet.refl s))
theorem keeps_claspApply (s : State) : Steady s (claspApplyDo (begin s)) :=
  claspApplyDo_steady ((begin_calm (Calm.refl s)).toSteady (Steady.refl s))
theorem keeps_epochDrainDone (s : State) : Steady s (epochDrainedDo (begin s)) :=
  epochDrainedDo_steady ((begin_calm (Calm.refl s)).toSteady (Steady.refl s))
theorem keeps_epochDrainOverdue (s : State) : Steady s (drainOverdueDo (begin s)) :=
  drainOverdueDo_steady ((begin_calm (Calm.refl s)).toSteady (Steady.refl s))
theorem keeps_plannerApply (s : State) : Steady s (plannerApplyDo (begin s)) :=
  plannerApplyDo_steady ((begin_calm (Calm.refl s)).toSteady (Steady.refl s))
theorem keeps_plannerResubmit (s : State) : Quiet s (plannerResubmitDo (begin s)) :=
  plannerResubmitDo_quiet ((begin_calm (Calm.refl s)).toQuiet (Quiet.refl s))
theorem keeps_claspOpen (m : Master) (s : State) : Steady s (matrixWrite m 0x2040 8 1 .clean (begin s)) :=
  matrixWrite_steady ((begin_calm (Calm.refl s)).toSteady (Steady.refl s))
theorem keeps_claspClose (m : Master) (s : State) : Steady s (matrixWrite m 0x2040 8 2 .clean (begin s)) :=
  matrixWrite_steady ((begin_calm (Calm.refl s)).toSteady (Steady.refl s))
theorem keeps_claspStage (m : Master) (data : BitVec 64) (s : State) : Steady s (matrixWrite m 0x2050 8 data.toNat .clean (begin s)) :=
  matrixWrite_steady ((begin_calm (Calm.refl s)).toSteady (Steady.refl s))
theorem keeps_claspConfirm (m : Master) (digest : BitVec 32) (s : State) : Steady s (matrixWrite m 0x2068 8 digest.toNat .clean (begin s)) :=
  matrixWrite_steady ((begin_calm (Calm.refl s)).toSteady (Steady.refl s))
theorem keeps_claspCheckDone (s : State) : Quiet s (claspCheckDo (begin s)) :=
  claspCheckDo_quiet ((begin_calm (Calm.refl s)).toQuiet (Quiet.refl s))
theorem keeps_claspArm (m : Master) (t : BitVec 64) (s : State) : Steady s (matrixWrite m 0x2058 8 t.toNat .clean (begin s)) :=
  matrixWrite_steady ((begin_calm (Calm.refl s)).toSteady (Steady.refl s))
theorem keeps_claspCancel (m : Master) (s : State) : Steady s (matrixWrite m 0x2060 8 1 .clean (begin s)) :=
  matrixWrite_steady ((begin_calm (Calm.refl s)).toSteady (Steady.refl s))
theorem keeps_claspTimeout (s : State) : Quiet s (claspTimeoutDo (begin s)) :=
  claspTimeoutDo_quiet ((begin_calm (Calm.refl s)).toQuiet (Quiet.refl s))
theorem keeps_registerWrite (m : Master) (off : BitVec 24) (size : Nat) (data : BitVec 64) (ecc : Ecc) (s : State) : Steady s (matrixWrite m off.toNat size data.toNat ecc (begin s)) :=
  matrixWrite_steady ((begin_calm (Calm.refl s)).toSteady (Steady.refl s))
theorem keeps_viewSelect (m : Master) (page : BitVec 24) (sel : BitVec 8) (bank : Bool) (s : State) : Steady s (viewWrite m page.toNat sel.toNat bank (begin s)) :=
  viewWrite_steady ((begin_calm (Calm.refl s)).toSteady (Steady.refl s))
theorem keeps_expertEnable (m : Master) (page : BitVec 24) (s : State) : Steady s (expertWrite m page.toNat true (begin s)) :=
  expertWrite_steady ((begin_calm (Calm.refl s)).toSteady (Steady.refl s))
theorem keeps_expertDisable (m : Master) (page : BitVec 24) (s : State) : Steady s (expertWrite m page.toNat false (begin s)) :=
  expertWrite_steady ((begin_calm (Calm.refl s)).toSteady (Steady.refl s))
theorem keeps_accessTimeout (m : Master) (off : BitVec 24) (size : Nat) (write : Bool) (data : BitVec 64) (s : State) : Steady s (accessTimeoutDo m off.toNat size write data.toNat (begin s)) :=
  accessTimeoutDo_steady ((begin_calm (Calm.refl s)).toSteady (Steady.refl s))
theorem keeps_counterLowRead (m : Master) (off : BitVec 24) (s : State) : Steady s (matrixRead m off.toNat 4 .clean (begin s)) :=
  matrixRead_steady ((begin_calm (Calm.refl s)).toSteady (Steady.refl s))
theorem keeps_counterPreset (m : Master) (off : BitVec 24) (size : Nat) (data : BitVec 64) (s : State) : Steady s (matrixWrite m off.toNat size data.toNat .clean (begin s)) :=
  matrixWrite_steady ((begin_calm (Calm.refl s)).toSteady (Steady.refl s))
theorem keeps_faiOffer (port : Fin 96) (flit : Flit) (s : State) : Quiet s (offerDo port flit (begin s)) :=
  offerDo_quiet ((begin_calm (Calm.refl s)).toQuiet (Quiet.refl s))
theorem keeps_fabricHalfInject (port : Fin 96) (net : Net) (slot : Fin 128) (flips : List Nat) (s : State) : Quiet s (injectThen port (injectSlotDo port net slot flips) (begin s)) :=
  injectThen_quiet (fun _ h => injectSlotDo_quiet h) ((begin_calm (Calm.refl s)).toQuiet (Quiet.refl s))
theorem keeps_gtSlotInject (port : Fin 96) (net : Net) (slot : Fin 128) (flips : List Nat) (s : State) : Quiet s (injectThen port (gtSlotDo port net slot flips) (begin s)) :=
  injectThen_quiet (fun _ h => gtSlotDo_quiet h) ((begin_calm (Calm.refl s)).toQuiet (Quiet.refl s))
theorem keeps_routerGrant (tile : Fin 48) (net : Net) (slot : Fin 128) (errs : List LinkErr) (s : State) : Quiet s (routerGrantDo tile net slot errs (begin s)) :=
  routerGrantDo_quiet ((begin_calm (Calm.refl s)).toQuiet (Quiet.refl s))
theorem keeps_trToTeMove (tile : Fin 48) (net : Net) (inp : Fin 7) (slot : Fin 128) (s : State) : Quiet s (trToTeDo tile net inp slot (begin s)) :=
  trToTeDo_quiet ((begin_calm (Calm.refl s)).toQuiet (Quiet.refl s))
theorem keeps_flitEject (port : Fin 96) (net : Net) (flips : List Nat) (s : State) : Quiet s (ejectDo port net flips (begin s)) :=
  ejectDo_quiet ((begin_calm (Calm.refl s)).toQuiet (Quiet.refl s))
theorem keeps_pairTimeout (port : Fin 96) (s : State) : Calm s (pairTimeoutDo port (begin s)) :=
  pairTimeoutDo_calm (begin_calm (Calm.refl s))
theorem keeps_ejectCreditReturn (port : Fin 96) (net : Net) (cls : Cls) (n : Nat) (s : State) : Quiet s (creditReturnDo port net cls n (begin s)) :=
  creditReturnDo_quiet ((begin_calm (Calm.refl s)).toQuiet (Quiet.refl s))
theorem keeps_retryExpiry (port : Fin 96) (idx : Fin 256) (s : State) : Quiet s (retryDo port idx.val (begin s)) :=
  retryDo_quiet ((begin_calm (Calm.refl s)).toQuiet (Quiet.refl s))
theorem keeps_ghostEnd (port : Fin 96) (idx : Fin 256) (s : State) : Calm s (ghostEndDo port idx.val (begin s)) :=
  ghostEndDo_calm (begin_calm (Calm.refl s))
theorem keeps_pingSend (port : Fin 96) (s : State) : Quiet s (pingDo port (begin s)) :=
  pingDo_quiet ((begin_calm (Calm.refl s)).toQuiet (Quiet.refl s))
theorem keeps_peerDown (port : Fin 96) (s : State) : Calm s (resetFalls port (begin s)) :=
  resetFalls_calm (begin_calm (Calm.refl s))
theorem keeps_qreset (m : Master) (port : Fin 96) (s : State) : Steady s (rewrite m (portPage port.val + 0x40) 4 (fun w => setBit w 8) (begin s)) :=
  rewrite_steady ((begin_calm (Calm.refl s)).toSteady (Steady.refl s))
theorem keeps_portActivate (port : Fin 96) (s : State) : Calm s (portActivateDo port (begin s)) :=
  portActivateDo_calm (begin_calm (Calm.refl s))
theorem keeps_fenceRequest (m : Master) (port : Fin 96) (s : State) : Steady s (matrixWrite m (portPage port.val + 0x44) 4 1 .clean (begin s)) :=
  matrixWrite_steady ((begin_calm (Calm.refl s)).toSteady (Steady.refl s))
theorem keeps_fenceCancel (m : Master) (port : Fin 96) (s : State) : Steady s (matrixWrite m (portPage port.val + 0x44) 4 0 .clean (begin s)) :=
  matrixWrite_steady ((begin_calm (Calm.refl s)).toSteady (Steady.refl s))
theorem keeps_fenceDrained (port : Fin 96) (s : State) : Calm s (fenceDrainedDo port (begin s)) :=
  fenceDrainedDo_calm (begin_calm (Calm.refl s))
theorem keeps_fenceStuck (port : Fin 96) (s : State) : Calm s (fenceStuckDo port (begin s)) :=
  fenceStuckDo_calm (begin_calm (Calm.refl s))
theorem keeps_pwrAck (port : Fin 96) (s : State) : Calm s (pwrAckDo port (begin s)) :=
  pwrAckDo_calm (begin_calm (Calm.refl s))
theorem keeps_pwrNoack (port : Fin 96) (s : State) : Calm s (pwrNoackDo port (begin s)) :=
  pwrNoackDo_calm (begin_calm (Calm.refl s))
theorem keeps_tileWave (s : State) : Quiet s (tileWaveDo (begin s)) :=
  tileWaveDo_quiet ((begin_calm (Calm.refl s)).toQuiet (Quiet.refl s))
theorem keeps_crossingInit (port : Fin 96) (side : Side) (s : State) : Calm s (xInitDo port side (begin s)) :=
  xInitDo_calm (begin_calm (Calm.refl s))
theorem keeps_crossingAliveMiss (port : Fin 96) (side : Side) (s : State) : Calm s (xAliveMissDo port side (begin s)) :=
  xAliveMissDo_calm (begin_calm (Calm.refl s))
theorem keeps_crossingPeerRdyLow (port : Fin 96) (side : Side) (s : State) : Calm s (xRdyLowDo port side (begin s)) :=
  xRdyLowDo_calm (begin_calm (Calm.refl s))
theorem keeps_crossingArm (port : Fin 96) (side : Side) (s : State) : Calm s (xArmDo port side (begin s)) :=
  xArmDo_calm (begin_calm (Calm.refl s))
theorem keeps_crossingRun (port : Fin 96) (side : Side) (s : State) : Calm s (xRunDo port side (begin s)) :=
  xRunDo_calm (begin_calm (Calm.refl s))
theorem keeps_timeStart (s : State) : Quiet s (timeStartDo (begin s)) :=
  timeStartDo_quiet ((begin_calm (Calm.refl s)).toQuiet (Quiet.refl s))
theorem keeps_timeRealign (drift : List (Fin 48 × Int)) (s : State) : Quiet s (realign (fun t => faultEvent (.tile t) srcTime) drift (begin s)) :=
  realign_quiet (fun _ _ h => faultEvent_quiet h) ((begin_calm (Calm.refl s)).toQuiet (Quiet.refl s))
theorem keeps_tsyncSend (strand : Fin 10) (s : State) : Calm s (tsyncSendDo strand (begin s)) :=
  tsyncSendDo_calm (begin_calm (Calm.refl s))
theorem keeps_treqReceive (strand : Fin 10) (rx : RxIn) (s : State) : Quiet s (rxDo strand (treqDo strand) rx (begin s)) :=
  rxDo_quiet (fun _ _ h => treqDo_quiet h) ((begin_calm (Calm.refl s)).toQuiet (Quiet.refl s))
theorem keeps_tsyncReceive (strand : Fin 10) (rx : RxIn) (synced : Bool) (s : State) : Quiet s (rxTsync strand synced rx (begin s)) :=
  rxTsync_quiet ((begin_calm (Calm.refl s)).toQuiet (Quiet.refl s))
theorem keeps_trespReceive (strand : Fin 10) (rx : RxIn) (s : State) : Quiet s (rxDo strand (trespDo strand) rx (begin s)) :=
  rxDo_quiet (fun _ _ h => trespDo_quiet h) ((begin_calm (Calm.refl s)).toQuiet (Quiet.refl s))
theorem keeps_timeStep (s : State) : Quiet s (timeStepDo (begin s)) :=
  timeStepDo_quiet ((begin_calm (Calm.refl s)).toQuiet (Quiet.refl s))
theorem keeps_holdoverExpire (s : State) : Quiet s (holdoverExpireDo (begin s)) :=
  holdoverExpireDo_quiet ((begin_calm (Calm.refl s)).toQuiet (Quiet.refl s))
theorem keeps_syncDisable (m : Master) (s : State) : Steady s (rewrite m 0x1040 8 (fun w => clrBit w 4) (begin s)) :=
  rewrite_steady ((begin_calm (Calm.refl s)).toSteady (Steady.refl s))
theorem keeps_faultWindowEnd (dom : Domain) (src : Fin 15) (s : State) : Quiet s (windowEndDo dom src (begin s)) :=
  windowEndDo_quiet ((begin_calm (Calm.refl s)).toQuiet (Quiet.refl s))
theorem keeps_quietExpire (dom : Domain) (s : State) : Quiet s (quietExpireDo dom (begin s)) :=
  quietExpireDo_quiet ((begin_calm (Calm.refl s)).toQuiet (Quiet.refl s))
theorem keeps_reactionComplete (dom : Domain) (s : State) : Quiet s (reactionDoneDo dom (begin s)) :=
  reactionDoneDo_quiet ((begin_calm (Calm.refl s)).toQuiet (Quiet.refl s))
theorem keeps_shadowEnd (dom : Domain) (s : State) : Quiet s (shadowEndDo dom (begin s)) :=
  shadowEndDo_quiet ((begin_calm (Calm.refl s)).toQuiet (Quiet.refl s))
theorem keeps_fltAcknowledge (m : Master) (kind : BitVec 2) (inst : BitVec 7) (s : State) : Steady s (matrixWrite m 0x3048 8 (256 * inst.toNat + 16 * kind.toNat + 1) .clean (begin s)) :=
  matrixWrite_steady ((begin_calm (Calm.refl s)).toSteady (Steady.refl s))
theorem keeps_fltReadmit (m : Master) (kind : BitVec 2) (inst : BitVec 7) (s : State) : Steady s (matrixWrite m 0x3048 8 (256 * inst.toNat + 16 * kind.toNat + 2) .clean (begin s)) :=
  matrixWrite_steady ((begin_calm (Calm.refl s)).toSteady (Steady.refl s))
theorem keeps_tileIsolateCmd (m : Master) (tile : Fin 48) (s : State) : Steady s (matrixWrite m (tilePage tile.val + 0x40) 4 1 .clean (begin s)) :=
  matrixWrite_steady ((begin_calm (Calm.refl s)).toSteady (Steady.refl s))
theorem keeps_tileReadmitCmd (m : Master) (tile : Fin 48) (s : State) : Steady s (matrixWrite m (tilePage tile.val + 0x40) 4 2 .clean (begin s)) :=
  matrixWrite_steady ((begin_calm (Calm.refl s)).toSteady (Steady.refl s))
theorem keeps_injectionPeriodEnd (dom : Domain) (src : Fin 15) (s : State) : Quiet s (injEndDo dom src (begin s)) :=
  injEndDo_quiet ((begin_calm (Calm.refl s)).toQuiet (Quiet.refl s))
theorem keeps_homeStagingEcc (ch : Fin 16) (steps : Nat) (s : State) : Quiet s (stagingSteps ch steps (begin s)) :=
  stagingSteps_quiet ((begin_calm (Calm.refl s)).toQuiet (Quiet.refl s))
theorem keeps_lkopen (port : Fin 96) (s : State) : Calm s (lkOpen port (begin s)) :=
  lkOpen_calm (begin_calm (Calm.refl s))
theorem keeps_lkstage (port : Fin 96) (flit : Flit) (s : State) : Quiet s (offerDo port (stageFlit flit) (begin s)) :=
  offerDo_quiet ((begin_calm (Calm.refl s)).toQuiet (Quiet.refl s))
theorem keeps_lkstageAnswer (s : State) : Calm s (lkStageAnswer (begin s)) :=
  lkStageAnswer_calm (begin_calm (Calm.refl s))
theorem keeps_lkcommit (port : Fin 96) (s : State) : Calm s (lkCommitReq port (begin s)) :=
  lkCommitReq_calm (begin_calm (Calm.refl s))
theorem keeps_lkabort (port : Fin 96) (s : State) : Calm s (lkAbortReq port (begin s)) :=
  lkAbortReq_calm (begin_calm (Calm.refl s))
theorem keeps_locketOpenTimeout (lkt : Fin 64) (s : State) : Calm s (lkTimeout lkt (begin s)) :=
  lkTimeout_calm (begin_calm (Calm.refl s))
theorem keeps_locketPrepare (lkt : Fin 64) (s : State) : Calm s (lkPrepare lkt (begin s)) :=
  lkPrepare_calm (begin_calm (Calm.refl s))
theorem keeps_lkvoteReceive (s : State) : Calm s (lkVote (begin s)) :=
  lkVote_calm (begin_calm (Calm.refl s))
theorem keeps_voteDeadline (lkt : Fin 64) (s : State) : Calm s (lkDeadline lkt (begin s)) :=
  lkDeadline_calm (begin_calm (Calm.refl s))
theorem keeps_lkdoneReceive (s : State) : Calm s (lkDone (begin s)) :=
  lkDone_calm (begin_calm (Calm.refl s))
theorem keeps_locketResend (lkt : Fin 64) (s : State) : Calm s (lkResend lkt (begin s)) :=
  lkResend_calm (begin_calm (Calm.refl s))
theorem keeps_decisionDeliver (port : Fin 96) (s : State) : Calm s (decisionDeliverDo port (begin s)) :=
  decisionDeliverDo_calm (begin_calm (Calm.refl s))
theorem keeps_relayPrepare (s : State) : Calm s (relayTake (begin s)) :=
  relayTake_calm (begin_calm (Calm.refl s))
theorem keeps_relayResolve (m : Master) (entry : Fin 64) (outcome : Resolve) (s : State) : Steady s (relayResolveWrite m entry outcome (begin s)) :=
  relayResolveWrite_steady ((begin_calm (Calm.refl s)).toSteady (Steady.refl s))
theorem keeps_doubtAbort (s : State) : Calm s (doubtDo (begin s)) :=
  doubtDo_calm (begin_calm (Calm.refl s))
theorem keeps_strandEnable (m : Master) (strand : Fin 10) (s : State) : Steady s (rewrite m (slPage strand.val 0 + 0x40) 4 (fun w => setBit (slKept w) 0) (begin s)) :=
  rewrite_steady ((begin_calm (Calm.refl s)).toSteady (Steady.refl s))
theorem keeps_strandDisable (m : Master) (strand : Fin 10) (s : State) : Steady s (rewrite m (slPage strand.val 0 + 0x40) 4 (fun w => clrBit (slKept w) 0) (begin s)) :=
  rewrite_steady ((begin_calm (Calm.refl s)).toSteady (Steady.refl s))
theorem keeps_sreset (m : Master) (strand : Fin 10) (s : State) : Steady s (rewrite m (slPage strand.val 0 + 0x40) 4 (fun w => setBit (slKept w) 16) (begin s)) :=
  rewrite_steady ((begin_calm (Calm.refl s)).toSteady (Steady.refl s))
theorem keeps_retrain (m : Master) (strand : Fin 10) (s : State) : Steady s (rewrite m (slPage strand.val 0 + 0x40) 4 (fun w => setBit (slKept w) 12) (begin s)) :=
  rewrite_steady ((begin_calm (Calm.refl s)).toSteady (Steady.refl s))
theorem keeps_detectBurst (strand : Fin 10) (low : Bool) (s : State) : Calm s (detectBurstDo strand low (begin s)) :=
  detectBurstDo_calm (begin_calm (Calm.refl s))
theorem keeps_prsntFall (strand : Fin 10) (s : State) : Calm s (prsntFallDo strand (begin s)) :=
  prsntFallDo_calm (begin_calm (Calm.refl s))
theorem keeps_detectSignal (strand : Fin 10) (s : State) : Calm s (detectSignalDo strand (begin s)) :=
  detectSignalDo_calm (begin_calm (Calm.refl s))
theorem keeps_bitlockDone (strand : Fin 10) (tries : List LaneTry) (ppm : Vector Int 8) (s : State) : Calm s (bitlockDo strand tries ppm (begin s)) :=
  bitlockDo_calm (begin_calm (Calm.refl s))
theorem keeps_polarityDone (strand : Fin 10) (marks : List (Fin 8 × BitVec 64 × BitVec 64)) (s : State) : Calm s (polarityDo strand marks (begin s)) :=
  polarityDo_calm (begin_calm (Calm.refl s))
theorem keeps_lanemapDone (strand : Fin 10) (marks : List (Fin 8 × BitVec 3 × BitVec 3)) (s : State) : Calm s (lanemapDo strand marks (begin s)) :=
  lanemapDo_calm (begin_calm (Calm.refl s))
theorem keeps_deskewDone (strand : Fin 10) (arr : List (Fin 8 × BitVec 16 × Nat)) (s : State) : Calm s (deskewDo strand arr (begin s)) :=
  deskewDo_calm (begin_calm (Calm.refl s))
theorem keeps_eqDwellEnd (strand : Fin 10) (eyes : List (BitVec 6 × Nat)) (s : State) : Calm s (dwellDo strand eyes (begin s)) :=
  dwellDo_calm (begin_calm (Calm.refl s))
theorem keeps_presetDone (strand : Fin 10) (s : State) : Calm s (presetDo strand (begin s)) :=
  presetDo_calm (begin_calm (Calm.refl s))
theorem keeps_configHandshakeDone (strand : Fin 10) (s : State) : Calm s (configDo strand (begin s)) :=
  configDo_calm (begin_calm (Calm.refl s))
theorem keeps_trainStageTimeout (strand : Fin 10) (s : State) : Calm s (stageTimeoutDo strand (begin s)) :=
  stageTimeoutDo_calm (begin_calm (Calm.refl s))
theorem keeps_absentExpire (strand : Fin 10) (s : State) : Calm s (absentDo strand (begin s)) :=
  absentDo_calm (begin_calm (Calm.refl s))
theorem keeps_markerReceive (strand : Fin 10) (rx : RxIn) (s : State) : Quiet s (rxDo strand (markerDo strand) rx (begin s)) :=
  rxDo_quiet (fun _ _ h => markerDo_quiet h) ((begin_calm (Calm.refl s)).toQuiet (Quiet.refl s))
theorem keeps_markerSend (strand : Fin 10) (s : State) : Quiet s (markerSendDo strand (begin s)) :=
  markerSendDo_quiet ((begin_calm (Calm.refl s)).toQuiet (Quiet.refl s))
theorem keeps_tsInActive (strand : Fin 10) (s : State) : Quiet s (tsActiveDo strand (begin s)) :=
  tsActiveDo_quiet ((begin_calm (Calm.refl s)).toQuiet (Quiet.refl s))
theorem keeps_lossOfSignal (strand : Fin 10) (lane : BitVec 3) (s : State) : Quiet s (losDo strand lane (begin s)) :=
  losDo_quiet ((begin_calm (Calm.refl s)).toQuiet (Quiet.refl s))
theorem keeps_lossOfBlockLock (strand : Fin 10) (lane : BitVec 3) (s : State) : Quiet s (lockLossDo strand lane (begin s)) :=
  lockLossDo_quiet ((begin_calm (Calm.refl s)).toQuiet (Quiet.refl s))
theorem keeps_fomUpdate (strand : Fin 10) (eyes : List (BitVec 6 × Nat)) (s : State) : Calm s (fomDo strand eyes (begin s)) :=
  fomDo_calm (begin_calm (Calm.refl s))
theorem keeps_fomFloor (strand : Fin 10) (s : State) : Quiet s (fomFloorDo strand (begin s)) :=
  fomFloorDo_quiet ((begin_calm (Calm.refl s)).toQuiet (Quiet.refl s))
theorem keeps_calSend (strand : Fin 10) (s : State) : Calm s (calDo strand (begin s)) :=
  calDo_calm (begin_calm (Calm.refl s))
theorem keeps_refclkLoss (cx : StrandComplex) (pair0 : Bool) (s : State) : Quiet s (refclkDo cx pair0 (begin s)) :=
  refclkDo_quiet ((begin_calm (Calm.refl s)).toQuiet (Quiet.refl s))
theorem keeps_laneGroupPowerup (pair0 : Bool) (s : State) : Quiet s (powerupDo pair0 (begin s)) :=
  powerupDo_quiet ((begin_calm (Calm.refl s)).toQuiet (Quiet.refl s))
theorem keeps_strandPwrReq (m : Master) (strand : Fin 10) (req : StrandPwr) (s : State) : Steady s (rewrite m (slPage strand.val 0 + 0x40) 4 (fun w => putBits 5 4 (slKept w) (pwrCode req)) (begin s)) :=
  rewrite_steady ((begin_calm (Calm.refl s)).toSteady (Steady.refl s))
theorem keeps_strandWidthReq (m : Master) (strand : Fin 10) (req : WidthReq) (s : State) : Steady s (rewrite m (slPage strand.val 0 + 0x40) 4 (fun w => putBits 9 8 (slKept w) (widthCode req)) (begin s)) :=
  rewrite_steady ((begin_calm (Calm.refl s)).toSteady (Steady.refl s))
theorem keeps_lctlReqReceive (strand : Fin 10) (rx : RxIn) (s : State) : Quiet s (rxDo strand (lctlReqDo strand) rx (begin s)) :=
  rxDo_quiet (fun _ _ h => (lctlReqDo_calm (Calm.refl _)).toQuiet h) ((begin_calm (Calm.refl s)).toQuiet (Quiet.refl s))
theorem keeps_lctlAnswerReceive (strand : Fin 10) (rx : RxIn) (s : State) : Quiet s (rxDo strand (lctlAnswerDo strand) rx (begin s)) :=
  rxDo_quiet (fun _ _ h => (lctlAnswerDo_calm (Calm.refl _)).toQuiet h) ((begin_calm (Calm.refl s)).toQuiet (Quiet.refl s))
theorem keeps_lctlTimeout (strand : Fin 10) (s : State) : Calm s (lctlTimeoutDo strand (begin s)) :=
  lctlTimeoutDo_calm (begin_calm (Calm.refl s))
theorem keeps_standbyExit (strand : Fin 10) (s : State) : Quiet s (standbyLeave strand (begin s)) :=
  standbyLeave_quiet ((begin_calm (Calm.refl s)).toQuiet (Quiet.refl s))
theorem keeps_deepWake (strand : Fin 10) (s : State) : Calm s (deepFall strand (begin s)) :=
  deepFall_calm (begin_calm (Calm.refl s))
theorem keeps_deepExitTimeout (strand : Fin 10) (s : State) : Quiet s (deepTimeoutDo strand (begin s)) :=
  deepTimeoutDo_quiet ((begin_calm (Calm.refl s)).toQuiet (Quiet.refl s))
theorem keeps_containerSend (strand : Fin 10) (s : State) : Quiet s (sendDo strand (begin s)) :=
  sendDo_quiet ((begin_calm (Calm.refl s)).toQuiet (Quiet.refl s))
theorem keeps_containerReceive (strand : Fin 10) (rx : RxCtnr) (bad : Bool) (s : State) : Quiet s (rxCtnr strand rx bad (begin s)) :=
  rxCtnr_quiet ((begin_calm (Calm.refl s)).toQuiet (Quiet.refl s))
theorem keeps_replayTimeout (strand : Fin 10) (s : State) : Quiet s (replayDo strand (begin s)) :=
  replayDo_quiet ((begin_calm (Calm.refl s)).toQuiet (Quiet.refl s))
theorem keeps_ackcSend (strand : Fin 10) (s : State) : Calm s (ackcDo strand (begin s)) :=
  ackcDo_calm (begin_calm (Calm.refl s))
theorem keeps_creditRefresh (strand : Fin 10) (s : State) : Quiet s (creditDo strand (begin s)) :=
  creditDo_quiet ((begin_calm (Calm.refl s)).toQuiet (Quiet.refl s))
theorem keeps_crcWindowEnd (strand : Fin 10) (s : State) : Calm s (winEndDo strand (begin s)) :=
  winEndDo_calm (begin_calm (Calm.refl s))
theorem keeps_failoverDone (strand : Fin 10) (s : State) : Calm s (failoverEnd strand (begin s)) :=
  failoverEnd_calm (begin_calm (Calm.refl s))
theorem keeps_helloSend (strand : Fin 10) (s : State) : Calm s (helloSendDo strand (begin s)) :=
  helloSendDo_calm (begin_calm (Calm.refl s))
theorem keeps_helloReceive (strand : Fin 10) (s : State) : Quiet s (helloTake strand (begin s)) :=
  helloTake_quiet ((begin_calm (Calm.refl s)).toQuiet (Quiet.refl s))
theorem keeps_helloTimeout (strand : Fin 10) (s : State) : Quiet s (helloTimeoutDo strand (begin s)) :=
  helloTimeoutDo_quiet ((begin_calm (Calm.refl s)).toQuiet (Quiet.refl s))
theorem keeps_sequencerArrival (strand : Fin 10) (net : Net) (buf : Fin 3) (s : State) : Calm s (arrivalDo strand net buf (begin s)) :=
  arrivalDo_calm (begin_calm (Calm.refl s))
theorem keeps_seqHandoverRelease (dev : Fin 32) (stream : Fin 3) (s : State) : Calm s (handoverDo (3 * dev.val + stream.val) (begin s)) :=
  handoverDo_calm (begin_calm (Calm.refl s))
theorem keeps_seqGapSkip (dev : Fin 32) (stream : Fin 3) (s : State) : Calm s (gapDo (3 * dev.val + stream.val) (begin s)) :=
  gapDo_calm (begin_calm (Calm.refl s))
theorem keeps_e2ackSend (dev : Fin 32) (s : State) : Calm s (e2ackSendDo dev.val (begin s)) :=
  e2ackSendDo_calm (begin_calm (Calm.refl s))
theorem keeps_e2ackReceive (s : State) : Quiet s (e2ackTake (begin s)) :=
  e2ackTake_quiet ((begin_calm (Calm.refl s)).toQuiet (Quiet.refl s))
theorem keeps_ssyncReceive (s : State) : Quiet s (ssyncTake (begin s)) :=
  ssyncTake_quiet ((begin_calm (Calm.refl s)).toQuiet (Quiet.refl s))
theorem keeps_ssyncAckReceive (s : State) : Quiet s (ssyncAckTake (begin s)) :=
  ssyncAckTake_quiet ((begin_calm (Calm.refl s)).toQuiet (Quiet.refl s))
theorem keeps_rootSettle (s : State) : Quiet s (rootSettleDo (begin s)) :=
  rootSettleDo_quiet ((begin_calm (Calm.refl s)).toQuiet (Quiet.refl s))
theorem keeps_topoReceive (s : State) : Quiet s (topoTake (begin s)) :=
  topoTake_quiet ((begin_calm (Calm.refl s)).toQuiet (Quiet.refl s))
theorem keeps_enumReceive (s : State) : Quiet s (enumTake (begin s)) :=
  enumTake_quiet ((begin_calm (Calm.refl s)).toQuiet (Quiet.refl s))
theorem keeps_enumAckReceive (s : State) : Quiet s (enumAckTake (begin s)) :=
  enumAckTake_quiet ((begin_calm (Calm.refl s)).toQuiet (Quiet.refl s))
theorem keeps_routeReceive (s : State) : Steady s (routeTake (begin s)) :=
  routeTake_steady ((begin_calm (Calm.refl s)).toSteady (Steady.refl s))
theorem keeps_activateReceive (s : State) : Steady s (activateTake (begin s)) :=
  activateTake_steady ((begin_calm (Calm.refl s)).toSteady (Steady.refl s))
theorem keeps_pushCheckDone (s : State) : Steady s (pushCheck (begin s)) :=
  pushCheck_steady ((begin_calm (Calm.refl s)).toSteady (Steady.refl s))
theorem keeps_sampleTimeout (n : Fin 4) (s : State) : Quiet s (sampleExpire n (begin s)) :=
  sampleExpire_quiet ((begin_calm (Calm.refl s)).toQuiet (Quiet.refl s))
theorem keeps_samplerClear (m : Master) (n : Fin 4) (s : State) : Steady s (rewrite m (samplerPage n.val + 0x68) 8 (fun w => setBit w 3) (begin s)) :=
  rewrite_steady ((begin_calm (Calm.refl s)).toSteady (Steady.refl s))
theorem keeps_registerRead (m : Master) (off : BitVec 24) (size : Nat) (ecc : Ecc) (s : State) : Steady s (matrixRead m off.toNat size ecc (begin s)) :=
  matrixRead_steady ((begin_calm (Calm.refl s)).toSteady (Steady.refl s))
theorem keeps_portPowerUpDone (port : Fin 96) (s : State) : Calm s (powerUpDoneDo port (begin s)) :=
  powerUpDoneDo_calm (begin_calm (Calm.refl s))
theorem keeps_complexPllLocked (cx : StrandComplex) (s : State) : Quiet s (pllLockedDo cx (begin s)) :=
  pllLockedDo_quiet ((begin_calm (Calm.refl s)).toQuiet (Quiet.refl s))
theorem keeps_tsOrTcbReceive (strand : Fin 10) (rx : RxIn) (s : State) : Quiet s (rxDo strand (tsTcbDo strand) rx (begin s)) :=
  rxDo_quiet (fun _ _ h => tsTcbDo_quiet h) ((begin_calm (Calm.refl s)).toQuiet (Quiet.refl s))
theorem keeps_vddKeepLoss (s : State) : Steady s (keepGoneDo (begin s)) :=
  keepGoneDo_steady ((begin_calm (Calm.refl s)).toSteady (Steady.refl s))

end Sys2Proof.Machine
end

