-- ==== Sys2Proof/Laws/PerInstr.lean ====
section
/-! SUPPORT. One lemma per constructor: a well-formed command that names an attach port names one that the device has (R20). -/

namespace Sys2Proof.Laws.WellFormedOperands

open Sys2Proof Sys2Proof.Machine

/-- The attach port a command names as its operand, if it names one. -/
def slot (i : Instr) : Option (Fin 96) :=
  match i with
  | .powerOn _ _ _ => none
  | .warmReset => none
  | .resetRelease => none
  | .fabCmdLoad _ => none
  | .fabCmdAbort _ => none
  | .fabCmdRestore _ => none
  | .drainToHold _ => none
  | .drainToKeep _ => none
  | .sealWrite _ _ => none
  | .configurationCheckerDone => none
  | .loadTimeout => none
  | .pfWarnFall => none
  | .pfWarnRise => none
  | .rpllLoss => none
  | .drainFinal => none
  | .restoreReloadDone _ => none
  | .gtHoldClear => none
  | .keepsakeLost => none
  | .hmSubmitAtTime _ => none
  | .hmSubmitNextFrame _ => none
  | .hmCancel _ _ => none
  | .hmSendToTiles _ => none
  | .epochSwitch => none
  | .beadSwap => none
  | .cameo => none
  | .freezeOn => none
  | .freezeOff => none
  | .portPowerHallmark _ => none
  | .modeChange => none
  | .faultInjection _ => none
  | .claspApply => none
  | .epochDrainDone => none
  | .epochDrainOverdue => none
  | .plannerApply => none
  | .plannerResubmit => none
  | .claspOpen _ => none
  | .claspClose _ => none
  | .claspStage _ _ => none
  | .claspConfirm _ _ => none
  | .claspCheckDone => none
  | .claspArm _ _ => none
  | .claspCancel _ => none
  | .claspTimeout => none
  | .registerWrite _ _ _ _ _ => none
  | .viewSelect _ _ _ _ => none
  | .expertEnable _ _ => none
  | .expertDisable _ _ => none
  | .accessTimeout _ _ _ _ _ => none
  | .counterLowRead _ _ => none
  | .counterPreset _ _ _ _ => none
  | .faiOffer port _ => some port
  | .fabricHalfInject port _ _ => some port
  | .gtSlotInject port _ _ => some port
  | .routerGrant _ _ _ _ => none
  | .trToTeMove _ _ _ _ => none
  | .flitEject port _ _ => some port
  | .pairTimeout port => some port
  | .ejectCreditReturn port _ _ _ => some port
  | .retryExpiry port _ => some port
  | .ghostEnd port _ => some port
  | .pingSend port => some port
  | .peerDown port => some port
  | .qreset _ port => some port
  | .portActivate port => some port
  | .fenceRequest _ port => some port
  | .fenceCancel _ port => some port
  | .fenceDrained port => some port
  | .fenceStuck port => some port
  | .pwrAck port => some port
  | .pwrNoack port => some port
  | .tileWave => none
  | .crossingInit port _ => some port
  | .crossingAliveMiss port _ => some port
  | .crossingPeerRdyLow port _ => some port
  | .crossingArm port _ => some port
  | .crossingRun port _ => some port
  | .timeStart => none
  | .timeRealign _ => none
  | .tsyncSend _ => none
  | .treqReceive _ _ => none
  | .tsyncReceive _ _ => none
  | .trespReceive _ _ => none
  | .timeStep => none
  | .holdoverExpire => none
  | .syncDisable _ => none
  | .faultWindowEnd (.port p) _ => some p
  | .faultWindowEnd (.tile _) _ => none
  | .faultWindowEnd (.strand _) _ => none
  | .faultWindowEnd .global _ => none
  | .quietExpire (.port p) => some p
  | .quietExpire (.tile _) => none
  | .quietExpire (.strand _) => none
  | .quietExpire .global => none
  | .reactionComplete (.port p) => some p
  | .reactionComplete (.tile _) => none
  | .reactionComplete (.strand _) => none
  | .reactionComplete .global => none
  | .shadowEnd (.port p) => some p
  | .shadowEnd (.tile _) => none
  | .shadowEnd (.strand _) => none
  | .shadowEnd .global => none
  | .fltAcknowledge _ _ _ => none
  | .fltReadmit _ _ _ => none
  | .tileIsolateCmd _ _ => none
  | .tileReadmitCmd _ _ => none
  | .injectionPeriodEnd (.port p) _ => some p
  | .injectionPeriodEnd (.tile _) _ => none
  | .injectionPeriodEnd (.strand _) _ => none
  | .injectionPeriodEnd .global _ => none
  | .homeStagingEcc _ _ => none
  | .lkopen port => some port
  | .lkstage port _ => some port
  | .lkstageAnswer => none
  | .lkcommit port => some port
  | .lkabort port => some port
  | .locketOpenTimeout _ => none
  | .locketPrepare _ => none
  | .lkvoteReceive => none
  | .voteDeadline _ => none
  | .lkdoneReceive => none
  | .locketResend _ => none
  | .decisionDeliver port => some port
  | .relayPrepare => none
  | .relayResolve _ _ _ => none
  | .doubtAbort => none
  | .strandEnable _ _ => none
  | .strandDisable _ _ => none
  | .sreset _ _ => none
  | .retrain _ _ => none
  | .detectBurst _ => none
  | .prsntFall _ => none
  | .detectSignal _ => none
  | .bitlockDone _ _ _ => none
  | .polarityDone _ _ => none
  | .lanemapDone _ _ => none
  | .deskewDone _ _ _ => none
  | .eqDwellEnd _ _ => none
  | .presetDone _ => none
  | .configHandshakeDone _ => none
  | .trainStageTimeout _ => none
  | .absentExpire _ => none
  | .markerReceive _ _ => none
  | .markerSend _ => none
  | .tsInActive _ => none
  | .lossOfSignal _ _ => none
  | .lossOfBlockLock _ _ => none
  | .fomUpdate _ _ => none
  | .fomFloor _ => none
  | .calSend _ => none
  | .refclkLoss _ _ => none
  | .laneGroupPowerup _ => none
  | .strandPwrReq _ _ _ => none
  | .strandWidthReq _ _ _ => none
  | .lctlReqReceive _ _ => none
  | .lctlAnswerReceive _ _ => none
  | .lctlTimeout _ => none
  | .standbyExit _ => none
  | .deepWake _ => none
  | .deepExitTimeout _ => none
  | .containerSend _ => none
  | .containerReceive _ _ _ => none
  | .replayTimeout _ => none
  | .ackcSend _ => none
  | .creditRefresh _ => none
  | .crcWindowEnd _ => none
  | .failoverDone _ => none
  | .helloSend _ => none
  | .helloReceive _ => none
  | .helloTimeout _ => none
  | .sequencerArrival _ _ _ => none
  | .seqHandoverRelease _ _ => none
  | .seqGapSkip _ _ => none
  | .e2ackSend _ => none
  | .e2ackReceive => none
  | .ssyncReceive => none
  | .ssyncAckReceive => none
  | .rootSettle => none
  | .topoReceive => none
  | .enumReceive => none
  | .enumAckReceive => none
  | .routeReceive => none
  | .activateReceive => none
  | .pushCheckDone => none
  | .sampleTimeout _ => none
  | .samplerClear _ _ => none
  | .registerRead _ _ _ _ => none
  | .portPowerUpDone port => some port
  | .complexPllLocked _ => none
  | .tsOrTcbReceive _ _ => none
  | .vddKeepLoss => none

/-- A well-formed command names no empty slot. -/
def Statement (i : Instr) : Prop := i.wf = true → ∀ p, slot i = some p → usedPort p.val = true

theorem and_left {a b : Bool} (h : (a && b) = true) : a = true := by
  cases a
  · cases h
  · rfl

theorem powerOn (a0) (a1) (a2) : Statement (.powerOn a0 a1 a2) := fun _ _ h => by cases h
theorem warmReset : Statement .warmReset := fun _ _ h => by cases h
theorem resetRelease : Statement .resetRelease := fun _ _ h => by cases h
theorem fabCmdLoad (a0) : Statement (.fabCmdLoad a0) := fun _ _ h => by cases h
theorem fabCmdAbort (a0) : Statement (.fabCmdAbort a0) := fun _ _ h => by cases h
theorem fabCmdRestore (a0) : Statement (.fabCmdRestore a0) := fun _ _ h => by cases h
theorem drainToHold (a0) : Statement (.drainToHold a0) := fun _ _ h => by cases h
theorem drainToKeep (a0) : Statement (.drainToKeep a0) := fun _ _ h => by cases h
theorem sealWrite (a0) (a1) : Statement (.sealWrite a0 a1) := fun _ _ h => by cases h
theorem configurationCheckerDone : Statement .configurationCheckerDone := fun _ _ h => by cases h
theorem loadTimeout : Statement .loadTimeout := fun _ _ h => by cases h
theorem pfWarnFall : Statement .pfWarnFall := fun _ _ h => by cases h
theorem pfWarnRise : Statement .pfWarnRise := fun _ _ h => by cases h
theorem rpllLoss : Statement .rpllLoss := fun _ _ h => by cases h
theorem drainFinal : Statement .drainFinal := fun _ _ h => by cases h
theorem restoreReloadDone (a0) : Statement (.restoreReloadDone a0) := fun _ _ h => by cases h
theorem gtHoldClear : Statement .gtHoldClear := fun _ _ h => by cases h
theorem keepsakeLost : Statement .keepsakeLost := fun _ _ h => by cases h
theorem hmSubmitAtTime (a0) : Statement (.hmSubmitAtTime a0) := fun _ _ h => by cases h
theorem hmSubmitNextFrame (a0) : Statement (.hmSubmitNextFrame a0) := fun _ _ h => by cases h
theorem hmCancel (a0) (a1) : Statement (.hmCancel a0 a1) := fun _ _ h => by cases h
theorem hmSendToTiles (a0) : Statement (.hmSendToTiles a0) := fun _ _ h => by cases h
theorem epochSwitch : Statement .epochSwitch := fun _ _ h => by cases h
theorem beadSwap : Statement .beadSwap := fun _ _ h => by cases h
theorem cameo : Statement .cameo := fun _ _ h => by cases h
theorem freezeOn : Statement .freezeOn := fun _ _ h => by cases h
theorem freezeOff : Statement .freezeOff := fun _ _ h => by cases h
theorem portPowerHallmark (a0) : Statement (.portPowerHallmark a0) := fun _ _ h => by cases h
theorem modeChange : Statement .modeChange := fun _ _ h => by cases h
theorem faultInjection (a0) : Statement (.faultInjection a0) := fun _ _ h => by cases h
theorem claspApply : Statement .claspApply := fun _ _ h => by cases h
theorem epochDrainDone : Statement .epochDrainDone := fun _ _ h => by cases h
theorem epochDrainOverdue : Statement .epochDrainOverdue := fun _ _ h => by cases h
theorem plannerApply : Statement .plannerApply := fun _ _ h => by cases h
theorem plannerResubmit : Statement .plannerResubmit := fun _ _ h => by cases h
theorem claspOpen (a0) : Statement (.claspOpen a0) := fun _ _ h => by cases h
theorem claspClose (a0) : Statement (.claspClose a0) := fun _ _ h => by cases h
theorem claspStage (a0) (a1) : Statement (.claspStage a0 a1) := fun _ _ h => by cases h
theorem claspConfirm (a0) (a1) : Statement (.claspConfirm a0 a1) := fun _ _ h => by cases h
theorem claspCheckDone : Statement .claspCheckDone := fun _ _ h => by cases h
theorem claspArm (a0) (a1) : Statement (.claspArm a0 a1) := fun _ _ h => by cases h
theorem claspCancel (a0) : Statement (.claspCancel a0) := fun _ _ h => by cases h
theorem claspTimeout : Statement .claspTimeout := fun _ _ h => by cases h
theorem registerWrite (a0) (a1) (a2) (a3) (a4) : Statement (.registerWrite a0 a1 a2 a3 a4) := fun _ _ h => by cases h
theorem viewSelect (a0) (a1) (a2) (a3) : Statement (.viewSelect a0 a1 a2 a3) := fun _ _ h => by cases h
theorem expertEnable (a0) (a1) : Statement (.expertEnable a0 a1) := fun _ _ h => by cases h
theorem expertDisable (a0) (a1) : Statement (.expertDisable a0 a1) := fun _ _ h => by cases h
theorem accessTimeout (a0) (a1) (a2) (a3) (a4) : Statement (.accessTimeout a0 a1 a2 a3 a4) := fun _ _ h => by cases h
theorem counterLowRead (a0) (a1) : Statement (.counterLowRead a0 a1) := fun _ _ h => by cases h
theorem counterPreset (a0) (a1) (a2) (a3) : Statement (.counterPreset a0 a1 a2 a3) := fun _ _ h => by cases h
theorem faiOffer (a0) (a1) : Statement (.faiOffer a0 a1) := fun w p h => by
  cases h
  exact and_left w
theorem fabricHalfInject (a0) (a1) (a2) : Statement (.fabricHalfInject a0 a1 a2) := fun w p h => by
  cases h
  exact and_left w
theorem gtSlotInject (a0) (a1) (a2) : Statement (.gtSlotInject a0 a1 a2) := fun w p h => by
  cases h
  exact and_left w
theorem routerGrant (a0) (a1) (a2) (a3) : Statement (.routerGrant a0 a1 a2 a3) := fun _ _ h => by cases h
theorem trToTeMove (a0) (a1) (a2) (a3) : Statement (.trToTeMove a0 a1 a2 a3) := fun _ _ h => by cases h
theorem flitEject (a0) (a1) (a2) : Statement (.flitEject a0 a1 a2) := fun w p h => by
  cases h
  exact and_left w
theorem pairTimeout (a0) : Statement (.pairTimeout a0) := fun w p h => by
  cases h
  exact w
theorem ejectCreditReturn (a0) (a1) (a2) (a3) : Statement (.ejectCreditReturn a0 a1 a2 a3) := fun w p h => by
  cases h
  exact and_left w
theorem retryExpiry (a0) (a1) : Statement (.retryExpiry a0 a1) := fun w p h => by
  cases h
  exact w
theorem ghostEnd (a0) (a1) : Statement (.ghostEnd a0 a1) := fun w p h => by
  cases h
  exact w
theorem pingSend (a0) : Statement (.pingSend a0) := fun w p h => by
  cases h
  exact w
theorem peerDown (a0) : Statement (.peerDown a0) := fun w p h => by
  cases h
  exact w
theorem qreset (a0) (a1) : Statement (.qreset a0 a1) := fun w p h => by
  cases h
  exact w
theorem portActivate (a0) : Statement (.portActivate a0) := fun w p h => by
  cases h
  exact w
theorem fenceRequest (a0) (a1) : Statement (.fenceRequest a0 a1) := fun w p h => by
  cases h
  exact w
theorem fenceCancel (a0) (a1) : Statement (.fenceCancel a0 a1) := fun w p h => by
  cases h
  exact w
theorem fenceDrained (a0) : Statement (.fenceDrained a0) := fun w p h => by
  cases h
  exact w
theorem fenceStuck (a0) : Statement (.fenceStuck a0) := fun w p h => by
  cases h
  exact w
theorem pwrAck (a0) : Statement (.pwrAck a0) := fun w p h => by
  cases h
  exact w
theorem pwrNoack (a0) : Statement (.pwrNoack a0) := fun w p h => by
  cases h
  exact w
theorem tileWave : Statement .tileWave := fun _ _ h => by cases h
theorem crossingInit (a0) (a1) : Statement (.crossingInit a0 a1) := fun w p h => by
  cases h
  exact w
theorem crossingAliveMiss (a0) (a1) : Statement (.crossingAliveMiss a0 a1) := fun w p h => by
  cases h
  exact w
theorem crossingPeerRdyLow (a0) (a1) : Statement (.crossingPeerRdyLow a0 a1) := fun w p h => by
  cases h
  exact w
theorem crossingArm (a0) (a1) : Statement (.crossingArm a0 a1) := fun w p h => by
  cases h
  exact w
theorem crossingRun (a0) (a1) : Statement (.crossingRun a0 a1) := fun w p h => by
  cases h
  exact w
theorem timeStart : Statement .timeStart := fun _ _ h => by cases h
theorem timeRealign (a0) : Statement (.timeRealign a0) := fun _ _ h => by cases h
theorem tsyncSend (a0) : Statement (.tsyncSend a0) := fun _ _ h => by cases h
theorem treqReceive (a0) (a1) : Statement (.treqReceive a0 a1) := fun _ _ h => by cases h
theorem tsyncReceive (a0) (a1) : Statement (.tsyncReceive a0 a1) := fun _ _ h => by cases h
theorem trespReceive (a0) (a1) : Statement (.trespReceive a0 a1) := fun _ _ h => by cases h
theorem timeStep : Statement .timeStep := fun _ _ h => by cases h
theorem holdoverExpire : Statement .holdoverExpire := fun _ _ h => by cases h
theorem syncDisable (a0) : Statement (.syncDisable a0) := fun _ _ h => by cases h
theorem faultWindowEnd (a0) (a1) : Statement (.faultWindowEnd a0 a1) := fun w p h => by
  cases a0 with
  | port q => cases h; exact and_left w
  | tile _ => cases h
  | strand _ => cases h
  | global => cases h
theorem quietExpire (a0) : Statement (.quietExpire a0) := fun w p h => by
  cases a0 with
  | port q => cases h; exact and_left w
  | tile _ => cases h
  | strand _ => cases h
  | global => cases h
theorem reactionComplete (a0) : Statement (.reactionComplete a0) := fun w p h => by
  cases a0 with
  | port q => cases h; exact and_left w
  | tile _ => cases h
  | strand _ => cases h
  | global => cases h
theorem shadowEnd (a0) : Statement (.shadowEnd a0) := fun w p h => by
  cases a0 with
  | port q => cases h; exact and_left w
  | tile _ => cases h
  | strand _ => cases h
  | global => cases h
theorem fltAcknowledge (a0) (a1) (a2) : Statement (.fltAcknowledge a0 a1 a2) := fun _ _ h => by cases h
theorem fltReadmit (a0) (a1) (a2) : Statement (.fltReadmit a0 a1 a2) := fun _ _ h => by cases h
theorem tileIsolateCmd (a0) (a1) : Statement (.tileIsolateCmd a0 a1) := fun _ _ h => by cases h
theorem tileReadmitCmd (a0) (a1) : Statement (.tileReadmitCmd a0 a1) := fun _ _ h => by cases h
theorem injectionPeriodEnd (a0) (a1) : Statement (.injectionPeriodEnd a0 a1) := fun w p h => by
  cases a0 with
  | port q => cases h; exact and_left w
  | tile _ => cases h
  | strand _ => cases h
  | global => cases h
theorem homeStagingEcc (a0) (a1) : Statement (.homeStagingEcc a0 a1) := fun _ _ h => by cases h
theorem lkopen (a0) : Statement (.lkopen a0) := fun w p h => by
  cases h
  exact w
theorem lkstage (a0) (a1) : Statement (.lkstage a0 a1) := fun w p h => by
  cases h
  exact and_left w
theorem lkstageAnswer : Statement .lkstageAnswer := fun _ _ h => by cases h
theorem lkcommit (a0) : Statement (.lkcommit a0) := fun w p h => by
  cases h
  exact w
theorem lkabort (a0) : Statement (.lkabort a0) := fun w p h => by
  cases h
  exact w
theorem locketOpenTimeout (a0) : Statement (.locketOpenTimeout a0) := fun _ _ h => by cases h
theorem locketPrepare (a0) : Statement (.locketPrepare a0) := fun _ _ h => by cases h
theorem lkvoteReceive : Statement .lkvoteReceive := fun _ _ h => by cases h
theorem voteDeadline (a0) : Statement (.voteDeadline a0) := fun _ _ h => by cases h
theorem lkdoneReceive : Statement .lkdoneReceive := fun _ _ h => by cases h
theorem locketResend (a0) : Statement (.locketResend a0) := fun _ _ h => by cases h
theorem decisionDeliver (a0) : Statement (.decisionDeliver a0) := fun w p h => by
  cases h
  exact w
theorem relayPrepare : Statement .relayPrepare := fun _ _ h => by cases h
theorem relayResolve (a0) (a1) (a2) : Statement (.relayResolve a0 a1 a2) := fun _ _ h => by cases h
theorem doubtAbort : Statement .doubtAbort := fun _ _ h => by cases h
theorem strandEnable (a0) (a1) : Statement (.strandEnable a0 a1) := fun _ _ h => by cases h
theorem strandDisable (a0) (a1) : Statement (.strandDisable a0 a1) := fun _ _ h => by cases h
theorem sreset (a0) (a1) : Statement (.sreset a0 a1) := fun _ _ h => by cases h
theorem retrain (a0) (a1) : Statement (.retrain a0 a1) := fun _ _ h => by cases h
theorem detectBurst (a0) : Statement (.detectBurst a0) := fun _ _ h => by cases h
theorem prsntFall (a0) : Statement (.prsntFall a0) := fun _ _ h => by cases h
theorem detectSignal (a0) : Statement (.detectSignal a0) := fun _ _ h => by cases h
theorem bitlockDone (a0) (a1) (a2) : Statement (.bitlockDone a0 a1 a2) := fun _ _ h => by cases h
theorem polarityDone (a0) (a1) : Statement (.polarityDone a0 a1) := fun _ _ h => by cases h
theorem lanemapDone (a0) (a1) : Statement (.lanemapDone a0 a1) := fun _ _ h => by cases h
theorem deskewDone (a0) (a1) (a2) : Statement (.deskewDone a0 a1 a2) := fun _ _ h => by cases h
theorem eqDwellEnd (a0) (a1) : Statement (.eqDwellEnd a0 a1) := fun _ _ h => by cases h
theorem presetDone (a0) : Statement (.presetDone a0) := fun _ _ h => by cases h
theorem configHandshakeDone (a0) : Statement (.configHandshakeDone a0) := fun _ _ h => by cases h
theorem trainStageTimeout (a0) : Statement (.trainStageTimeout a0) := fun _ _ h => by cases h
theorem absentExpire (a0) : Statement (.absentExpire a0) := fun _ _ h => by cases h
theorem markerReceive (a0) (a1) : Statement (.markerReceive a0 a1) := fun _ _ h => by cases h
theorem markerSend (a0) : Statement (.markerSend a0) := fun _ _ h => by cases h
theorem tsInActive (a0) : Statement (.tsInActive a0) := fun _ _ h => by cases h
theorem lossOfSignal (a0) (a1) : Statement (.lossOfSignal a0 a1) := fun _ _ h => by cases h
theorem lossOfBlockLock (a0) (a1) : Statement (.lossOfBlockLock a0 a1) := fun _ _ h => by cases h
theorem fomUpdate (a0) (a1) : Statement (.fomUpdate a0 a1) := fun _ _ h => by cases h
theorem fomFloor (a0) : Statement (.fomFloor a0) := fun _ _ h => by cases h
theorem calSend (a0) : Statement (.calSend a0) := fun _ _ h => by cases h
theorem refclkLoss (a0) (a1) : Statement (.refclkLoss a0 a1) := fun _ _ h => by cases h
theorem laneGroupPowerup (a0) : Statement (.laneGroupPowerup a0) := fun _ _ h => by cases h
theorem strandPwrReq (a0) (a1) (a2) : Statement (.strandPwrReq a0 a1 a2) := fun _ _ h => by cases h
theorem strandWidthReq (a0) (a1) (a2) : Statement (.strandWidthReq a0 a1 a2) := fun _ _ h => by cases h
theorem lctlReqReceive (a0) (a1) : Statement (.lctlReqReceive a0 a1) := fun _ _ h => by cases h
theorem lctlAnswerReceive (a0) (a1) : Statement (.lctlAnswerReceive a0 a1) := fun _ _ h => by cases h
theorem lctlTimeout (a0) : Statement (.lctlTimeout a0) := fun _ _ h => by cases h
theorem standbyExit (a0) : Statement (.standbyExit a0) := fun _ _ h => by cases h
theorem deepWake (a0) : Statement (.deepWake a0) := fun _ _ h => by cases h
theorem deepExitTimeout (a0) : Statement (.deepExitTimeout a0) := fun _ _ h => by cases h
theorem containerSend (a0) : Statement (.containerSend a0) := fun _ _ h => by cases h
theorem containerReceive (a0) (a1) (a2) : Statement (.containerReceive a0 a1 a2) := fun _ _ h => by cases h
theorem replayTimeout (a0) : Statement (.replayTimeout a0) := fun _ _ h => by cases h
theorem ackcSend (a0) : Statement (.ackcSend a0) := fun _ _ h => by cases h
theorem creditRefresh (a0) : Statement (.creditRefresh a0) := fun _ _ h => by cases h
theorem crcWindowEnd (a0) : Statement (.crcWindowEnd a0) := fun _ _ h => by cases h
theorem failoverDone (a0) : Statement (.failoverDone a0) := fun _ _ h => by cases h
theorem helloSend (a0) : Statement (.helloSend a0) := fun _ _ h => by cases h
theorem helloReceive (a0) : Statement (.helloReceive a0) := fun _ _ h => by cases h
theorem helloTimeout (a0) : Statement (.helloTimeout a0) := fun _ _ h => by cases h
theorem sequencerArrival (a0) (a1) (a2) : Statement (.sequencerArrival a0 a1 a2) := fun _ _ h => by cases h
theorem seqHandoverRelease (a0) (a1) : Statement (.seqHandoverRelease a0 a1) := fun _ _ h => by cases h
theorem seqGapSkip (a0) (a1) : Statement (.seqGapSkip a0 a1) := fun _ _ h => by cases h
theorem e2ackSend (a0) : Statement (.e2ackSend a0) := fun _ _ h => by cases h
theorem e2ackReceive : Statement .e2ackReceive := fun _ _ h => by cases h
theorem ssyncReceive : Statement .ssyncReceive := fun _ _ h => by cases h
theorem ssyncAckReceive : Statement .ssyncAckReceive := fun _ _ h => by cases h
theorem rootSettle : Statement .rootSettle := fun _ _ h => by cases h
theorem topoReceive : Statement .topoReceive := fun _ _ h => by cases h
theorem enumReceive : Statement .enumReceive := fun _ _ h => by cases h
theorem enumAckReceive : Statement .enumAckReceive := fun _ _ h => by cases h
theorem routeReceive : Statement .routeReceive := fun _ _ h => by cases h
theorem activateReceive : Statement .activateReceive := fun _ _ h => by cases h
theorem pushCheckDone : Statement .pushCheckDone := fun _ _ h => by cases h
theorem sampleTimeout (a0) : Statement (.sampleTimeout a0) := fun _ _ h => by cases h
theorem samplerClear (a0) (a1) : Statement (.samplerClear a0 a1) := fun _ _ h => by cases h
theorem registerRead (a0) (a1) (a2) (a3) : Statement (.registerRead a0 a1 a2 a3) := fun _ _ h => by cases h
theorem portPowerUpDone (a0) : Statement (.portPowerUpDone a0) := fun w p h => by
  cases h
  exact w
theorem complexPllLocked (a0) : Statement (.complexPllLocked a0) := fun _ _ h => by cases h
theorem tsOrTcbReceive (a0) (a1) : Statement (.tsOrTcbReceive a0 a1) := fun _ _ h => by cases h
theorem vddKeepLoss : Statement .vddKeepLoss := fun _ _ h => by cases h

end Sys2Proof.Laws.WellFormedOperands
end

