-- ==== Sys2Proof/Tests/Slice0.lean ====
section
/-! SUPPORT. Tests: an ill-formed term for each check of WellFormed, the spec's worked values, and for every statement that has
hypotheses a concrete state and operands that meet them, clause by clause. -/

-- One test after the other: elaborated side by side, they open more threads than the check's memory limit has stacks for.
set_option Elab.async false

namespace Sys2Proof.Tests

open Sys2Proof Sys2Proof.Machine

/-! ### Small states -/

/-- The state after reset, in mode m. -/
def inMode (m : Mode) : State := { State.reset with ms := { State.reset.ms with mode := m, why := .none } }

/-- The state after reset, but for one port, one strand, one locket, one relay. -/
def onPort (p : Fin 96) (x : PortSt) (s : State := inMode .run) : State := { s with ports := s.ports.set p x }
def onPhy (n : Fin 10) (x : PhySt) (s : State := inMode .run) : State := { s with strands := s.strands.set n { s.strands[n] with phy := x } }
def onLnk (n : Fin 10) (l : LinkSt) (s : State := inMode .run) : State := { s with strands := s.strands.set n { s.strands[n] with lnk := l } }
def onCoord (l : Fin 64) (c : Coord) (s : State := inMode .run) : State := { s with lock := { s.lock with coords := s.lock.coords.set l c } }
def onRelay (e : Fin 64) (r : Relay) (s : State := inMode .run) : State := { s with lock := { s.lock with relays := s.lock.relays.set e r } }

/-! ### Ill-formed commands, one for each check -/

theorem test_ill_empty_slot : Instr.wf (.faiOffer 19 { net := .req }) = false := by decide +kernel
theorem test_ill_foreign_field : Instr.wf (.faiOffer 1 { net := .rsp, lmask := 1 }) = false := by decide +kernel
theorem test_ill_transit : Instr.wf (.faiOffer 1 { net := .dat, transit := true, xf := true }) = false := by decide +kernel
theorem test_ill_size : Instr.wf (.registerWrite .mgt 0x40 3 0 .clean) = false := by decide +kernel
theorem test_ill_read_size : Instr.wf (.registerRead .mgt 0x40 0 .clean) = false := by decide +kernel
theorem test_ill_flip : Instr.wf (.flitEject 1 .rsp [96]) = false := by decide +kernel
theorem test_ill_flip_twice : Instr.wf (.flitEject 1 .rsp [5, 5]) = false := by decide +kernel
theorem test_ill_link_errors : Instr.wf (.routerGrant 0 .req 0 [⟨.e, [], false⟩, ⟨.e, [3], false⟩]) = false := by decide +kernel
theorem test_ill_domain : Instr.wf (.quietExpire (.port 19)) = false ∧ Instr.wf (.quietExpire (.port (strandP 0))) = false := by decide +kernel
theorem test_ill_segments : Instr.wf (.restoreReloadDone [3, 3]) = false := by decide +kernel
theorem test_ill_credits : Instr.wf (.ejectCreditReturn 1 .req .ll 0) = false := by decide +kernel
theorem test_ill_lanes : Instr.wf (.lanemapDone 0 [(3, 0, 0), (3, 1, 1)]) = false ∧ Instr.wf (.bitlockDone 0 [⟨1, [], []⟩, ⟨1, [], []⟩] (.replicate 8 0)) = false ∧
    Instr.wf (.polarityDone 0 [(7, 0, 0), (7, 0, 0)]) = false ∧ Instr.wf (.deskewDone 0 [(2, 0), (2, 5)] (.replicate 8 0)) = false := by decide +kernel
theorem test_ill_eyes : Instr.wf (.fomUpdate 0 (List.replicate 9 (0, 0))) = false ∧ Instr.wf (.eqDwellEnd 0 (List.replicate 9 (0, 0))) = false := by
  decide +kernel
theorem test_ill_levels : Instr.wf (.markerReceive 0 (.lanes 0 [(0, [2])])) = false ∧ Instr.wf (.containerReceive 8 (.lanes 0 [(0, [4])]) false) = false ∧
    Instr.wf (.markerReceive 8 (.lanes 0 [(0, [3]), (0, [1])])) = false := by decide +kernel
theorem test_ill_steps : Instr.wf (.homeStagingEcc 0 16) = false := by decide +kernel
theorem test_ill_drift : Instr.wf (.timeRealign [(3, 1), (3, 2)]) = false := by decide +kernel

/-- No row of the table gives bits, so no word spells a command. -/
theorem test_no_word : decodeTableWord 32 0x12345678 = none := rfl

/-! ### The spec's worked values -/

/-- 03_packets, the local line: header 0x5E_1933_9A70_7030. -/
theorem test_local_dat_header :
    packFlit { net := .dat, dst := 47, src := 6, cls := .ll, vc := 1, qos := 9, epoch := true, tag := 0x9A7, opc := 1, lidx := 3, srcdev := 3 }
      = 0x5E19339A707030 * 2 ^ 512 := by decide +kernel

/-- 03_packets, the transit header of the LIDX 3 line: 0xAA_3288_41F0_7847. -/
theorem test_transit_dat_header :
    packFlit { net := .dat, dst := 85, srcdev := 3, cls := .be, vc := 4, qos := 4, e2seq := 0x41F2, opc := 1, lidx := 3, xf := true, transit := true, dstdev := 7 }
      = 0xAA328841F07847 * 2 ^ 512 := by decide +kernel

/-- 02_register_pages: PG_ID of PORT and PORT_CNT of HAP5 and of TILE of tile 23. -/
theorem test_pg_id : [0x35E000, 0x35F000, 0x1B8000].map (fun o => (pageOf o).map (pgId State.reset)) =
    [some 0x202F0001, some 0x212F0001, some 0x10170001] := by decide +kernel

/-- 04_routing, tile 19 lost: the plan entries of tiles 18 and 10 for target 5, and their places. -/
theorem test_plan_entries : planTile 19 18 5 = 0x25 ∧ planTile 19 10 5 = 0x33 ∧
    rtrPage 18 .req + 0xC40 + 4 * 5 = 0x191C54 ∧ rtrPage 10 .req + 0xC40 + 4 * 5 = 0x151C54 := by decide +kernel

/-- 06_beads, flow 17: its injection entry reads 0x00F0_0111 and its places in the views. -/
theorem test_bead_entries : beadValid 0xF00111 = true ∧ beadFlow 0xF00111 = 17 ∧ beadDst 0xF00111 = 15 ∧ beadDev 0xF00111 = 0 ∧
    beadPage 31 + 0xC40 + 4 * 3 = 0x1FDC4C ∧ beadPage 7 + 0xC40 + 4 * 8 = 0x13DC60 := by decide +kernel

/-- 09_lockets: LK_TABLE entry 12 at 20,031,400. -/
def lk12 : State := onCoord 12 { state := .committed, port := 48, lines := 7, remote := 0x220, locs := 0x0808, votesR := 0x220, votesL := 0x0808, t := 20041000 }
theorem test_lk_table : [0, 1, 2, 3].map (fun k => (pageOf 0x4DC0).map fun pg => readWord lk12 .mgt pg (0xDC0 + 8 * k)) =
    [some 0x70184, some 0x22000000808, some 0x22000000808, some 0x131CD28] := by decide +kernel

/-- 10_strand_lanes: figures of merit of the sweep. -/
theorem test_fom : [(20, 9), (31, 3), (36, 0), (39, 0), (38, 0), (35, 1), (30, 2), (24, 5)].map (fun x => fomOf x.1 x.2) =
    [79, 383, 591, 639, 623, 511, 367, 207] := by decide +kernel

/-- 10_strand_lanes: what SL2 reads after its training. -/
def sl2 : State := onPhy 2 { stage := .active, width := 0, trainedW := 0, reversed := true, polInv := 0x20, laneGood := 0xFF, slow := 6, skew := 31
                             rxRow := 3, appRow := 2, swept := true, groups := 2, rows := ⟨3, 639, true, 2⟩ }
theorem test_phy_words : phyStatWord sl2 2 = 0x00200808 ∧ phySkewWord sl2 2 = 0x00FF0C1F ∧ eqStatWord sl2 2 = 0x0067FB23 := by decide +kernel

/-- 11_strand_links, the pushed table of device A: its entries for B, C and D. -/
def nodes : List PoolNode := [⟨0, [], [(0, 1), (1, 2), (8, 5)]⟩, ⟨1, [0], [(0, 0), (1, 5)]⟩, ⟨2, [1], [(0, 0), (1, 5)]⟩, ⟨5, [8], [(0, 1), (1, 2), (8, 0)]⟩]
theorem test_pushed_table : [0, 2, 5].map (fun d => routeWord (routeEntry nodes ⟨1, [0], [(0, 0), (1, 5)]⟩ d)) =
    [0x01011010, 0x01023010, 0x01013001] := by decide +kernel

/-- 11_strand_links, the address map: 0x7_0012_3440 lies in channel 10 of device 7, DST 85. -/
theorem test_address_map :
    amLookup { State.reset with tbls := [(tblKey 0x5000 0xC40 0 0, 0xCEF0000007C00010)] } 0x700123440 = some (85, 7) := by decide +kernel

/-- 15_faults: TILE_STAT of tile 19. -/
def tile19 : State :=
  { inMode .run with
    tiles := (inMode .run).tiles.set 19 { isolated := true, waved := true }
    flt := { (inMode .run).flt with tiles := (inMode .run).flt.tiles.set 19 { st := .faulted } } }
theorem test_tile_stat : (pageOf 0x198800).map (fun pg => statusWord tile19 pg 0x800) = some 0x705 := by decide +kernel

/-- R20: the 26 empty slots. -/
theorem test_empty_slots : (List.range 96).filter (fun p => !usedPort p) =
    [19, 21, 23, 25, 27, 29, 35, 37, 39, 41, 43, 44, 45, 50, 51, 53, 55, 57, 59, 61, 67, 69, 71, 73, 75, 77] := by decide +kernel

/-- 16_performance_monitoring: the record of the sampled read. -/
def sampled : State := { inMode .run with clk := { cyc := 1015 } }
theorem test_sample_record :
    smpRecord sampled (1000, 5120000000, 0) { net := .req, dst := 3, src := 48, cls := .ll, qos := 6, epoch := true, tag := 0x813, opc := 1, addr := 0x123400 }
      5 false false = ⟨0x1312D0000, 0x5810000000123400, 0x00050813001001B0, 0x000000000001000F⟩ := by decide +kernel

/-- 16_performance_monitoring: the CARRIED count of the utilisation example in host 2's window, live and cameo. -/
theorem test_mirror_places : [0x7640, 0x19640].map (fun o => (mirrorWord o).map fun x => (x.1, x.2.2.1, x.2.2.2)) =
    [some (0, 0x18E840, false), some (0, 0x18E840, true)] ∧ (pageOf 0xA07640).map (inPage · 0xA07640) = some 0x7640 := by decide +kernel

/-- 13_modes: LOCAL time starts at 9,893,312,320 after the restore. -/
theorem test_restore_time : restoreTime { State.reset with ks := { ftime := 9876535100 } } = 9893312320 := by decide +kernel

/-- 14_protection: the bytes of the three records, and the frame boundary of a set armed at 3,000,200,000. -/
theorem test_clasp_records :
    [recordWord 0x1A1040 4 1, recordWord 0x1A5040 4 0x3F003F2F, recordWord 0x7040 8 1] =
      [0x1041A1040, 0x3F003F2F041A5040, 0x108007040] := by decide +kernel
def at3e9 : State := { inMode .run with clk := { ftime := 3000200000 * 65536 }, time := { state := .loc } }
theorem test_clasp_launch : hmLaunchTime at3e9 9 false none = 3000202048 := by decide +kernel

/-! ### Witnesses: states and operands that meet the hypotheses of each statement -/

/-- Fabric time counts in LOCAL, from 3,000,000,000 ns. -/
def timed (m : Mode := .run) : State := { inMode m with clk := { ftime := 3000000000 * 65536 }, time := { state := .loc } }
/-- A launch in the global queue, entry 3, and in tile 1's queue, entry 2, at 3,000,002,000 ns. -/
def onGq (e : HmEntry) (s : State := timed) : State := { s with hm := { s.hm with gq := s.hm.gq.set 3 (some e) } }
def onTq (e : HmEntry) (s : State := timed) : State := { s with hm := { s.hm with tq := s.hm.tq.set 1 ((s.hm.tq[1]).set 2 (some e)) } }
def launchAt (act : Nat) : HmEntry := { act := act, time := 3000002000, sent := true }
def withReg (off : Nat) (v : Word) (s : State := inMode .run) : State := { s with regs := [(off, v)] }
def kept : KeepSt := { valid := true, auto := true, build := 1, written := true }
def withKept (k : KeepSt) (m : Mode := .hold) : State := { inMode m with ks := k }
def withMs (f : ModeSt → ModeSt) (s : State := inMode .run) : State := { s with ms := f s.ms }
def withPool (f : PoolSt → PoolSt) (s : State := inMode .run) : State := { s with pool := f s.pool }
def withClasp (c : ClaspSt) (s : State := inMode .run) : State := { s with clasp := c }

theorem test_witness_EmptySlotsFault : usedPort (19 : Fin 96).val = false ∧ usedPort (77 : Fin 96).val = false := by decide +kernel
theorem test_witness_StepIdles : (timed).pending = [] ∧ (timed).time.state ≠ .unsynced ∧ (timed).clk.rpll = true := by decide +kernel
theorem test_witness_WellFormedCompletes : Instr.wf (.registerRead .host0 0x40 8 .clean) = true := by decide +kernel
theorem test_witness_QueuesRunSafely : QueueWf { State.reset with pending := [.warmReset, .resetRelease] } := by unfold QueueWf; decide +kernel
theorem test_witness_StoresStayCanonical : ∃ s t, StoresWf s ∧ step s = .next t ∧ s.regs ≠ [] :=
  ⟨withReg 0x58 7, _, by unfold StoresWf; decide +kernel, rfl, by decide +kernel⟩
theorem test_witness_IdentityAndClock : ∃ t, step (timed) = .next t := ⟨_, rfl⟩

/-- A state for every row of the decision, for the pin's rise and for the command. -/
theorem test_witness_PowerOnDecision :
    (∃ s : State, s.ks.valid = true ∧ s.ks.lost = false ∧ s.ks.auto = true ∧ s.ks.straps = { test := false, confHost0 := false } ∧
      ¬((s.ks.incomplete = true ∧ fld 0 0 (spGet (regReset 0x58) s.ks.image.regs 0x58) = 0) ∨
        (s.ks.attempts = fld 11 8 (spGet (regReset 0x58) s.ks.image.regs 0x58) ∧ fld 11 8 (spGet (regReset 0x58) s.ks.image.regs 0x58) ≠ 0))) ∧
    (∃ s : State, s.ms.mode = .hold ∧ s.ms.why = .power ∧ s.ms.heldReset = none ∧ s.ks.valid = true) ∧
    (∃ s : State, s.ms.mode = .hold ∧ MatrixOpen s ∧ (s.ks.valid = false ∨ s.ks.lost = true) ∧ StoresWf s) ∧
    (∃ s : State, s.ms.mode = .hold ∧ MatrixOpen s ∧ ¬(s.ks.valid = false ∨ s.ks.lost = true ∨ s.straps.test = true ∨ s.pins.pfWarnLow = true)) :=
  ⟨⟨withKept kept, by decide +kernel⟩, ⟨withMs (fun m => { m with why := .power }) (withKept kept), by decide +kernel⟩,
    ⟨State.reset, by unfold MatrixOpen NoneWithheld StoresWf; decide +kernel⟩, ⟨withKept kept, by unfold MatrixOpen NoneWithheld; decide +kernel⟩⟩

theorem test_witness_WarmResetAndRelease :
    (∃ s : State, s.ms.mode ≠ .drain ∧ s.ms.mode ≠ .keep ∧ s.ms.heldReset ≠ some .c) ∧ (∃ s : State, s.ms.mode = .drain) ∧
    (∃ s : State, s.ms.mode = .keep) ∧ (∃ s : State, s.ms.heldReset = some .c) ∧ (∃ s : State, s.ms.heldReset = some .f) :=
  ⟨⟨inMode .run, by decide +kernel⟩, ⟨inMode .drain, rfl⟩, ⟨inMode .keep, rfl⟩, ⟨withMs fun m => { m with heldReset := some .c }, rfl⟩,
    ⟨withMs fun m => { m with heldReset := some .f }, rfl⟩⟩

theorem test_witness_LoadAndSeal :
    (∃ s : State, s.ms.mode = .hold ∧ s.ms.heldReset = none ∧ s.ms.checking = none) ∧
    (∃ s : State, s.ms.mode = .load ∧ s.ms.heldReset = none ∧ s.ms.checking = none ∧ s.clasp.state ≠ .idle) ∧
    (∃ (s : State) (crc : BitVec 32), s.ms.mode = .load ∧ s.ms.heldReset = none ∧ s.ms.checking = none ∧ s.clasp.state = .idle ∧ crc ≠ runCrc s) ∧
    (∃ (s : State) (crc : BitVec 32), s.ms.mode = .load ∧ s.ms.heldReset = none ∧ s.ms.checking = none ∧ s.clasp.state = .idle ∧ crc = runCrc s) ∧
    (∃ s : State, s.ms.mode = .load ∧ s.ms.loadEnd = some 5) :=
  ⟨⟨State.reset, by decide +kernel⟩, ⟨withClasp { state := .staging } (inMode .load), by decide +kernel⟩, ⟨inMode .load, 1, by decide +kernel⟩,
    ⟨inMode .load, 0, by decide +kernel⟩, ⟨withMs (fun m => { m with loadEnd := some 5 }) (inMode .load), by decide +kernel⟩⟩

def collided (w : ChkFor) : State := withPool (fun p => { p with disc := .collide }) (withMs (fun m => { m with checking := some w }) (inMode .hold))
theorem test_witness_CheckerVerdict :
    (∃ s : State, s.ms.checking = some .seal ∧ checkConfig (begin s) = some (.devid, 0x6800)) ∧
    (∃ s : State, s.ms.checking = some .seal ∧ checkConfig (begin s) = none) ∧ (∃ s : State, s.ms.checking = some .test ∧ checkConfig (begin s) = none) ∧
    (∃ s : State, s.ms.checking = some .restore ∧ checkConfig (begin s) = none) :=
  ⟨⟨collided .seal, by decide +kernel⟩, ⟨withMs fun m => { m with checking := some .seal }, by decide +kernel⟩,
    ⟨withMs fun m => { m with checking := some .test }, by decide +kernel⟩, ⟨withMs fun m => { m with checking := some .restore }, by decide +kernel⟩⟩

theorem test_witness_DrainEntry :
    (∃ s : State, s.ms.heldReset = none ∧ s.ms.mode = .run ∧ s.ms.checking ≠ some .seal) ∧ (∃ s : State, s.ms.heldReset = none ∧ s.ms.mode = .degraded) :=
  ⟨⟨inMode .run, by decide +kernel⟩, ⟨inMode .degraded, by decide +kernel⟩⟩

theorem test_witness_DrainEnds :
    (∃ s : State, s.ms.mode = .drain ∧ s.ms.drainShort = true) ∧ (∃ s : State, s.ms.mode = .drain ∧ s.ms.drainShort = false ∧ s.ms.drainKeep = true) ∧
    (∃ s : State, s.ms.mode = .drain ∧ s.ms.drainShort = false ∧ s.ms.drainKeep = false) :=
  ⟨⟨withMs (fun m => { m with drainShort := true }) (inMode .drain), by decide +kernel⟩,
    ⟨withMs (fun m => { m with drainKeep := true }) (inMode .drain), by decide +kernel⟩, ⟨inMode .drain, by decide +kernel⟩⟩

theorem test_witness_RestoreSteps :
    (∃ s : State, s.ms.mode = .hold ∧ s.ms.heldReset = none ∧ s.ms.checking = none ∧ s.ks.valid = true ∧ s.ks.lost = false ∧ s.straps.test = false ∧
      s.pins.pfWarnLow = false) ∧
    (∃ s : State, s.ms.mode = .restore ∧ s.ms.checking = none ∧ s.ks.lost = false ∧ s.ks.build = s.ident.build) ∧
    (∃ (s : State) (bad : List (Fin 59)), bad ≠ [] ∧ s.ms.mode = .restore ∧ s.ms.checking = none) ∧ (∃ s : State, s.ms.gtHold = true) :=
  ⟨⟨withKept kept, by decide +kernel⟩, ⟨withKept kept .restore, by decide +kernel⟩, ⟨withKept kept .restore, [58], by decide +kernel⟩,
    ⟨withMs fun m => { m with gtHold := true }, rfl⟩⟩

theorem test_witness_PinsAndKeepsake :
    (∃ s : State, s.ms.mode ≠ .hold) ∧ (∃ s : State, s.ms.mode = .hold ∧ s.ms.why ≠ .power) ∧
    (∃ s : State, s.ms.mode = .hold ∧ s.ms.why = .power ∧ s.ms.heldReset = none ∧ s.ks.valid = false) :=
  ⟨⟨inMode .run, by decide +kernel⟩, ⟨State.reset, by decide +kernel⟩, ⟨withMs (fun m => { m with why := .power }) (inMode .hold), by decide +kernel⟩⟩

/-- HM_ACT names a cameo, a port power change, an action whose argument is out of range. -/
theorem test_witness_HallmarkSubmit :
    let judged := fun (s : State) => let a := regGet s 0x1048
      (hmJudge s .software (fld 7 0 a) (fld 15 8 a) (fld 23 16 a) false (hmLaunchTime s (fld 7 0 a) false none), tileAction (fld 7 0 a))
    (∃ s, Settled s ∧ StoresWf s ∧ judged s = (1, false)) ∧
    (∃ s, Settled s ∧ StoresWf s ∧ judged s = (1, true) ∧ s.tiles[tileF (actTile 6 1)].isolated = false) ∧
    (∃ s, Settled s ∧ StoresWf s ∧ judged s = (6, false)) :=
  ⟨⟨withReg 0x1048 3 timed, by unfold Settled MatrixOpen NoneWithheld StoresWf; decide +kernel⟩,
    ⟨withReg 0x1048 0x106 timed, by unfold Settled MatrixOpen NoneWithheld StoresWf; decide +kernel⟩,
    ⟨withReg 0x1048 0x103 timed, by unfold Settled MatrixOpen NoneWithheld StoresWf; decide +kernel⟩⟩

theorem test_witness_HallmarkCancelAndSend :
    (∃ (s : State) (e : HmEntry), Settled s ∧ StoresWf s ∧ hmEntryOf s 3 = some e ∧ e.owner ≠ .clasp ∧ e.sent = false ∧ ftimeNs s + 1000 < e.time) ∧
    (∃ (s : State) (e : HmEntry), Settled s ∧ StoresWf s ∧ hmEntryOf s 3 = some e ∧ e.time = ftimeNs s + 1000) ∧
    (∃ s : State, Settled s ∧ StoresWf s ∧ hmEntryOf s 511 = none) ∧
    (∃ (s : State) (e : HmEntry), s.hm.gq[(3 : Fin 32)] = some e ∧ e.sent = false ∧ TimeReaches s (e.time - 1000)) :=
  ⟨⟨onGq { act := 3, time := 3000001001 }, { act := 3, time := 3000001001 }, by unfold Settled MatrixOpen NoneWithheld StoresWf; decide +kernel⟩,
    ⟨onGq { act := 3, time := 3000001000 }, { act := 3, time := 3000001000 }, by unfold Settled MatrixOpen NoneWithheld StoresWf; decide +kernel⟩,
    ⟨timed, by unfold Settled MatrixOpen NoneWithheld StoresWf; decide +kernel⟩,
    ⟨onGq { act := 3, time := 3000002000 }, { act := 3, time := 3000002000 }, by unfold TimeReaches; decide +kernel⟩⟩

/-- An entry waits for action act, fabric time counts, and the mode lets it launch. -/
def ready (s : State) (act : Nat) : Bool := (nextGlobal s act).isSome && timeRuns s && actModeOk act s.ms.mode
theorem test_ready {s : State} {act : Nat} (h : ready s act = true) :
    ∃ id e, nextGlobal s act = some (id, e) ∧ timeRuns s = true ∧ actModeOk act s.ms.mode = true := by
  unfold ready at h
  simp only [Bool.and_eq_true, Option.isSome_iff_exists] at h
  obtain ⟨⟨⟨x, hx⟩, h2⟩, h3⟩ := h
  exact ⟨x.1, x.2, hx, h2, h3⟩

/-- An epoch switch of the planner that returns, and one of software, in RUN; one in TEST. -/
theorem test_witness_EpochSwitchLaunch :
    (∃ s : State, ready s 1 = true ∧ s.epoch.planReturn = true ∧ isRunning s.ms.mode = true ∧ (nextGlobal s 1).map (·.2.owner) = some .planner) ∧
    (∃ s : State, ready s 1 = true ∧ isRunning s.ms.mode = true ∧ (nextGlobal s 1).map (·.2.owner) = some .software) ∧
    (∃ s : State, ready s 1 = true ∧ isRunning s.ms.mode = false) :=
  ⟨⟨{ onGq { launchAt 1 with owner := .planner } with epoch := { planReturn := true } }, by decide +kernel⟩, ⟨onGq (launchAt 1), by decide +kernel⟩,
    ⟨onGq (launchAt 1) (timed .test), by decide +kernel⟩⟩

theorem test_witness_GlobalLaunches : ∀ act ∈ [2, 3, 4, 5], ∃ s : State, ready s act = true := by
  intro act h
  simp only [List.mem_cons, List.not_mem_nil, or_false] at h
  rcases h with rfl | rfl | rfl | rfl
  · exact ⟨onGq (launchAt 2), by decide +kernel⟩
  · exact ⟨onGq (launchAt 3), by decide +kernel⟩
  · exact ⟨onGq (launchAt 4), by decide +kernel⟩
  · exact ⟨onGq (launchAt 5), by decide +kernel⟩

/-- A power change of a fenced port and of an active one; a mode change to DEGRADED and to RUN; a STALL and an empty injection. -/
theorem test_witness_TargetedLaunches :
    let go := fun (s : State) (act : Nat) => timeRuns s = true ∧ actModeOk act s.ms.mode = true
    (∃ (s : State) (e : HmEntry), nextTile s 1 6 = some (42, e) ∧ go s 6 ∧ s.ports[portF e.target].st = .fenced ∧ e.arg ≠ 0) ∧
    (∃ (s : State) (e : HmEntry), nextTile s 1 6 = some (42, e) ∧ go s 6 ∧ s.ports[portF e.target].st = .fenced ∧ e.arg = 0 ∧ s.ports[portF e.target].pwr ≠ 2) ∧
    (∃ (s : State) (e : HmEntry), nextTile s 1 6 = some (42, e) ∧ go s 6 ∧ s.ports[portF e.target].st ≠ .fenced) ∧
    (∃ s : State, ready s 7 = true ∧ (nextGlobal s 7).map (·.2.arg) = some 1) ∧
    (∃ s : State, ready s 7 = true ∧ (nextGlobal s 7).map (·.2.arg) = some 0 ∧ mustDegrade s = false) ∧
    (∃ (s : State) (e : HmEntry), nextTile s 1 8 = some (42, e) ∧ go s 8 ∧ e.arg = 63 ∧
      (injGet s e.arg).testBit 63 = true ∧ nbits 62 60 (injGet s e.arg) = 4 ∧ nbits 49 43 (injGet s e.arg) = 1 ∧ usedPort (2 * 1 + 1) = true) ∧
    (∃ (s : State) (e : HmEntry), nextTile s 8 8 = some (98, e) ∧ go s 8 ∧ e.arg = 0 ∧
      (injGet s e.arg).testBit 63 = true ∧ nbits 62 60 (injGet s e.arg) = 1 ∧ slotStrand 8 (nbits 49 43 (injGet s e.arg)) = some 1) ∧
    (∃ (s : State) (e : HmEntry), nextTile s 1 8 = some (42, e) ∧ go s 8 ∧ e.arg = 64) ∧
    (∃ (s : State) (e : HmEntry), nextTile s 1 8 = some (42, e) ∧ go s 8 ∧ (injGet s e.arg).testBit 63 = false) :=
  ⟨⟨onTq { launchAt 6 with target := 3, arg := 2 } (onPort 3 { st := .fenced } timed), { launchAt 6 with target := 3, arg := 2 }, by decide +kernel⟩,
    ⟨onTq { launchAt 6 with target := 3 } (onPort 3 { st := .fenced, pwr := 1 } timed), { launchAt 6 with target := 3 }, by decide +kernel⟩,
    ⟨onTq { launchAt 6 with target := 3 }, { launchAt 6 with target := 3 }, by decide +kernel⟩,
    ⟨onGq { launchAt 7 with arg := 1 }, by decide +kernel⟩, ⟨onGq (launchAt 7) (timed .degraded), by decide +kernel⟩,
    ⟨{ onTq { launchAt 8 with target := 1, arg := 63 } (timed .test) with tbls := [(tblKey 0x3000 0xE38 0 0, 0xC000080000000050)] },
      { launchAt 8 with target := 1, arg := 63 }, by decide +kernel⟩,
    ⟨{ timed .test with hm := { gq := Vector.replicate 32 none, tq := (timed).hm.tq.set 8 (((timed).hm.tq[8]).set 2 (some { launchAt 8 with target := 8 })) }
                        tbls := [(tblKey 0x3000 0xC40 0 0, 0x9000080000000050)] }, { launchAt 8 with target := 8 }, by decide +kernel⟩,
    ⟨onTq { launchAt 8 with target := 1, arg := 64 } (timed .test), { launchAt 8 with target := 1, arg := 64 }, by decide +kernel⟩,
    ⟨onTq { launchAt 8 with target := 1 } (timed .test), { launchAt 8 with target := 1 }, by decide +kernel⟩⟩

def oldFlit : BufFlit := { flit := { net := .req, dst := 3, epoch := true } }
theorem test_witness_EpochDrain :
    (∃ s : State, s.epoch.switch = .draining ∧ oldGone s = true ∧ s.epoch.overdue = false ∧ ∀ p : Fin 96, s.ports[p].ejq = []) ∧
    (∃ s : State, s.epoch.switch = .draining ∧ oldGone s = false) :=
  ⟨⟨{ inMode .run with epoch := { switch := .draining } }, by decide +kernel⟩,
    ⟨{ inMode .run with epoch := { switch := .draining }, rtr := { vcs := [(1, [oldFlit])] } }, by decide +kernel⟩⟩

theorem test_witness_PlannerCommands :
    (∃ s : State, isRunning s.ms.mode = true ∧ s.planner.suspended = false ∧ planBlocked s = false ∧ s.planner.job = some (.detour (.tile 19))) ∧
    (∃ s : State, isRunning s.ms.mode = true ∧ s.planner.suspended = false ∧ planBlocked s = false ∧ s.planner.job = some .back) ∧
    (∃ s : State, isRunning s.ms.mode = true ∧ s.planner.suspended = false ∧ s.planner.unqueued = true) :=
  ⟨⟨{ inMode .run with planner := { job := some (.detour (.tile 19)) } }, by decide +kernel⟩, ⟨{ inMode .run with planner := { job := some .back } }, by decide +kernel⟩,
    ⟨{ inMode .run with planner := { unqueued := true } }, by decide +kernel⟩⟩

theorem test_witness_CalmFrame : ∃ i s t, calmCommand i = true ∧ exec i s = .next t := ⟨.crossingInit 1 .unit, inMode .run, _, rfl, rfl⟩
theorem test_witness_QuietFrame : ∃ i s t, quietCommand i = true ∧ calmCommand i = false ∧ exec i s = .next t := ⟨.cameo, inMode .run, _, rfl, rfl, rfl⟩
/-- CLASP_ADDR names FAB_RESUME, 8 bytes; a hole. -/
def claspAt (c : ClaspSt) (w : Word := 0x08000058) : State := { withReg 0x2048 w with clasp := c }
def aStaged : Staged := ⟨0x58, 8, 1, 0, true⟩
theorem test_witness_ClaspStaging :
    (∃ s : State, MatrixOpen s ∧ s.ms.mode ≠ .drain ∧ s.clasp.state ≠ .staging) ∧
    (∃ s : State, MatrixOpen s ∧ s.ms.mode ≠ .drain ∧ s.clasp.state = .staging ∧ 256 ≤ s.clasp.recs.length) ∧
    (∃ s : State, MatrixOpen s ∧ s.ms.mode ≠ .drain ∧ s.clasp.state = .staging ∧ s.clasp.recs.length < 256 ∧
      claspAddrBad s (fld 23 0 (regGet s 0x2048)) (fld 27 24 (regGet s 0x2048)) = true) ∧
    (∃ s : State, MatrixOpen s ∧ s.ms.mode ≠ .drain ∧ s.clasp.state = .staging ∧ s.clasp.recs.length = 255 ∧
      claspAddrBad s (fld 23 0 (regGet s 0x2048)) (fld 27 24 (regGet s 0x2048)) = false ∧ pageOf (fld 23 0 (regGet s 0x2048)) = some ⟨.global, 0, 0⟩) ∧
    (∃ (s : State) (m : Master) (d : BitVec 32), MatrixOpen s ∧ s.ms.mode ≠ .drain ∧ m = confirmer s ∧ s.ms.mode ≠ .load ∧ s.clasp.state = .closed ∧
      d.toNat = claspDigest s) :=
  ⟨⟨inMode .run, by unfold MatrixOpen NoneWithheld; decide +kernel⟩,
    ⟨claspAt { state := .staging, recs := List.replicate 256 aStaged }, by unfold MatrixOpen NoneWithheld; decide +kernel⟩,
    ⟨claspAt { state := .staging } 0x08200000, by unfold MatrixOpen NoneWithheld; decide +kernel⟩,
    ⟨claspAt { state := .staging, recs := List.replicate 255 aStaged }, by unfold MatrixOpen NoneWithheld; decide +kernel⟩,
    ⟨claspAt { state := .closed }, .sec, 0, by unfold MatrixOpen NoneWithheld; decide +kernel⟩⟩

/-- A set under check: without a finding, with one, with a locked bank; confirmed, armed and sent, closed; at its launch. -/
def armed (e : HmEntry) (l : List Staged) : State := { onGq { e with owner := .clasp } with clasp := { state := .armed, recs := l } }
theorem test_witness_ClaspEnds :
    let go := fun (s : State) => ready s 9 = true ∧ s.clasp.state = .armed
    let left := fun (s : State) => claspBankLocked { s with hm := (hmRemove 3 s).hm }
    let may := fun (s : State) => s.ms.mode ∉ [Mode.keep, .drain, .load] ∧ s.ms.heldReset = none ∧ s.ms.checking ≠ some .seal ∧ s.withheld = [] ∧
      claspHolds s 0x2060 = false ∧ s.clasp.state ≠ .idle
    (∃ s : State, s.clasp.state = .checking ∧ claspBankLocked s = true) ∧
    (∃ s : State, s.clasp.state = .checking ∧ claspBankLocked s = false ∧ checkConfig (settled { s with out := [] }) = none) ∧
    (∃ s : State, s.clasp.state = .checking ∧ claspBankLocked s = false ∧ checkConfig (settled { s with out := [] }) = some (.devid, 0x6800)) ∧
    (∃ s : State, Settled s ∧ s.clasp.state = .confirmed ∧ hmJudge s .clasp 9 0 0 false (hmLaunchTime s 9 false none) = 1) ∧
    (∃ s : State, Settled s ∧ s.clasp.state = .confirmed ∧ hmJudge s .clasp 9 0 0 false (hmLaunchTime s 9 false (some 1)) ≠ 1) ∧
    (∃ s : State, may s ∧ s.clasp.state ≠ .armed) ∧
    (∃ (s : State) (e : HmEntry), may s ∧ s.clasp.state = .armed ∧ claspEntry s = some (3, e) ∧ cancellable s e = true) ∧
    (∃ (s : State) (e : HmEntry), may s ∧ s.clasp.state = .armed ∧ claspEntry s = some (3, e) ∧ cancellable s e = false ∧ e.sent = true) ∧
    (∃ s : State, s.clasp.state = .closed) ∧
    (∃ s : State, go s ∧ s.withheld = [] ∧ left s = true) ∧
    (∃ s : State, go s ∧ s.withheld = [] ∧ left s = false ∧ claspStale s = true) ∧
    (∃ s : State, go s ∧ s.withheld = [] ∧ left s = false ∧ claspStale s = false ∧ s.clasp.recs.filter isFabCmd = [] ∧ s.clasp.recs = [aStaged]) ∧
    (∃ (s : State) (a : Access), go s ∧ s.withheld = [a] ∧ a.wr = true ∧ claspStale s = true) ∧
    (∃ s : State, s.ms.mode ≠ .keep ∧ s.ms.heldReset = none ∧ claspHolds s 0x58 = true) :=
  ⟨⟨withClasp { state := .checking, recs := [⟨0x6C40, 8, 0, 0, false⟩] }, by decide +kernel⟩, ⟨withClasp { state := .checking, recs := [aStaged] }, by decide +kernel⟩,
    ⟨withClasp { state := .checking } (collided .test), by decide +kernel⟩, ⟨withClasp { state := .confirmed } timed, by unfold Settled MatrixOpen NoneWithheld; decide +kernel⟩,
    ⟨withClasp { state := .confirmed } timed, by unfold Settled MatrixOpen NoneWithheld; decide +kernel⟩, ⟨withClasp { state := .closed }, by decide +kernel⟩,
    ⟨armed { launchAt 9 with sent := false } [], { launchAt 9 with sent := false, owner := .clasp }, by decide +kernel⟩,
    ⟨armed (launchAt 9) [aStaged], { launchAt 9 with owner := .clasp }, by decide +kernel⟩, ⟨withClasp { state := .closed }, rfl⟩,
    ⟨armed (launchAt 9) [⟨0x6C40, 8, 0, 0, false⟩], by decide +kernel⟩, ⟨{ armed (launchAt 9) [aStaged] with changes := [(0, 1)] }, by decide +kernel⟩,
    ⟨armed (launchAt 9) [aStaged], by decide +kernel⟩,
    ⟨{ armed (launchAt 9) [aStaged] with changes := [(0, 1)], withheld := [⟨.mgt, 0x58, 8, true, 1, .clean⟩] }, ⟨.mgt, 0x58, 8, true, 1, .clean⟩, by decide +kernel⟩,
    ⟨armed (launchAt 9) [aStaged], by decide +kernel⟩⟩

def timePage : Page := ⟨.time, 0, 0x1000⟩
def mir0 : Page := ⟨.mirror, 0, 0x800000⟩
def lkPage : Page := ⟨.locket, 0, 0x4000⟩
def cnt1 : Page := ⟨.portCnt, 1, 0x303000⟩
theorem test_witness_RegisterWrites :
    (∃ s : State, StoresWf s ∧ MatrixOpen s ∧ s.ms.mode ≠ .drain ∧ pageOf 0x1048 = some timePage ∧ mayWrite s .mgt timePage 0x48 = true ∧
      answers s timePage 0x48 = true ∧ regionOf 0x48 = .basic ∧ actingReg timePage 0x48 = false ∧ timePage.base + 0x48 = 0x1048 ∧ regWidth timePage 0x48 = 8) ∧
    (∃ s : State, StoresWf s ∧ MatrixOpen s ∧ s.ms.mode ≠ .drain ∧ s.ms.mode ≠ .load ∧ pageOf 0x1048 = some timePage ∧ mayWrite s .host1 timePage 0x48 = false ∧ sizeOk 0x1048 8 = true ∧
      accessParts timePage 0x1048 8 = [(0x1048, 8)]) ∧
    (∃ s : State, StoresWf s ∧ MatrixOpen s ∧ s.ms.mode ≠ .drain ∧ s.ms.mode ≠ .load ∧ pageOf 0x801000 = some mir0 ∧ mayWrite s .host0 mir0 0x1000 = false ∧
      regionOf 0x1000 = .mirror ∧ sizeOk 0x801000 4 = true ∧ accessParts mir0 0x801000 4 = [(0x801000, 4)]) ∧
    (∃ s : State, StoresWf s ∧ MatrixOpen s ∧ s.ms.mode ≠ .drain ∧ s.ms.mode ≠ .load ∧ pageOf 0x4810 = some lkPage ∧ counterAt lkPage 0x810 = some 0x4810 ∧
      regionOf 0x810 = .status ∧ viewSel s .mgt lkPage.base < 0xFE ∧ answers s lkPage 0x810 = true ∧ sizeOk 0x4810 8 = true ∧
      accessParts lkPage 0x4810 8 = [(0x4810, 8)]) ∧
    (∃ s : State, StoresWf s ∧ MatrixOpen s ∧ s.ms.mode ≠ .drain ∧ s.ms.mode ≠ .load ∧ pageOf 0x303800 = some cnt1 ∧ counterAt cnt1 0x800 = some 0x303800 ∧
      regionOf 0x800 = .status ∧ viewSel s .mgt cnt1.base < 0xFE ∧ answers s cnt1 0x800 = true ∧ sizeOk 0x303800 4 = true ∧
      accessParts cnt1 0x303800 4 = [(0x303800, 4)]) ∧
    (∃ s : State, counterAt cnt1 0x804 = some 0x303800 ∧ sizeOk 0x303804 4 = true ∧ answers s cnt1 0x800 = true ∧ viewSel s .mgt cnt1.base = 0 ∧
      spGet (0, 0) s.cnt.wrLatch (latchKey .mgt cnt1.base) = (0x303800, 5)) :=
  ⟨⟨inMode .run, by unfold StoresWf MatrixOpen NoneWithheld; decide +kernel⟩, ⟨inMode .run, by unfold StoresWf MatrixOpen NoneWithheld; decide +kernel⟩,
    ⟨inMode .run, by unfold StoresWf MatrixOpen NoneWithheld; decide +kernel⟩, ⟨inMode .run, by unfold StoresWf MatrixOpen NoneWithheld; decide +kernel⟩,
    ⟨inMode .run, by unfold StoresWf MatrixOpen NoneWithheld; decide +kernel⟩,
    ⟨{ inMode .run with cnt := { wrLatch := [(latchKey .mgt 0x303000, (0x303800, 5))] } }, by decide +kernel⟩⟩

theorem test_witness_RegisterReads :
    (∃ s : State, s.ms.mode ≠ .keep ∧ s.ms.heldReset = none ∧ NoneWithheld s ∧ pageOf 0x1048 = some timePage ∧ mayRead s .host1 timePage 0x48 = true ∧
      counterAt timePage 0x48 = none ∧ sizeOk 0x1048 8 = true ∧ accessParts timePage 0x1048 8 = [(0x1048, 8)]) ∧
    (∃ s : State, s.ms.mode ≠ .keep ∧ s.ms.heldReset = none ∧ NoneWithheld s ∧ pageOf 0x303800 = some cnt1 ∧ mayRead s .host1 cnt1 0x800 = true ∧
      counterAt cnt1 0x800 = some 0x303800 ∧ cnt1.kind ≠ .mirror ∧ isViol 0x303800 = false ∧ 0x303800 ≠ toOff ∧ viewSel s .host1 cnt1.base < 0xFE ∧
      dark s cnt1 = false ∧ s.cnt.frozen = false ∧ StoresWf s) :=
  ⟨⟨inMode .run, by unfold NoneWithheld; decide +kernel⟩, ⟨inMode .run, by unfold NoneWithheld StoresWf; decide +kernel⟩⟩

theorem test_witness_ViewsAndExpert :
    (∃ s : State, MatrixOpen s ∧ pageOf 0x1000 = some timePage ∧ mayReadPage s .host1 timePage = true) ∧
    (∃ s : State, MatrixOpen s ∧ StoresWf s ∧ mayExpert s .mgt timePage = true ∧ expertEn s timePage.base = false) ∧
    (∃ s : State, MatrixOpen s ∧ StoresWf s ∧ mayExpert s .mgt timePage = true ∧ expertEn s timePage.base = true) :=
  ⟨⟨inMode .run, by unfold MatrixOpen NoneWithheld; decide +kernel⟩, ⟨inMode .run, by unfold StoresWf MatrixOpen NoneWithheld; decide +kernel⟩,
    ⟨withReg 0x1010 1, by unfold StoresWf MatrixOpen NoneWithheld; decide +kernel⟩⟩

theorem test_witness_Samplers :
    (∃ s : State, Settled s ∧ StoresWf s) ∧ (∃ s : State, s.samps[(3 : Fin 4)].flight = some (7, 0, 0)) :=
  ⟨⟨inMode .run, by unfold Settled MatrixOpen NoneWithheld StoresWf; decide +kernel⟩, ⟨updSamp 3 (fun x => { x with flight := some (7, 0, 0) }) (inMode .run), by decide +kernel⟩⟩

theorem test_witness_Violations :
    (∃ s : State, StoresWf s ∧ MatrixOpen s ∧ pageOf 0x280000 = none ∧ sizeOk 0x280000 8 = true) ∧
    (∃ s : State, StoresWf s ∧ MatrixOpen s ∧ pageOf 0x801000 = some mir0 ∧ mayRead s .host1 mir0 0x1000 = false ∧ sizeOk 0x801000 8 = true ∧
      accessParts mir0 0x801000 8 = [(0x801000, 8)]) ∧
    (∃ s : State, StoresWf s ∧ MatrixOpen s ∧ s.ms.mode ≠ .drain ∧ s.ms.mode ≠ .load ∧ mayWrite s .host1 timePage 0x48 = false) ∧
    (∃ s : State, StoresWf s ∧ MatrixOpen s ∧ s.ms.mode = .load ∧ s.ms.mode ≠ .drain) ∧
    (∃ (s : State) (m : Master), StoresWf s ∧ MatrixOpen s ∧ s.ms.mode ≠ .drain ∧ m ≠ .mgt ∧ m ≠ .pfc ∧ m ≠ confirmer s ∧ usedPort (95 : Fin 96).val = true) :=
  ⟨⟨inMode .run, by unfold StoresWf MatrixOpen NoneWithheld; decide +kernel⟩, ⟨inMode .run, by unfold StoresWf MatrixOpen NoneWithheld; decide +kernel⟩,
    ⟨inMode .run, by unfold StoresWf MatrixOpen NoneWithheld; decide +kernel⟩, ⟨inMode .load, by unfold StoresWf MatrixOpen NoneWithheld; decide +kernel⟩,
    ⟨inMode .run, .host3, by unfold StoresWf MatrixOpen NoneWithheld; decide +kernel⟩⟩
/-! HAP0 is port 32, HOME0 port 1, HOME1 port 3, MAP0 port 0, strand 0 port 16. -/

def live : PortSt := { st := .active, rstN := true, xf := { st := .run }, xu := { st := .run }, injCrd := [(1, 4), (5, 4), (9, 4), (10, 4)], ejCrd := [(1, 4), (5, 4)] }
def mapped (s : State) : State := { s with tbls := [(tblKey 0x5000 0xC40 0 0, 0x8000000FFFC00000)] }
def rd : Flit := { net := .req, opc := 1, lmask := 1, addr := 0x100 }
def snp (far : Bool) : Flit := { net := .snp, opc := 1, cls := .ll, dst := 95, dstdev := if far then 7 else 0 }
def wr : OEntry := { req := { net := .req, opc := 8, lmask := 3, tag := 5, src := 32, dst := 1 }, reqIn := true }
def line : Flit := { net := .dat, opc := 1, tag := 5, dst := 1, lidx := 1 }
theorem test_witness_Offers :
    let x := fun (s : State) => s.ports[(32 : Fin 96)]
    let comes := fun (s : State) (f : Flit) => (x s).xu.st = .run ∧ spGet 0 (x s).injCrd (qKey f.net f.cls) ≠ 0 ∧ isStrandPort 32 = false ∧ f.transit = false
    let fine := fun (s : State) (f : Flit) => comes s f ∧ isPingAnswer s 32 f = false ∧ malformed (ownDev s) 32 f = false
    let asks := fun (s : State) (f : Flit) => fine s f ∧ f.net = .req ∧ isFwd f = false ∧ drainRefuses s 32 f = false
    (∃ s : State, usedPort 32 = true ∧ (x s).xu.st ≠ .run) ∧ (∃ s : State, (x s).xu.st = .run ∧ spGet 0 (x s).injCrd (qKey .req .ll) = 0) ∧
    (∃ s : State, isStrandPort 16 = true ∧ s.ports[(16 : Fin 96)].xu.st = .run ∧ spGet 0 s.ports[(16 : Fin 96)].injCrd (qKey .req .ll) ≠ 0) ∧
    (∃ s f, comes s f ∧ isPingAnswer s 32 f = true) ∧
    (∃ s f, comes s f ∧ isPingAnswer s 32 f = false ∧ f.net = .req ∧ malformed (ownDev s) 32 f = true ∧ isFwd f = false ∧ ejCredit s 32 .rsp (noGt f.cls) ≠ 0) ∧
    (∃ s f, s.ports[(1 : Fin 96)].xu.st = .run ∧ spGet 0 s.ports[(1 : Fin 96)].injCrd (qKey f.net f.cls) ≠ 0 ∧ isPingAnswer s 1 f = false ∧
      malformed (ownDev s) 1 f = false ∧ f.net = .snp ∧ f.dst = 95 ∧ f.dstdev ≠ ownDev s) ∧
    (∃ s f, fine s f ∧ f.net = .rsp ∧ f.dst = 95 ∧ f.dstdev = ownDev s) ∧
    (∀ o ∈ [opLKOPEN, opLKCOMMIT, opLKABORT], ∃ s f, asks s f ∧ f.opc.toNat = o ∧ f.dst.toNat ≤ 95) ∧
    (∃ s f, asks s f ∧ memAddressed f.opc.toNat = true ∧ f.opc.toNat ≠ opLKSTAGE ∧ amLookup s f.addr.toNat = none) ∧
    (∃ s f, asks s f ∧ memAddressed f.opc.toNat = true ∧ f.opc.toNat ≠ opLKSTAGE ∧ amLookup s f.addr.toNat = some (1, (ownDev s).toNat) ∧
      freeOpen (x s) = some 0) ∧
    (∃ s f e, fine s f ∧ f.dst.toNat ≤ 95 ∧ f.net = .dat ∧ f.msk = false ∧ (x s).rspOpen = [] ∧ openWrite (x s) f = some (255, e) ∧ e.req.dst = f.dst ∧
      e.req.dstdev = f.dstdev ∧ e.req.xf = false) := by
  refine ⟨⟨inMode .run, by decide +kernel⟩, ⟨onPort 32 { live with injCrd := [] }, by decide +kernel⟩, ⟨onPort 16 live, by decide +kernel⟩,
    ⟨onPort 32 { live with pingOut := some 7 }, { net := .rsp, opc := 1, dst := 32, tag := 7 }, by decide +kernel⟩,
    ⟨onPort 32 live, { net := .req, opc := 0x3F }, by decide +kernel⟩,
    ⟨onPort 1 live, snp true, by decide +kernel⟩, ⟨onPort 32 live, { net := .rsp, opc := 0x10, dst := 95 }, by decide +kernel⟩, fun o h => ?_,
    ⟨onPort 32 live, rd, by decide +kernel⟩, ⟨mapped (onPort 32 live), rd, by decide +kernel⟩,
    ⟨onPort 32 { live with opens := [(255, wr)], injCrd := [(13, 1)] }, line, wr, by decide +kernel⟩⟩
  exact ⟨onPort 32 live, { net := .req, opc := BitVec.ofNat 6 o, dst := 32 }, by revert o; decide +kernel⟩

def waved (k : Fin 48) (s : State := inMode .run) : State := { s with tiles := s.tiles.set k { waved := true } }
/-- The flow of 06_beads: HAP6 to HOME7, slot 3. -/
def flow17 : QFlit := { flit := { net := .req, dst := 15, cls := .gt, opc := 1 }, flow := some 17 }
def hap6 : State := { onPort 62 { st := .active, gtq := [(17, [flow17])] } (waved 31) with tbls := [(beadInjKey 62 .req false 3, 0xF00111)] }
def queued32 (c : Nat) : State := onPort 32 { st := .active, injq := [(1, [{ flit := { rd with dst := 1, vc := 1 } }])], llCnt := [(0, c)] } (waved 16)
def headGo (s : State) (c : Cls) : Bool := match (spGet [] s.ports[(32 : Fin 96)].injq (qKey .req c)).head? with | some q => canGo s 32 q | none => false
theorem test_witness_Injections :
    (∃ s : State, isStrandPort 16 = true ∧ ∀ j, j < 96 → seqMap s j = []) ∧
    (∃ s : State, usedPort (62 : Fin 96).val = true ∧ halfRuns s 62 = true ∧ isStrandPort 62 = false ∧
      (∀ e ∈ s.ports[(62 : Fin 96)].gtq, e.1 / 256 = netNum .req → ∀ q ∈ e.2, flowOf s 62 .req q.flit.dst.toNat q.flit.dstdev.toNat = q.flow) ∧
      slotFlow (runSlot (halfKey 62 .req) 3 s) 62 .req (slotNow (runSlot (halfKey 62 .req) 3 s)) = some 17 ∧
      spGet [] s.ports[(62 : Fin 96)].gtq (gKey .req 17) = [flow17] ∧ canGo (runSlot (halfKey 62 .req) 3 s) 62 flow17 = true ∧
      (vcGet (runSlot (halfKey 62 .req) 3 s) (rKey (pTile 62).val .req (lIn 62) 0)).length < 4) ∧
    (∃ s : State, halfRuns s 32 = true ∧ s.ports[(32 : Fin 96)].gtq = [] ∧ gtWaiting (runSlot (halfKey 32 .req) 127 s) 32 .req = none ∧
      spGet [] s.ports[(32 : Fin 96)].injq (reKey .req) = [] ∧ keyWf (fun _ => []) 0 s.ports[(32 : Fin 96)].injq = true ∧
      injClass s.ports[(32 : Fin 96)] .req (headGo (runSlot (halfKey 32 .req) 127 s)) = none) ∧
    (∃ s : State, halfRuns s 32 = true ∧ s.ports[(32 : Fin 96)].gtq = [] ∧ gtWaiting (runSlot (halfKey 32 .req) 0 s) 32 .req = none ∧
      spGet [] s.ports[(32 : Fin 96)].injq (reKey .req) = [] ∧ keyWf (fun _ => []) 0 s.ports[(32 : Fin 96)].injq = true ∧
      injClass s.ports[(32 : Fin 96)] .req (headGo (runSlot (halfKey 32 .req) 0 s)) = some .ll ∧ spGet [] s.ports[(32 : Fin 96)].injq (qKey .req .ll) ≠ [] ∧
      (vcGet (runSlot (halfKey 32 .req) 0 s) (rKey (pTile 32).val .req (lIn 32) 1)).length < 4) :=
  ⟨⟨inMode .run, by decide +kernel⟩, ⟨hap6, by decide +kernel⟩, ⟨onPort 32 { st := .active } (waved 16), by decide +kernel⟩, ⟨queued32 3, by decide +kernel⟩⟩

/-- At tile 0, input L0: a REQ for HOME1 (tile 1), one for HOME0 (port 1), one of TR. -/
def atL0 (dst : BitVec 7) (vc : BitVec 3) : BufFlit := { flit := { net := .req, opc := 1, dst := dst, vc := vc } }
def router0 (b : BufFlit) : State :=
  let k := rKey 0 .req 4 b.flit.vc.toNat
  { waved 0 with rtr := { vcs := [(k, [b])], credits := [(k, 3)] } }
def theHead (b : BufFlit) (dest : RPort) : Head := ⟨4, b.flit.vc.toNat, b, .out dest false⟩
theorem test_witness_RouterMoves :
    (∃ s : State, routerRuns s 0 = false) ∧
    (∃ (s : State) (h : Head) (rest : List BufFlit) (ku : Nat),
      routerRuns s 0 = true ∧ s.flt.injs = [] ∧ heads (runSlot 0 0 s) 0 .req = [h] ∧ vcGet (runSlot 0 0 s) (rKey 0 .req h.inp h.vc) = h.b :: rest ∧
      h.dest = .out .e false ∧ h.vc ≠ 0 ∧ h.b.flit.cls ≠ .gt ∧ hasCredit (runSlot 0 0 s) 0 .req .e h.b.flit false = true ∧
      beadValid (beadOut (runSlot 0 0 s) 0 .req (rpNum .e) s.epoch.beadActive (slotNow (runSlot 0 0 s))) = false ∧
      creditKey 0 .req h.inp h.vc = some ku ∧ s.tiles[(0 : Fin 48)].isolated = false ∧ s.tiles[tileF (ku / 224)].isolated = false ∧ crdGet (runSlot 0 0 s) ku < 4 ∧
      neighbour 0 .e = some 1 ∧ (vcGet (popHead (rKey 0 .req h.inp h.vc) (runSlot 0 0 s)) (rKey 1 .req (rpNum (opposite .e)) (nextVc h.b.flit.vc false).toNat)).length < 4) ∧
    (∃ (s : State) (h : Head), heads (runSlot 0 0 s) 0 .req = [h] ∧ h.dest = .out .l1 false ∧ hasCredit (runSlot 0 0 s) 0 .req .l1 h.b.flit false = true ∧
      routerRuns s 0 = true ∧ isStrandPort 1 = false ∧ portF (2 * 0 + (rpNum .l1 - 4)) = 1 ∧ s.flt.injs = []) ∧
    (∃ (s : State) (b : BufFlit), routerRuns s 0 = true ∧ vcGet s (rKey 0 .req 6 4) = [b] ∧ b.flit.vc = vcTR) :=
  ⟨⟨inMode .run, by decide +kernel⟩, ⟨router0 (atL0 3 1), theHead (atL0 3 1) .e, [], rKey 0 .req 4 1, by decide +kernel⟩,
    ⟨onPort 1 live (router0 (atL0 1 1)), theHead (atL0 1 1) .l1, by decide +kernel⟩, ⟨{ router0 (atL0 3 4) with rtr := { vcs := [(rKey 0 .req 6 4, [atL0 3 4])] } }, atL0 3 4, by decide +kernel⟩⟩

/-- An ejection queue with one packet; an open entry of HAP0 whose read went in. -/
def ejecting (p : Fin 96) (x : PortSt) (n : Nat) (f : Flit) : State := onPort p { x with ejq := [(n, [{ flit := f }])] }
def anEntry : OEntry := { req := { rd with tag := 5, dst := 1 }, reqIn := true, retryAt := some 9 }
def rspTo : Flit := { net := .rsp, opc := 1, tag := 5, dst := 32 }
theorem test_witness_Ejections :
    (∃ (s : State) (b : BufFlit), spGet [] s.ports[(32 : Fin 96)].ejq (netNum .snp) = [b] ∧ b.flips = [] ∧ b.mark = none ∧ b.flit.net = .snp ∧
      isStrandPort 32 = false ∧ portEn s.ports[(32 : Fin 96)] = true) ∧
    (∃ (s : State) (b : BufFlit), spGet [] s.ports[(1 : Fin 96)].ejq (netNum .req) = [b] ∧ b.flips = [] ∧ b.mark = none ∧ b.flit.net = .req ∧
      s.ports[(1 : Fin 96)].st = .active ∧ b.flit.xf = false ∧ b.flit.opc.toNat ≠ opLKSTAGE ∧ b.flit.opc.toNat ≠ opLKCOMMIT ∧ b.flit.opc.toNat ≠ opLKABORT) ∧
    (∃ (s : State) (b : BufFlit), spGet [] s.ports[(1 : Fin 96)].ejq (netNum .req) = [b] ∧ s.ports[(1 : Fin 96)].st = .fencing ∧ b.flit.xf = false ∧
      b.flit.opc.toNat ≠ opBABANDON ∧ b.flit.srcdev = ownDev s ∧ compCount b.flit = 0 ∧ portEn s.ports[(1 : Fin 96)] = true) ∧
    (∃ (s : State) (b : BufFlit), spGet [] s.ports[(32 : Fin 96)].ejq (netNum .rsp) = [b] ∧ (32 : Fin 96) ≠ locketPort s ∧ b.flit.xf = false ∧
      genOk s 32 b.flit.tag = false ∧ portEn s.ports[(32 : Fin 96)] = true) ∧
    (∃ (s : State) (b : BufFlit) (e : OEntry), spGet [] s.ports[(32 : Fin 96)].ejq (netNum .rsp) = [b] ∧ (32 : Fin 96) ≠ locketPort s ∧ b.flit.xf = false ∧
      genOk s 32 b.flit.tag = true ∧ b.flit.opc.toNat ≠ rspSNPRSP ∧ isFinalRsp b.flit = true ∧ compMask b.flit = 0 ∧
      entryFor s.ports[(32 : Fin 96)] b.flit.tag = some (7, e) ∧ e.ghostAt = none ∧ e.reissued = false ∧ e.req.opc.toNat ≠ opLKSTAGE) ∧
    (∃ (s : State) (b : BufFlit), spGet [] s.ports[(16 : Fin 96)].ejq (netNum .req) = [b] ∧ b.flips = [] ∧ b.mark = none ∧ b.flit.net = .req ∧
      strandOf 16 = some 0 ∧ portEn s.ports[(16 : Fin 96)] = true ∧ s.strands[(0 : Fin 10)].lnk.link = .up) ∧
    (∃ s : State, s.ports[(32 : Fin 96)].pairDat = [({ net := .dat }, 4)]) ∧
    (∃ s : State, portEn s.ports[(32 : Fin 96)] = true ∧ s.ports[(32 : Fin 96)].toUnit = [] ∧ keyWf (fun _ => 0) 0 s.ports[(32 : Fin 96)].ejCrd = true ∧
      ejCredit s 32 .rsp .ll + 59 = 63) :=
  ⟨⟨ejecting 32 live 2 { net := .snp, opc := 1 }, { flit := { net := .snp, opc := 1 } }, by decide +kernel⟩, ⟨ejecting 1 live 0 rd, { flit := rd }, by decide +kernel⟩,
    ⟨ejecting 1 { live with st := .fencing } 0 rd, { flit := rd }, by decide +kernel⟩, ⟨ejecting 32 { live with gen := 1 } 1 rspTo, { flit := rspTo }, by decide +kernel⟩,
    ⟨ejecting 32 { live with opens := [(7, anEntry)] } 1 rspTo, { flit := rspTo }, anEntry, by decide +kernel⟩,
    ⟨onLnk 0 { link := .up } (ejecting 16 live 0 rd), { flit := rd }, by decide +kernel⟩, ⟨onPort 32 { live with pairDat := [({ net := .dat }, 4)] }, rfl⟩,
    ⟨onPort 32 live, by decide +kernel⟩⟩

def opened (e : OEntry) : State := onPort 32 { live with opens := [(255, e)], ejCrd := [(3, 2), (5, 4)] }
def pingOn (s : State) : State := { s with regs := [(portPage 32 + 0x40, 1)] }
theorem test_witness_RetriesAndPings :
    (∃ (s : State) (e : OEntry), s.ports[(32 : Fin 96)].opens.find? (fun y => decide (y.1 = 255)) = some (255, e) ∧ e.retryAt = some 9 ∧ e.req.opc.toNat = opRD ∧
      e.reissued = false ∧ reissuedCount s.ports[(32 : Fin 96)] < 16 ∧ s.ms.mode ≠ .drain) ∧
    (∃ (s : State) (e : OEntry), s.ports[(32 : Fin 96)].opens.find? (fun y => decide (y.1 = 255)) = some (255, e) ∧ e.retryAt = some 9 ∧
      e.req.opc.toNat = opWRINV ∧ openBurst e = false ∧ e.reissued = false ∧ e.answers ≠ 0 ∧ ejCredit s 32 .rsp (noGt e.req.cls) ≠ 0) ∧
    (∃ (s : State) (e : OEntry), s.ports[(32 : Fin 96)].opens.find? (fun y => decide (y.1 = 255)) = some (255, e) ∧ e.ghostAt = some 0) ∧
    (∃ s : State, pingCapable 32 = true ∧ portEn s.ports[(32 : Fin 96)] = true ∧ regFld s (portPage 32 + 0x40) 0 0 = 1 ∧ s.ms.mode ≠ .drain ∧
      s.ports[(32 : Fin 96)].pingOut = none ∧ ejCredit s 32 .req .mg ≠ 0) ∧
    (∃ s : State, pingCapable 32 = true ∧ portEn s.ports[(32 : Fin 96)] = true ∧ regFld s (portPage 32 + 0x40) 0 0 = 1 ∧ s.ms.mode ≠ .drain ∧
      s.ports[(32 : Fin 96)].pingOut = some 0) :=
  ⟨⟨opened anEntry, anEntry, by decide +kernel⟩,
    ⟨opened { anEntry with req := { rd with opc := 0xA }, linesIn := 1 }, { anEntry with req := { rd with opc := 0xA }, linesIn := 1 }, by decide +kernel⟩,
    ⟨opened { anEntry with ghostAt := some 0 }, { anEntry with ghostAt := some 0 }, by decide +kernel⟩, ⟨pingOn (opened anEntry), by decide +kernel⟩,
    ⟨pingOn (onPort 32 { live with pingOut := some 0 }), by decide +kernel⟩⟩

theorem test_witness_PortPower :
    (∃ s : State, s.ports[(32 : Fin 96)].pwrWait = some (1, 20000) ∧ s.ports[(32 : Fin 96)].faiPwr ≠ 2) ∧
    (∃ s : State, s.ports[(32 : Fin 96)].pwrWait = some (1, 20000) ∧ s.ports[(32 : Fin 96)].faiPwr = 2) ∧
    (∃ s : State, s.ports[(32 : Fin 96)].powerUp = some 40000 ∧ s.ports[(32 : Fin 96)].pwrWait = none ∧ s.ports[(32 : Fin 96)].st = .fenced ∧ s.tiles[tileF (portTile 32)].isolated = false ∧ StoresWf s) :=
  ⟨⟨onPort 32 { pwrWait := some (1, 20000) }, by decide +kernel⟩, ⟨onPort 32 { pwrWait := some (1, 20000), faiPwr := 2 }, by decide +kernel⟩, ⟨onPort 32 { st := .fenced, powerUp := some 40000 }, by unfold StoresWf; decide +kernel⟩⟩

theorem test_witness_CrossingSteps :
    (∃ s : State, s.ports[(32 : Fin 96)].xf.st = .down ∧ s.ports[(32 : Fin 96)].pwr ≠ 2 ∧ s.ports[(32 : Fin 96)].xu.st = .init) ∧
    (∃ s : State, s.ports[(32 : Fin 96)].xf.st = .down ∧ s.ports[(32 : Fin 96)].pwr = 2) ∧
    (∃ s : State, s.ports[(32 : Fin 96)].xf.st = .init ∧ s.ports[(32 : Fin 96)].xf.sawLow = true ∧ s.ports[(32 : Fin 96)].xu.st ≠ .down) ∧
    (∃ s : State, s.ports[(32 : Fin 96)].xf.st = .armed ∧ xRdy s.ports[(32 : Fin 96)].xu = true) ∧
    (∃ s : State, s.ports[(32 : Fin 96)].xf.st = .run ∧ xRdy s.ports[(32 : Fin 96)].xu = true) :=
  ⟨⟨onPort 32 { xu := { st := .init } }, by decide +kernel⟩, ⟨onPort 32 { pwr := 2 }, by decide +kernel⟩, ⟨onPort 32 { xf := { st := .init, sawLow := true, changes := 4 }, xu := { st := .init } }, by decide +kernel⟩,
    ⟨onPort 32 { xf := { st := .armed }, xu := { st := .armed } }, by decide +kernel⟩, ⟨onPort 32 { xf := { st := .run }, xu := { st := .run } }, by decide +kernel⟩⟩

theorem test_witness_PortsDownAndUp :
    (∃ s : State, s.ports[(32 : Fin 96)].st ≠ .disabled ∧ s.ports[(32 : Fin 96)].st ≠ .reset ∧ s.tiles[tileF (portTile 32)].isolated = false ∧ Settled s ∧ StoresWf s) ∧
    (∃ s : State, s.ports[(32 : Fin 96)].st = .disabled) ∧
    (∃ s : State, s.ports[(32 : Fin 96)].st = .reset ∧ s.ports[(32 : Fin 96)].xf.st = .run ∧ s.ports[(32 : Fin 96)].faultHeld = false ∧
      s.tiles[tileF (portTile 32)].isolated = false ∧ s.tiles[tileF (portTile 32)].waved = true ∧ carries s.ms.mode = true) ∧
    (∃ s : State, s.power.waves = 11 ∧ carries s.ms.mode = true ∧ s.ms.mode ≠ .drain ∧ s.ports[(95 : Fin 96)].st = .disabled ∧ portTile 95 % 12 = 11) :=
  ⟨⟨onPort 32 live, by unfold Settled MatrixOpen NoneWithheld StoresWf; decide +kernel⟩, ⟨inMode .run, by decide +kernel⟩,
    ⟨onPort 32 { st := .reset, xf := { st := .run } } (waved 16), by decide +kernel⟩, ⟨{ inMode .run with power := { waves := 11 } }, by decide +kernel⟩⟩

theorem test_witness_Fences :
    (∃ s : State, Settled s ∧ StoresWf s ∧ fenceCode s 32 = 0) ∧ (∃ s : State, Settled s ∧ StoresWf s ∧ fenceCode s 32 = 6) ∧
    (∃ s : State, Settled s ∧ StoresWf s ∧ s.ports[(32 : Fin 96)].st = .fencing ∧ inflOut s.ports[(32 : Fin 96)] = 0 ∧ s.ports[(32 : Fin 96)].inCnt = 0 ∧
      s.ports[(32 : Fin 96)].fenceAt ≠ 0) :=
  ⟨⟨onPort 32 live, by unfold Settled MatrixOpen NoneWithheld StoresWf; decide +kernel⟩, ⟨inMode .run, by unfold Settled MatrixOpen NoneWithheld StoresWf; decide +kernel⟩,
    ⟨onPort 32 { st := .fencing, fenceAt := 5 }, by unfold Settled MatrixOpen NoneWithheld StoresWf; decide +kernel⟩⟩

theorem test_witness_TimeMoves :
    (∃ s : State, s.time.state = .unsynced ∧ s.clk.rpll = true) ∧ (∃ s : State, timeRuns s = true ∧ ∀ k : Fin 48, s.tiles[k].timeOff = 0) ∧
    (∃ s : State, timeRuns s = true ∧ s.tiles[(47 : Fin 48)].timeOff = 2 ∧ s.tiles[(47 : Fin 48)].isolated = false) ∧
    (∃ s : State, s.time.step = some 5 ∧ stepWait s = false ∧ syncEn s = true ∧ s.time.forward = true) ∧
    (∃ s : State, s.time.state = .synced ∧ s.time.holdover = true ∧ StoresWf s) ∧
    (∃ s : State, Settled s ∧ StoresWf s ∧ s.time.state = .synced ∧ syncEn s = true) ∧ (∃ s : State, Settled s ∧ StoresWf s ∧ s.time.state ≠ .synced) :=
  ⟨⟨inMode .run, by decide +kernel⟩, ⟨timed, by decide +kernel⟩, ⟨{ timed with tiles := (timed).tiles.set 47 { timeOff := 2 } }, by decide +kernel⟩, ⟨{ timed with time := { state := .loc, step := some 5, forward := true } }, by decide +kernel⟩,
    ⟨{ timed with time := { state := .synced, holdover := true } }, by unfold StoresWf; decide +kernel⟩,
    ⟨{ timed with time := { state := .synced } }, by unfold Settled MatrixOpen NoneWithheld StoresWf; decide +kernel⟩,
    ⟨timed, by unfold Settled MatrixOpen NoneWithheld StoresWf; decide +kernel⟩⟩

/-- Strand 0 in session with the device of serial v; this device's serial is 1. -/
def session (v : BitVec 64) (l : LinkSt := {}) (s : State := timed) : State :=
  { onPhy 0 { stage := .active, width := 0 } (onLnk 0 { l with link := .up, hello := some { parseHello 0 with serial := v } } s) with ident := { serial := 5 } }
theorem test_witness_TimeMessages :
    (∃ s : State, exchReady s 0 = true ∧ isUpper s 0 = true ∧ timeRuns s = true) ∧
    (∃ (s : State) (b : Block), exchReady s 0 = true ∧ blkGood b = true ∧ blkType b = tyTSYNC ∧ isUpper s 0 = false) ∧
    (∃ (s : State) (b : Block), exchReady s 0 = true ∧ blkGood b = true ∧ s.strands[(0 : Fin 10)].lnk.exchOpen = true ∧
      blkFld b 15 8 = s.strands[(0 : Fin 10)].lnk.exch.toNat ∧ blkType b = tyTREQ ∧ isUpper s 0 = true ∧ s.time.forward = false) ∧
    (∃ (s : State) (b : Block), exchReady s 0 = true ∧ blkGood b = true ∧ s.strands[(0 : Fin 10)].lnk.exchOpen = true ∧
      blkFld b 15 8 = s.strands[(0 : Fin 10)].lnk.exch.toNat ∧ blkType b = tyTRESP ∧ isUpper s 0 = false ∧ s.time.forward = false ∧ s.time.parent ≠ some 0) ∧
    (∃ (s : State) (b : Block), exchReady s 0 = true ∧ blkGood b = true ∧ s.strands[(0 : Fin 10)].lnk.exchOpen = true ∧
      blkFld b 15 8 = s.strands[(0 : Fin 10)].lnk.exch.toNat ∧ blkType b = tyTRESP ∧ isUpper s 0 = false ∧ s.time.forward = false ∧ s.pool.root = true) ∧
    (∃ (s : State) (b : Block), exchReady s 0 = true ∧ blkGood b = true ∧ s.strands[(0 : Fin 10)].lnk.exchOpen = true ∧
      blkFld b 15 8 = s.strands[(0 : Fin 10)].lnk.exch.toNat ∧ blkType b = tyTRESP ∧ isUpper s 0 = false ∧ s.time.forward = false ∧
      s.time.parent = some 0 ∧ s.pool.root = false ∧ syncEn s = true ∧ s.time.state = .loc) :=
  ⟨⟨session 9, by decide +kernel⟩, ⟨session 1, tsyncBlock 3, by decide +kernel⟩, ⟨session 9 { exch := 3, exchOpen := true }, treqBlock 3 0xFFFF 7, by decide +kernel⟩,
    ⟨session 1 { exch := 3, exchOpen := true }, trespBlock 3 7 9, by decide +kernel⟩,
    ⟨{ session 1 { exch := 3, exchOpen := true } with pool := { root := true } }, trespBlock 3 7 9, by decide +kernel⟩,
    ⟨{ session 1 { exch := 3, exchOpen := true } with time := { state := .loc, parent := some 0 } }, trespBlock 3 7 9, by decide +kernel⟩⟩

def inDom (d : Domain) (x : DomSt) (s : State := inMode .run) : State := updDom d (fun _ => x) s
theorem test_witness_FaultTimers :
    (∃ (s : State) (w : Win), (getDom s .global).wins.find? (fun y => y.src = 14) = some w) ∧
    (∃ s : State, (getDom s (.tile 47)).shadow = true ∧ (getDom s (.tile 47)).done = true) ∧
    (∃ s : State, (getDom s (.tile 47)).reacting = true ∧ (getDom s (.tile 47)).done = false ∧ (getDom s (.tile 47)).wantIn = false ∧ planPending s 47 = false) ∧
    (∃ s : State, (getDom s (.port 32)).st = .faulted ∧ (getDom s (.port 32)).done = true ∧ s.ms.mode ≠ .drain ∧ s.ms.mode ≠ .keep ∧
      min 255 ((getDom s (.port 32)).rc + 1) < fltRcMax s) ∧
    (∃ s : State, (getDom s (.strand 9)).st = .faulted ∧ (getDom s (.strand 9)).done = true ∧ fltRcMax s ≤ min 255 ((getDom s (.strand 9)).rc + 1)) ∧
    (∃ s : State, (getDom s (.tile 47)).st = .faulted ∧ (getDom s (.tile 47)).done = true ∧ (getDom s (.tile 47)).byLink = false ∧ s.tiles[(47 : Fin 48)].isolated = true ∧
      s.tiles[(47 : Fin 48)].admin = false ∧ min 255 ((getDom s (.tile 47)).rc + 1) < fltRcMax s) ∧
    (∃ s : State, (getDom s (.tile 47)).st = .faulted ∧ (getDom s (.tile 47)).done = true ∧ (getDom s (.tile 47)).byLink = true) :=
  ⟨⟨inDom .global { wins := [{ src := 14, c := 1, endAt := 9 }] }, { src := 14, c := 1, endAt := 9 }, by decide +kernel⟩,
    ⟨inDom (.tile 47) { shadow := true, done := true }, by decide +kernel⟩, ⟨inDom (.tile 47) { reacting := true }, by decide +kernel⟩,
    ⟨inDom (.port 32) { st := .faulted, done := true }, by decide +kernel⟩, ⟨inDom (.strand 9) { st := .faulted, done := true, rc := 255 }, by decide +kernel⟩,
    ⟨inDom (.tile 47) { st := .faulted, done := true } { inMode .run with tiles := (inMode .run).tiles.set 47 { isolated := true } }, by decide +kernel⟩,
    ⟨inDom (.tile 47) { st := .faulted, done := true, byLink := true }, by decide +kernel⟩⟩

theorem test_witness_FaultCommands :
    (∃ s : State, Settled s ∧ StoresWf s ∧ domNamed 0 47 = some (.tile 47) ∧ (getDom s (.tile 47)).st = .inn ∧ s.ms.mode = .run ∧ s.tiles[(47 : Fin 48)].isolated = false) ∧
    (∃ s : State, Settled s ∧ StoresWf s ∧ domNamed 1 9 = some (.strand 9) ∧ (getDom s (.strand 9)).st = .faulted ∧ (getDom s (.strand 9)).done = false) ∧
    (∃ s : State, Settled s ∧ StoresWf s ∧ domNamed 2 95 = some (.port 95) ∧ (getDom s (.port 95)).st ≠ .inn ∧ (getDom s (.port 95)).done = true) ∧
    (∃ s : State, Settled s ∧ StoresWf s ∧ s.tiles[(11 : Fin 48)].admin = false) ∧
    (∃ s : State, Settled s ∧ StoresWf s ∧ s.tiles[(47 : Fin 48)].admin = true ∧ s.flt.tiles[(47 : Fin 48)].st = .inn ∧ s.flt.tiles[(47 : Fin 48)].done = false) ∧
    (∃ s : State, Settled s ∧ StoresWf s ∧ s.tiles[(47 : Fin 48)].admin = true ∧ s.flt.tiles[(47 : Fin 48)].st = .inn ∧ s.flt.tiles[(47 : Fin 48)].done = true) :=
  ⟨⟨inMode .run, by unfold Settled MatrixOpen NoneWithheld StoresWf; decide +kernel⟩, ⟨inDom (.strand 9) { st := .faulted }, by unfold Settled MatrixOpen NoneWithheld StoresWf; decide +kernel⟩,
    ⟨inDom (.port 95) { st := .retired, done := true }, by unfold Settled MatrixOpen NoneWithheld StoresWf; decide +kernel⟩, ⟨inMode .run, by unfold Settled MatrixOpen NoneWithheld StoresWf; decide +kernel⟩,
    ⟨{ inMode .run with tiles := (inMode .run).tiles.set 47 { isolated := true, admin := true } }, by unfold Settled MatrixOpen NoneWithheld StoresWf; decide +kernel⟩,
    ⟨inDom (.tile 47) { done := true } { inMode .run with tiles := (inMode .run).tiles.set 47 { isolated := true, admin := true } }, by
      unfold Settled MatrixOpen NoneWithheld StoresWf; decide +kernel⟩⟩

def anInj : Inj := { dom := some (.port 32), src := 3, kind := 4, tile := 16, unit := 0, net := .req, bitA := 0, bitB := 0, left := 0, expect := 1, endAt := some 80 }
theorem test_witness_FaultInputs :
    (∃ (s : State) (i : Inj), s.flt.injs.find? (fun i => decide (i.dom = some (.port 32)) && decide (i.src = 3) && i.endAt.isSome) = some i ∧ 0 < i.expect) ∧
    (∃ (s : State) (steps : Nat), 0 < steps ∧ StoresWf s) :=
  ⟨⟨{ inMode .run with flt := { injs := [anInj] } }, anInj, by decide +kernel⟩, ⟨inMode .run, 15, by unfold StoresWf; decide +kernel⟩⟩
/-! ### Lockets -/

def onPath (opc : BitVec 6) (rarg : BitVec 40) (s : State) : State :=
  { s with ports := s.ports.set 32 live, lock := { s.lock with path := [(32, { net := .req, opc := opc, lkt := 63, rarg := rarg })] } }
def asks (s : State) (opc : Nat) : Prop := ∃ f, s.lock.path = [((32 : Fin 96), f)] ∧ f.opc.toNat = opc ∧ ejCredit s 32 .rsp (noGt f.cls) ≠ 0 ∧ f.lkt.toNat = 63
def owned (st : LkState) (x : Coord := {}) : Coord := { x with state := st, port := 32 }
def told63 (cause : Option Nat) : StageRep := { lkt := 63, id := 9, cause := cause, inj := true }
theorem test_witness_LocketRequests :
    (∃ s : State, s.lock.coords[(63 : Fin 64)].state = .opened ∧ s.lock.coords[(63 : Fin 64)].locs ≠ 0) ∧ (∃ s : State, s.lock.coords[(63 : Fin 64)].state = .aborted) ∧
    (∃ s : State, s.lock.reports = [told63 none] ∧ s.lock.coords[(63 : Fin 64)].id ≠ (told63 none).id) ∧
    (∃ s : State, s.lock.reports = [told63 none] ∧ s.lock.coords[(63 : Fin 64)].id = (told63 none).id) ∧
    (∃ s : State, s.lock.reports = [told63 (some 4)] ∧ s.lock.coords[(63 : Fin 64)].id = (told63 none).id ∧ s.lock.coords[(63 : Fin 64)].state = .opened) ∧
    (∃ s : State, asks s opLKOPEN ∧ ∀ k : Fin 64, s.lock.coords[k].state ≠ .free) ∧
    (∃ s : State, asks s opLKOPEN ∧ s.lock.coords[(63 : Fin 64)].state = .free ∧ ∀ k : Fin 64, k < 63 → s.lock.coords[k].state ≠ .free) ∧
    (∃ s : State, asks s opLKCOMMIT ∧ s.lock.coords[(63 : Fin 64)].state = .free) ∧
    (∃ s : State, asks s opLKCOMMIT ∧ s.lock.coords[(63 : Fin 64)].state = .opened ∧ s.lock.coords[(63 : Fin 64)].port = 32 ∧
      lkCommitCause s s.lock.coords[(63 : Fin 64)] { net := .req, opc := 0x12, lkt := 63 } = some 6) ∧
    (∃ s : State, asks s opLKCOMMIT ∧ s.lock.coords[(63 : Fin 64)].state = .opened ∧ s.lock.coords[(63 : Fin 64)].port = 32 ∧ lkMissing s 63 ≠ [] ∧
      lkCommitCause s s.lock.coords[(63 : Fin 64)] { net := .req, opc := 0x12, lkt := 63, rarg := 0x1000 } = none) ∧
    (∃ s : State, asks s opLKCOMMIT ∧ s.lock.coords[(63 : Fin 64)].state = .opened ∧ s.lock.coords[(63 : Fin 64)].port = 32 ∧
      commitAsap { net := .req, opc := 0x12, lkt := 63, rarg := 0x1000 } = true ∧ s.lock.coords[(63 : Fin 64)].locs = 0 ∧ s.lock.coords[(63 : Fin 64)].remote = 0 ∧
      lkCommitCause s s.lock.coords[(63 : Fin 64)] { net := .req, opc := 0x12, lkt := 63, rarg := 0x1000 } = none) ∧
    (∀ st ∈ [LkState.closing, .voting, .committed, .aborting, .aborted], ∃ s : State, asks s opLKCOMMIT ∧ s.lock.coords[(63 : Fin 64)].state = st ∧
      s.lock.coords[(63 : Fin 64)].port = 32) ∧
    (∃ s : State, asks s opLKABORT ∧ s.lock.coords[(63 : Fin 64)].state = .free) ∧
    (∀ st ∈ [LkState.opened, .closing, .voting, .committed, .aborting, .aborted], ∃ s : State, asks s opLKABORT ∧ s.lock.coords[(63 : Fin 64)].state = st ∧
      s.lock.coords[(63 : Fin 64)].port = 32) := by
  refine ⟨⟨onCoord 63 { state := .opened, locs := 1 }, by decide +kernel⟩, ⟨onCoord 63 { state := .aborted }, by decide +kernel⟩,
    ⟨{ inMode .run with lock := { reports := [told63 none] } }, by decide +kernel⟩,
    ⟨onCoord 63 { id := 9 } { inMode .run with lock := { reports := [told63 none] } }, by decide +kernel⟩,
    ⟨onCoord 63 { state := .opened, id := 9 } { inMode .run with lock := { reports := [told63 (some 4)] } }, by decide +kernel⟩,
    ⟨onPath 0x10 0 { inMode .run with lock := { coords := Vector.replicate 64 { state := .opened } } }, ⟨_, rfl, by decide +kernel⟩, by decide +kernel⟩,
    ⟨onPath 0x10 0 (onCoord 63 {} { inMode .run with lock := { coords := Vector.replicate 64 { state := .opened } } }), ⟨_, rfl, by decide +kernel⟩, by decide +kernel⟩,
    ⟨onPath 0x12 0 (inMode .run), ⟨_, rfl, by decide +kernel⟩, by decide +kernel⟩, ⟨onPath 0x12 0 (onCoord 63 (owned .opened)), ⟨_, rfl, by decide +kernel⟩, by decide +kernel⟩,
    ⟨onPath 0x12 0x1000 (onCoord 63 (owned .opened { locs := 1 })), ⟨_, rfl, by decide +kernel⟩, by decide +kernel⟩,
    ⟨onPath 0x12 0x1000 (onCoord 63 (owned .opened)), ⟨_, rfl, by decide +kernel⟩, by decide +kernel⟩, fun st h => ?_,
    ⟨onPath 0x13 0 (inMode .run), ⟨_, rfl, by decide +kernel⟩, by decide +kernel⟩, fun st h => ?_⟩
  · exact ⟨onPath 0x12 0 (onCoord 63 (owned st)), ⟨_, rfl, by cases st <;> decide +kernel⟩, by cases st <;> decide +kernel⟩
  · exact ⟨onPath 0x13 0 (onCoord 63 (owned st)), ⟨_, rfl, by cases st <;> decide +kernel⟩, by cases st <;> decide +kernel⟩

/-- Strand-free inbox: an answer of HOME0 (port 1) to locket 63. -/
def voteBox (opc : BitVec 6) (arg : BitVec 15) (c : Coord) (s : State := timed) : State :=
  onCoord 63 c { s with lock := { s.lock with inbox := [{ net := .rsp, opc := opc, src := 1, tag := 63, arg := arg }] } }
def two : Coord := { locs := 3, deadline := 9, asap := true }
def staging (c : Coord) : State := onCoord 63 c (mapped (onPort 32 live))
def stageOf : Flit := { net := .req, opc := 0x11, lkt := 63, lmask := 1, addr := 0x100 }
theorem test_witness_LocketVotes :
    (∃ s : State, s.lock.coords[(63 : Fin 64)].state ≠ .closing ∧ s.lock.coords[(63 : Fin 64)].state ≠ .voting) ∧
    (∃ s : State, s.lock.coords[(63 : Fin 64)].state = .closing ∧ s.lock.coords[(63 : Fin 64)].staging = 0 ∧ lkMissing s 63 ≠ [] ∧ s.lock.coords[(63 : Fin 64)].asap = true) ∧
    (∃ s : State, s.lock.coords[(63 : Fin 64)].state = .closing ∧ s.lock.coords[(63 : Fin 64)].staging = 0 ∧ lkMissing s 63 ≠ [] ∧ s.lock.coords[(63 : Fin 64)].asap = false ∧
      TimeReaches s (s.lock.coords[(63 : Fin 64)].t.toNat - 2 * lkGuardNs s)) ∧
    (∃ s : State, s.lock.coords[(63 : Fin 64)].state = .closing ∧ s.lock.coords[(63 : Fin 64)].staging = 0 ∧ s.lock.coords[(63 : Fin 64)].locs = 0 ∧
      s.lock.coords[(63 : Fin 64)].remote = 0) ∧
    (∃ s : State, s.lock.coords[(63 : Fin 64)].state = .voting ∧ s.lock.coords[(63 : Fin 64)].asap = true) ∧
    (∃ s : State, s.lock.coords[(63 : Fin 64)].state = .voting ∧ s.lock.coords[(63 : Fin 64)].asap = false ∧
      TimeReaches s (s.lock.coords[(63 : Fin 64)].t.toNat - lkGuardNs s)) ∧
    (let vote := fun (s : State) (opc arg : Nat) => ∃ f, s.lock.inbox = [f] ∧ relayTag f = none ∧ nbits 5 0 f.tag.toNat = 63 ∧ rspOpc opc f = true ∧ f.arg.toNat = arg ∧
        partOf s f = .chan 0
     let st := fun (s : State) => s.lock.coords[(63 : Fin 64)].state
     (∃ s, vote s rspLKVOTE 64 ∧ isPart s 63 (.chan 0) = false) ∧
     (∃ s, vote s rspLKVOTE 64 ∧ isPart s 63 (.chan 0) = true ∧ st s = .voting ∧ votePast s s.lock.coords[(63 : Fin 64)] = true) ∧
     (∃ s, vote s rspLKVOTE 0x800 ∧ isPart s 63 (.chan 0) = true ∧ st s = .voting ∧ votePast s s.lock.coords[(63 : Fin 64)] = false) ∧
     (∃ s, vote s rspLKVOTE 64 ∧ isPart s 63 (.chan 0) = true ∧ st s = .voting ∧ votePast s s.lock.coords[(63 : Fin 64)] = false ∧
       s.lock.coords[(63 : Fin 64)].votesL ||| 1 ≠ s.lock.coords[(63 : Fin 64)].locs) ∧
     (∃ s, vote s rspLKVOTE 64 ∧ isPart s 63 (.chan 0) = true ∧ st s = .voting ∧ votePast s s.lock.coords[(63 : Fin 64)] = false ∧
       s.lock.coords[(63 : Fin 64)].votesL ||| 1 = s.lock.coords[(63 : Fin 64)].locs) ∧
     (∃ s, vote s rspLKVOTE 64 ∧ isPart s 63 (.chan 0) = true ∧ st s = .committed) ∧ (∃ s, vote s rspLKDONE 64 ∧ isPart s 63 (.chan 0) = false) ∧
     (∃ s, vote s rspLKDONE 64 ∧ isPart s 63 (.chan 0) = true ∧ st s = .committed) ∧
     (∃ s, vote s rspLKDONE 64 ∧ isPart s 63 (.chan 0) = true ∧ st s = .aborting ∧ s.lock.coords[(63 : Fin 64)].waits = [])) ∧
    (∃ s : State, s.lock.relays[(63 : Fin 64)].state ≠ .decided ∧ s.lock.coords[(63 : Fin 64)].state = .committed) ∧
    (∀ c ∈ [{ state := .opened, port := 1 }, owned .aborted, owned .opened { lines := 1024, locs := 1 }, owned .opened { lines := 1023 }],
      ∃ s : State, s.lock.coords[(63 : Fin 64)] = c ∧ stageOf.lkt.toNat = 63 ∧ amLookup s stageOf.addr.toNat = some (1, (ownDev s).toNat) ∧
      spGet 0 s.ports[(32 : Fin 96)].injCrd (qKey .req stageOf.cls) ≠ 0 ∧ malformed (ownDev s) 32 (stageFlit stageOf) = false ∧ isFwd (stageFlit stageOf) = false ∧
      drainRefuses s 32 (stageFlit stageOf) = false ∧ freeOpen s.ports[(32 : Fin 96)] = some 0 ∧ ejCredit s 32 .rsp (noGt stageOf.cls) ≠ 0 ∧
      s.ports[(32 : Fin 96)].xu.st = .run) ∧
    (∃ s : State, s.lock.coords[(63 : Fin 64)] = owned .opened ∧ amLookup s stageOf.addr.toNat = some (1, 7) ∧ s.time.state ≠ .synced ∧ (7 : BitVec 5) ≠ ownDev s) := by
  refine ⟨⟨timed, by decide +kernel⟩, ⟨onCoord 63 { two with state := .closing }, by decide +kernel⟩,
    ⟨onCoord 63 { state := .closing, locs := 1, t := 3000100000 } timed, by unfold TimeReaches; decide +kernel⟩, ⟨onCoord 63 { state := .closing }, by decide +kernel⟩,
    ⟨onCoord 63 { two with state := .voting }, by decide +kernel⟩, ⟨onCoord 63 { state := .voting, t := 3000100000 } timed, by unfold TimeReaches; decide +kernel⟩,
    ⟨⟨voteBox 8 64 {}, ⟨_, rfl, by decide +kernel⟩, by decide +kernel⟩, ⟨voteBox 8 64 { two with state := .voting } { timed with clk := { cyc := 10 } }, ⟨_, rfl, by decide +kernel⟩, by decide +kernel⟩,
      ⟨voteBox 8 0x800 { two with state := .voting }, ⟨_, rfl, by decide +kernel⟩, by decide +kernel⟩, ⟨voteBox 8 64 { two with state := .voting }, ⟨_, rfl, by decide +kernel⟩, by decide +kernel⟩,
      ⟨voteBox 8 64 { two with state := .voting, votesL := 2 }, ⟨_, rfl, by decide +kernel⟩, by decide +kernel⟩, ⟨voteBox 8 64 { two with state := .committed }, ⟨_, rfl, by decide +kernel⟩, by decide +kernel⟩,
      ⟨voteBox 9 64 {}, ⟨_, rfl, by decide +kernel⟩, by decide +kernel⟩, ⟨voteBox 9 64 { two with state := .committed }, ⟨_, rfl, by decide +kernel⟩, by decide +kernel⟩,
      ⟨voteBox 9 64 { two with state := .aborting }, ⟨_, rfl, by decide +kernel⟩, by decide +kernel⟩⟩,
    ⟨onCoord 63 { two with state := .committed }, by decide +kernel⟩, fun c h => ?_,
    ⟨{ staging (owned .opened) with tbls := [(tblKey 0x5000 0xC40 0 0, 0xCE00000FFFC00000)] }, by decide +kernel⟩⟩
  simp only [List.mem_cons, List.not_mem_nil, or_false] at h
  rcases h with rfl | rfl | rfl | rfl
  · exact ⟨staging { state := .opened, port := 1 }, by decide +kernel⟩
  · exact ⟨staging (owned .aborted), by decide +kernel⟩
  · exact ⟨staging (owned .opened { lines := 1024, locs := 1 }), by decide +kernel⟩
  · exact ⟨staging (owned .opened { lines := 1023 }), by decide +kernel⟩

/-- An LKCOMMIT, an LKABORT of device 7's locket 5 at the locket port; HOME0's answer to relay entry 63, for that locket. -/
def reqBox (opc : BitVec 6) (s : State := inMode .run) : State :=
  { s with lock := { s.lock with inbox := [{ net := .req, opc := opc, srcdev := 7, lkt := 5, rarg := 0x1000 }] } }
def homeBox (opc : BitVec 6) (arg : BitVec 15) (r : Relay) : State :=
  onRelay 63 r { inMode .run with lock := { (inMode .run).lock with inbox := [{ net := .rsp, opc := opc, src := 1, tag := 0x13F, arg := arg }] } }
def theirs (st : RlState) : Relay := { state := st, dev := 7, lkt := 5 }
def busy (s : State) : State := { s with lock := { s.lock with relays := Vector.replicate 64 { state := .ready } } }
def decision : Flit := { net := .req, opc := 0x12, addr := 3000002000 }
def decides (x : PortSt) (s : State := timed) : State := onPort 1 { x with heldDec := [decision] } s
theorem test_witness_Relays :
    (let req := fun (s : State) (opc : Nat) => ∃ f, s.lock.inbox = [f] ∧ f.net = .req ∧ f.opc.toNat = opc
     (∃ s, req s opLKCOMMIT ∧ relayOf s 7 5 = none ∧ relayFree s = some 0) ∧ (∃ s, req s opLKCOMMIT ∧ relayOf s 7 5 = none ∧ relayFree s = none) ∧
     (∀ st ∈ [RlState.ready, .inDoubt, .refused, .decided, .preparing], ∃ s, req s opLKCOMMIT ∧ relayOf s 7 5 = some 63 ∧ s.lock.relays[(63 : Fin 64)].state = st) ∧
     (∃ s, req s opLKABORT ∧ relayOf s 7 5 = none ∧ relayFree s = some 0) ∧ (∃ s, req s opLKABORT ∧ relayOf s 7 5 = none ∧ relayFree s = none) ∧
     (∀ st ∈ [RlState.ready, .decided], ∃ s, req s opLKABORT ∧ relayOf s 7 5 = some 63 ∧ s.lock.relays[(63 : Fin 64)].state = st)) ∧
    (let rsp := fun (s : State) (opc : Nat) => ∃ f, s.lock.inbox = [f] ∧ relayTag f = some 63 ∧ rspOpc opc f = true ∧ channelOf f.src.toNat = 0 ∧ f.arg.getLsbD 6 = true ∧
        nbits 5 0 f.arg.toNat = 5
     let r := fun (s : State) => s.lock.relays[(63 : Fin 64)]
     let here := fun (s : State) => (r s).lkt = 5
     (∃ s, rsp s rspLKVOTE ∧ ¬here s) ∧ (∃ s, rsp s rspLKVOTE ∧ here s ∧ (r s).state = .refused) ∧
     (∃ s, rsp s rspLKVOTE ∧ here s ∧ (r s).state = .decided ∧ (r s).commit = true) ∧
     (∃ s, rsp s rspLKVOTE ∧ here s ∧ (r s).state = .preparing ∧ (r s).voted ||| 1 ≠ BitVec.allOnes 16) ∧
     (∃ s, rsp s rspLKVOTE ∧ here s ∧ (r s).state = .preparing ∧ (r s).voted ||| 1 = BitVec.allOnes 16 ∧ (r s).ready ||| 1 = BitVec.allOnes 16) ∧
     (∃ s, rsp s rspLKVOTE ∧ here s ∧ (r s).state = .preparing ∧ (r s).voted ||| 1 = BitVec.allOnes 16 ∧ (r s).ready ||| 1 ≠ BitVec.allOnes 16) ∧
     (∃ s, rsp s rspLKDONE ∧ (r s).state ≠ .decided) ∧ (∃ s, rsp s rspLKDONE ∧ here s ∧ (r s).state = .decided ∧ (r s).done ||| 1 ≠ BitVec.allOnes 16) ∧
     (∃ s, rsp s rspLKDONE ∧ here s ∧ (r s).state = .decided ∧ (r s).done ||| 1 = BitVec.allOnes 16)) ∧
    (∃ s : State, s.lock.coords[(63 : Fin 64)].state = .free ∧ s.lock.relays[(63 : Fin 64)].state = .decided) ∧
    (∃ s : State, Settled s ∧ StoresWf s ∧ s.lock.relays[(63 : Fin 64)].state = .inDoubt) ∧
    (∃ s : State, nextDecision s 1 = some decision ∧ ejCredit s 1 .req decision.cls = 0) ∧
    (∃ s : State, nextDecision s 1 = some decision ∧ (∃ y ∈ allEntries s, launchKey s y.2 < commitKey s 1 decision)) ∧
    (∃ s : State, nextDecision s 1 = some decision ∧ timeRuns s = true ∧ ejCredit s 1 .req decision.cls ≠ 0 ∧ allEntries s = [] ∧
      (∀ j ∈ commitKeys s, ¬j < commitKey s 1 decision) ∧ decision.net = .req ∧ portOff s 1 = 0 ∧ TimeReaches s (commitT decision).toNat) ∧
    (∃ s : State, s.ms.mode = .drain ∧ s.ms.drainShort = false ∧ s.ms.drainRpll = false ∧ s.lock.relays[(63 : Fin 64)].state = .ready ∧
      keyWf regReset 0 s.regs = true) ∧
    (∃ s : State, s.ms.mode = .drain ∧ s.ms.drainShort = false ∧ s.ms.drainRpll = false ∧ isHome 1 = true ∧ votedAt s 1 ≠ []) := by
  refine ⟨⟨⟨reqBox 0x12, ⟨_, rfl, by decide +kernel⟩, by decide +kernel⟩, ⟨reqBox 0x12 (busy (inMode .run)), ⟨_, rfl, by decide +kernel⟩, by decide +kernel⟩, fun st h => ?_,
      ⟨reqBox 0x13, ⟨_, rfl, by decide +kernel⟩, by decide +kernel⟩, ⟨reqBox 0x13 (busy (inMode .run)), ⟨_, rfl, by decide +kernel⟩, by decide +kernel⟩, fun st h => ?_⟩,
    ⟨⟨homeBox 8 69 { theirs .preparing with lkt := 6 }, ⟨_, rfl, by decide +kernel⟩, by decide +kernel⟩, ⟨homeBox 8 69 (theirs .refused), ⟨_, rfl, by decide +kernel⟩, by decide +kernel⟩,
      ⟨homeBox 8 69 { theirs .decided with commit := true }, ⟨_, rfl, by decide +kernel⟩, by decide +kernel⟩, ⟨homeBox 8 69 (theirs .preparing), ⟨_, rfl, by decide +kernel⟩, by decide +kernel⟩,
      ⟨homeBox 8 69 { theirs .preparing with voted := 0xFFFE, ready := 0xFFFE }, ⟨_, rfl, by decide +kernel⟩, by decide +kernel⟩,
      ⟨homeBox 8 69 { theirs .preparing with voted := 0xFFFE }, ⟨_, rfl, by decide +kernel⟩, by decide +kernel⟩, ⟨homeBox 9 69 {}, ⟨_, rfl, by decide +kernel⟩, by decide +kernel⟩,
      ⟨homeBox 9 69 (theirs .decided), ⟨_, rfl, by decide +kernel⟩, by decide +kernel⟩, ⟨homeBox 9 69 { theirs .decided with done := 0xFFFE }, ⟨_, rfl, by decide +kernel⟩, by decide +kernel⟩⟩,
    ⟨onRelay 63 (theirs .decided), by decide +kernel⟩, ⟨onRelay 63 (theirs .inDoubt), by unfold Settled MatrixOpen NoneWithheld StoresWf; decide +kernel⟩,
    ⟨decides { live with ejCrd := [] }, by decide +kernel⟩, ⟨decides live (onGq { act := 3, time := 3000001999, want := 3000001999 }), by decide +kernel⟩,
    ⟨decides live, by unfold TimeReaches; decide +kernel⟩, ⟨onRelay 63 (theirs .ready) (inMode .drain), by decide +kernel⟩,
    ⟨onPort 1 { live with lkSeen := [{ dev := 7, lkt := 5, voted := true }] } { inMode .drain with lock := { staged := [(0, 7, 5, 1)] } }, by decide +kernel⟩⟩
  · refine ⟨reqBox 0x12 (onRelay 63 (theirs st)), ⟨_, rfl, by decide +kernel⟩, ?_⟩
    revert h; cases st <;> decide +kernel
  · refine ⟨reqBox 0x13 (onRelay 63 (theirs st)), ⟨_, rfl, by decide +kernel⟩, ?_⟩
    revert h; cases st <;> decide +kernel

/-! ### Lanes -/

def on9 (x : PhySt) (s : State := inMode .run) : State := onPhy 9 x s
def phy9 (s : State) : PhySt := s.strands[(9 : Fin 10)].phy
def lnk9 (s : State) : LinkSt := s.strands[(9 : Fin 10)].lnk
def phy2 (s : State) : PhySt := s.strands[(2 : Fin 10)].phy
def on2 (x : PhySt) : State := onPhy 2 x
/-- A lane that has seen 64 valid headers. -/
def tried (l : Fin 8) : LaneTry := ⟨l, List.replicate 64 1, []⟩
def locks2 (ts : List LaneTry) : Nat := popCount 8 (laneMask fun l => (ts.filter (laneLocks false)).any fun y => y.lane = l).toNat
def apart2 (s : State) (ts : List LaneTry) (ppm : Vector Int 8) : Bool := (phy2 s).cr && (ts.filter (laneLocks false)).any fun y => decide (20 < ppm[y.lane].natAbs)
/-- Every locked lane of strand 2 shows what f asks for. -/
def shown {α : Type} (s : State) (l : List (Fin 8 × α)) (f : Fin 8 → α → Bool) : Bool :=
  (List.finRange 8).all fun p => !(phy2 s).locked.getLsbD p.val || l.any fun m => decide (m.1 = p) && f p m.2
def sync64 : BitVec 64 := BitVec.ofNat 64 markerSync
def signed (s : State) (l : List (Fin 8 × BitVec 64 × BitVec 64)) : Bool := shown s l fun _ m => decide (m.1 = m.2 ∧ (m.1 = sync64 ∨ m.1 = ~~~sync64))
def numbered (s : State) (g : Nat → Nat) (l : List (Fin 8 × BitVec 3 × BitVec 3)) : Bool :=
  shown s l fun p m => decide (m.1.toNat = g p.val ∧ m.2.toNat = g p.val)
/-- The arrivals on strand 2's locked lanes, and the time from the first to the last. -/
def came (s : State) (marks : List (Fin 8 × BitVec 16)) (times : Vector Nat 8) : List (Fin 8 × BitVec 16 × Nat) :=
  (arrivals marks times).filter fun a => (phy2 s).locked.getLsbD a.1.val
def spread (l : List (Fin 8 × BitVec 16 × Nat)) : Nat := l.foldl (fun m b => max m b.2.2) 0 - l.foldl (fun m b => min m b.2.2) 1000
def lk2 : BitVec 8 := 0x81
theorem test_witness_TrainingStages :
    (∃ s : State, (phy9 s).stage = .detect ∧ prsntUse s 9 = false) ∧ (∃ s : State, (phy9 s).stage = .detect ∧ prsntUse s 9 = true) ∧
    (∃ s ts ppm, (phy2 s).stage = .bitlock ∧ apart2 s ts ppm = true) ∧
    (∀ k ∈ [1, 2, 7, 8], ∃ s ts ppm, (phy2 s).stage = .bitlock ∧ apart2 s ts ppm = false ∧ locks2 ts = k) ∧
    (∃ s l, (phy2 s).stage = .polarity ∧ (phy2 s).locked = lk2 ∧ signed s l = true) ∧ (∃ s l, (phy2 s).stage = .polarity ∧ (phy2 s).locked = lk2 ∧ signed s l = false) ∧
    (∃ s l, (phy2 s).stage = .lanemap ∧ (phy2 s).locked = lk2 ∧ numbered s (fun p => p) l = true) ∧
    (∃ s l, (phy2 s).stage = .lanemap ∧ (phy2 s).locked = lk2 ∧ numbered s (fun p => p) l = false ∧ numbered s (fun p => 7 - p) l = true) ∧
    (∃ s l, (phy2 s).stage = .lanemap ∧ (phy2 s).locked = lk2 ∧ numbered s (fun p => p) l = false ∧ numbered s (fun p => 7 - p) l = false) ∧
    (∃ s a b, (phy2 s).stage = .deskew ∧ came s a b = []) ∧
    (∃ s a b, (phy2 s).stage = .deskew ∧ came s a b ≠ [] ∧ shown s (came s a b) (fun _ b => decide (b.1 = 5)) = false) ∧
    (∀ d ∈ [256, 257], ∃ s a b, (phy2 s).stage = .deskew ∧ (phy2 s).locked = lk2 ∧ ((came s a b).map fun b => b.2.1) = [5, 5] ∧
      shown s (came s a b) (fun _ b => decide (b.1 = 5)) = true ∧ spread (came s a b) = d) ∧
    (∃ s : State, (phy9 s).stage = .preset ∧ (phy9 s).chosen = true) ∧
    (∃ s e, (phy9 s).stage = .preset ∧ (phy9 s).chosen = false ∧ (phy9 s).dwellStored = true ∧ phyAccept s 9 ≤ rowFom (phy9 s) e) ∧
    (∃ s e, (phy9 s).stage = .preset ∧ (phy9 s).chosen = false ∧ (phy9 s).dwellStored = true ∧ rowFom (phy9 s) e < phyAccept s 9) ∧
    (∃ s : State, (phy9 s).stage = .preset ∧ (phy9 s).chosen = false ∧ (phy9 s).dwellStored = false ∧ (phy9 s).dwell = 6) ∧
    (∃ s e, (phy9 s).stage = .preset ∧ (phy9 s).chosen = false ∧ (phy9 s).dwellStored = false ∧ (phy9 s).dwell = 7 ∧ max (phy9 s).bestFom (rowFom (phy9 s) e) < phyFloor s 9) ∧
    (∃ s e, (phy9 s).stage = .preset ∧ (phy9 s).chosen = false ∧ (phy9 s).dwellStored = false ∧ (phy9 s).dwell = 7 ∧ phyFloor s 9 ≤ max (phy9 s).bestFom (rowFom (phy9 s) e)) ∧
    (∃ s : State, (phy9 s).stage = .preset ∧ (phy9 s).chosen = true ∧ (phy9 s).pDone = true) ∧ (∃ s : State, (phy9 s).chosen = true ∧ (phy9 s).pDone = false) ∧
    (∀ c ∈ [(none, false), (some (0, false), false), (some (0, false), true)], ∃ (s : State) (tc : TcbInfo), (phy9 s).tcb = some tc ∧ (phy9 s).stage = .config ∧
      8 ≤ (phy9 s).ackRx ∧ (phy9 s).ackOn = true ∧ (phy9 s).cfgDone = false ∧ commonSet (phy9 s).laneGood tc.rxGood = c.1 ∧ (phy9 s).early = c.2) ∧
    (∀ st ∈ [Stage.bitlock, .polarity, .lanemap, .deskew, .preset, .config], ∃ s : State, inTraining (phy9 s).stage = true ∧ (phy9 s).stage = st) ∧
    (∃ s : State, (phy9 s).stage = .absent) := by
  refine ⟨⟨on9 { stage := .detect } (withReg (slPage 9 1 + 0x40) 0), by decide +kernel⟩, ⟨on9 { stage := .detect } (withReg (slPage 9 1 + 0x40) 0x20), by decide +kernel⟩,
    ⟨on2 { stage := .bitlock, cr := true }, [tried 3, tried 4], #v[0, 0, 0, 0, -21, 0, 0, 0], by decide +kernel⟩, fun k h => ?_,
    ⟨on2 { stage := .polarity, locked := lk2 }, [(0, sync64, sync64), (7, ~~~sync64, ~~~sync64)], by decide +kernel⟩,
    ⟨on2 { stage := .polarity, locked := lk2 }, [(0, sync64, sync64), (7, ~~~sync64, sync64)], by decide +kernel⟩,
    ⟨on2 { stage := .lanemap, locked := lk2 }, [(0, 0, 0), (7, 7, 7)], by decide +kernel⟩, ⟨on2 { stage := .lanemap, locked := lk2 }, [(0, 7, 7), (7, 0, 0)], by decide +kernel⟩,
    ⟨on2 { stage := .lanemap, locked := lk2 }, [(0, 0, 0), (7, 0, 0)], by decide +kernel⟩, ⟨on2 { stage := .deskew, locked := lk2 }, [(1, 5)], .replicate 8 3, by decide +kernel⟩,
    ⟨on2 { stage := .deskew, locked := lk2 }, [(0, 5)], .replicate 8 3, by decide +kernel⟩, fun d h => ⟨on2 { stage := .deskew, locked := lk2 }, [(0, 5), (7, 5)], #v[3, 0, 0, 0, 0, 0, 0, 3 + d], ?_⟩,
    ⟨on9 { stage := .preset, chosen := true }, by decide +kernel⟩, ⟨on9 { stage := .preset, dwellStored := true }, [(39, 0)], by decide +kernel⟩,
    ⟨on9 { stage := .preset, dwellStored := true, laneGood := 1 }, [(0, 9)], by decide +kernel⟩, ⟨on9 { stage := .preset, dwell := 6 }, by decide +kernel⟩,
    ⟨on9 { stage := .preset, dwell := 7, laneGood := 1 }, [(0, 9)], by decide +kernel⟩, ⟨on9 { stage := .preset, dwell := 7 }, [], by decide +kernel⟩,
    ⟨on9 { stage := .preset, chosen := true, pDone := true }, by decide +kernel⟩, ⟨on9 { chosen := true }, by decide +kernel⟩, fun c h => ?_,
    fun st h => ⟨on9 { stage := st }, by revert st; decide +kernel⟩, ⟨on9 { stage := .absent }, by decide +kernel⟩⟩
  · exact ⟨on2 { stage := .bitlock, cr := true }, (((List.finRange 8).take k).map tried), .replicate 8 20, by revert k; decide +kernel⟩
  · revert d; decide +kernel
  · exact ⟨on9 { stage := .config, tcb := some { rxGood := if c.1 = none then 0 else 0xFF }, laneGood := 0xFF, ackRx := 8, ackOn := true, early := c.2 },
      { rxGood := if c.1 = none then 0 else 0xFF }, by revert c; decide +kernel⟩

def en9 (v : Word) (x : PhySt) (l : LinkSt := {}) : State := onLnk 9 l (on9 x (withReg (slPage 9 0 + 0x40) v))
theorem test_witness_StrandControl :
    (∃ s : State, Settled s ∧ StoresWf s ∧ fld 0 0 (regGet s (slPage 9 0 + 0x40)) = 0 ∧ strandHeld s 9 = false ∧ (phy9 s).groups = 2 ∧ pllOk s 9 = true) ∧
    (∃ s : State, Settled s ∧ StoresWf s ∧ fld 0 0 (regGet s (slPage 9 0 + 0x40)) = 0 ∧ (phy9 s).groups = 1) ∧
    (∃ s : State, Settled s ∧ StoresWf s ∧ fld 0 0 (regGet s (slPage 9 0 + 0x40)) = 1 ∧ (phy9 s).stage = .active ∧ (lnk9 s).link = .up) ∧
    (∃ s : State, Settled s ∧ StoresWf s ∧ inTraining (phy9 s).stage = true ∧ (lnk9 s).link = .down) ∧
    (∃ s : State, Settled s ∧ StoresWf s ∧ (phy9 s).stage = .detect ∧ (lnk9 s).link = .inactive) :=
  ⟨⟨{ en9 0 { groups := 2 } with power := { pllBOn := true, pllB := true } }, by unfold Settled MatrixOpen NoneWithheld StoresWf; decide +kernel⟩,
    ⟨en9 0 { groups := 1 }, by unfold Settled MatrixOpen NoneWithheld StoresWf; decide +kernel⟩,
    ⟨en9 1 { stage := .active } { link := .up }, by unfold Settled MatrixOpen NoneWithheld StoresWf; decide +kernel⟩,
    ⟨en9 1 { stage := .preset } { link := .down }, by unfold Settled MatrixOpen NoneWithheld StoresWf; decide +kernel⟩,
    ⟨en9 1 { stage := .detect }, by unfold Settled MatrixOpen NoneWithheld StoresWf; decide +kernel⟩⟩

def active9 (x : PhySt := {}) (l : LinkSt := {}) : State := onLnk 9 l (on9 { x with stage := .active, width := 0, rxWidth := 0 })
/-- A block that lane l's scrambler and descrambler agree on. -/
def carried (l : Nat) (r : BitVec 31) (b : Block) : Bool :=
  (!unscrambled b || rawPlain b) && (rawMarker b == (unscrambled b && decide (blkType b = tyMARKER))) && (unscrambled b || !rawPlain (scrBlock l r b).1)
def train9 : State := on9 { stage := .preset }
theorem test_witness_StrandBlocks :
    (∃ r : RunCnt, r.cnt < 24 ∧ r.cnt = 23) ∧ (∃ (y : Nat) (ls : List Nat), y < 4 ∧ (∀ a ∈ ls, a < 4) ∧ (y, ls) = (3, [3, 0])) ∧
    (∃ r : BitVec 31, [dataBlock 5, patBlock tyFILLER, ctlBlock tyIDLE].all (carried 7 r) = true) ∧ (∃ r, carried 7 r (markerBlock train9 9 true 7) = true) ∧
    (∃ s, (phy2 s).locked.getLsbD 7 = true ∧ Machine.mapped (phy2 s).stage = true ∧ (phy2 s).rxPwr ≠ .deep ∧ (phy2 s).rx[7].run.cnt = 23 ∧ (phy2 s).rx[7].cnt = 0 ∧
      (phy2 s).rx[7].acc = 0 ∧ (phy2 s).rx[7].bad = false ∧ (phy2 s).polInv.getLsbD 7 = false ∧ blkH (dataBlock 5) = 1 ∧
      carried (logicalOf (phy2 s) 7).val (phy2 s).rx[7].scr (dataBlock 5) = true ∧ popCount 64 ((phy2 s).rx[7].hist <<< 1).toNat < 8) ∧
    (∃ s, ∀ k : Fin 8, (phy9 s).tx[k].pos = (phy9 s).tx[(0 : Fin 8)].pos) ∧ (∃ s, (phy9 s).aligned = false) ∧
    (∃ s, (phy9 s).stage = .active ∧ (phy9 s).deepAt = none ∧ (lnk9 s).link = .up ∧ StoresWf s) ∧ (∃ s, (phy9 s).stage = .active ∧ (phy9 s).deepAt ≠ none) ∧
    (∃ b : Block, blkGood b = false) ∧ (∃ b : Block, blkGood b = true ∧ blkType b = tyTS) ∧
    (∃ (s : State) (b : Block), blkGood b = true ∧ blkType b = tyTCB ∧ (phy9 s).stage = .config ∧ (tcbOf b).express = false) ∧
    (∃ (s : State) (b : Block), blkGood b = true ∧ blkType b = tyTCB ∧ (phy9 s).stage = .config ∧ (tcbOf b).express = decide (8 ≤ 9) ∧ blkFld b 115 112 = 0 ∧
      (tcbOf b).cr ≠ (phy9 s).cr) ∧
    (∃ (s : State) (b : Block), blkGood b = true ∧ blkType b = tyTCB ∧ (phy9 s).stage = .config ∧ (tcbOf b).express = decide (8 ≤ 9) ∧ blkFld b 115 112 = 0 ∧
      (tcbOf b).cr = (phy9 s).cr) ∧
    (∃ b : Block, blkGood b = true ∧ blkType b = tyMARKER ∧ blkFld b 75 75 = 1) ∧
    (∀ d ∈ [false, true], ∃ (s : State) (b : Block), blkGood b = true ∧ blkType b = tyMARKER ∧ blkFld b 75 75 = 0 ∧ (phy9 s).stage = .config ∧ (phy9 s).cfgDone = d) ∧
    (∃ (s : State) (b : Block) (m : BitVec 16), blkGood b = true ∧ blkType b = tyMARKER ∧ blkFld b 75 75 = 0 ∧ (phy9 s).stage = .active ∧ (phy9 s).deepAt = none ∧
      (phy9 s).rxMcnt = some m ∧ m + 1 ≠ BitVec.ofNat 16 (blkFld b 111 96)) ∧
    (∀ w ∈ [StrandPwr.active, .standby, .deep], ∃ (s : State) (b : Block), blkGood b = true ∧ blkType b = tyMARKER ∧ blkFld b 75 75 = 0 ∧ (phy9 s).stage = .active ∧
      (phy9 s).deepAt = none ∧ (phy9 s).rxMcnt = some (BitVec.ofNat 16 (blkFld b 111 96) - 1) ∧ blkFld b 81 80 = pwrNum w ∧ (phy9 s).armed = none ∧ (phy9 s).pwr = .standby) ∧
    (∃ s, inTraining (phy9 s).stage = true) ∧ (∃ s : State, (phy9 s).stage = .active ∧ (phy9 s).deepAt = none ∧ (phy9 s).armed = none ∧ (phy9 s).pwr ≠ .deep) ∧
    (∃ s : State, (phy9 s).stage = .active ∧ (phy9 s).deepAt = none ∧ (phy9 s).armed = some .x2) ∧
    (∃ s : State, StoresWf s ∧ (phy9 s).stage = .active ∧ (phy9 s).rxPwr ≠ .deep ∧ (laneSet (phy9 s).rxWidth (phy9 s).rxGroup).testBit (logicalOf (phy9 s) 7).val = true) ∧
    (∃ s : State, (phy9 s).stage = .active ∧ (phy9 s).rxPwr = .deep) ∧
    (∃ s : State, (phy9 s).stage = .active ∧ (laneSet (phy9 s).rxWidth (phy9 s).rxGroup).testBit (logicalOf (phy9 s) 7).val = false) ∧
    (∃ s : State, inTraining (phy9 s).stage = true ∧ (phy9 s).stage = .bitlock) ∧
    (∃ s : State, inTraining (phy9 s).stage = true ∧ (phy9 s).stage ≠ .bitlock ∧ (phy9 s).locked.getLsbD 7 = true) ∧
    (∃ s : State, inTraining (phy9 s).stage = true ∧ (phy9 s).stage ≠ .bitlock ∧ (phy9 s).locked.getLsbD 7 = false) := by
  refine ⟨⟨{ cnt := 23 }, by decide +kernel⟩, ⟨3, [3, 0], by decide +kernel⟩, ⟨laneSeed 7, by decide +kernel⟩, ⟨0, by decide +kernel⟩,
    ⟨on2 { stage := .active, locked := 0x80, rx := Vector.replicate 8 { run := { cnt := 23 }, scr := laneSeed 7 } }, by decide +kernel⟩,
    ⟨active9, by decide +kernel⟩, ⟨active9, by decide +kernel⟩, ⟨active9 {} { link := .up }, by unfold StoresWf; decide +kernel⟩, ⟨active9 { deepAt := some 0 }, by decide +kernel⟩,
    ⟨0, by decide +kernel⟩, ⟨tsBlock train9 9 7, by decide +kernel⟩, ⟨on9 { stage := .config }, tcbBlock (on9 {}) 0, by decide +kernel⟩,
    ⟨on9 { stage := .config }, tcbBlock (on9 { cr := true }) 9, by decide +kernel⟩, ⟨on9 { stage := .config }, tcbBlock (on9 {}) 9, by decide +kernel⟩,
    ⟨markerBlock train9 9 true 7, by decide +kernel⟩, fun d h => ⟨on9 { stage := .config, cfgDone := d }, markerBlock train9 9 false 7, by revert d; decide +kernel⟩,
    ⟨active9 { rxMcnt := some 4 }, markerBlock (on9 { mcnt := 6 }) 9 false 0, 4, by decide +kernel⟩, fun w h => ?_,
    ⟨train9, by decide +kernel⟩, ⟨active9, by decide +kernel⟩, ⟨active9 { armed := some .x2 }, by decide +kernel⟩, ⟨active9, by unfold StoresWf; decide +kernel⟩,
    ⟨active9 { rxPwr := .deep }, by decide +kernel⟩, ⟨onPhy 9 { stage := .active }, by decide +kernel⟩, ⟨on9 { stage := .bitlock }, by decide +kernel⟩,
    ⟨on9 { stage := .lanemap, locked := 0x80 }, by decide +kernel⟩, ⟨on9 { stage := .lanemap, locked := 0x7F }, by decide +kernel⟩⟩
  exact ⟨active9 { rxMcnt := some 4, pwr := .standby }, markerBlock (on9 { mcnt := 5, pwr := w }) 9 false 0, by cases w <;> decide +kernel⟩

def lctlReq (w k : Nat) (s : State := inMode .run) : Block := lctlBlock s k w 3 0
def asked9 (what : LctlWhat) (idv : Bool := false) : PhySt := { lctlOut := some { what := what, rid := 3, endAt := 9, idv := idv, devId := 8 } }
/-- Strand 9 in ACTIVE, its width as SL_CTRL asks. -/
def calm9 (x : PhySt := {}) (l : LinkSt := {}) : State := active9 { x with trainedW := 0 } l
def free9 (s : State) : Prop := (phy9 s).stage = .active ∧ (phy9 s).pwr = .active ∧ (phy9 s).lctlOut = none ∧ (phy9 s).armed = none ∧ (phy9 s).deepAt = none
theorem test_witness_StrandPower :
    (let base := fun (s : State) => (Settled s ∧ StoresWf s ∧ (phy9 s).stage = .active ∧ (phy9 s).wantWidth = none) ∧
        fld 9 8 (regGet s (slPage 9 0 + 0x40)) = 0 ∧ (phy9 s).width ≤ 2 ∧ (phy9 s).trainedW = (phy9 s).width
     (∃ s, base s ∧ free9 s ∧ linkIdle (lnk9 s) = true) ∧ (∃ s, base s ∧ free9 s ∧ linkIdle (lnk9 s) = false) ∧
     (∃ s, base s ∧ (phy9 s).pwr = .active ∧ (phy9 s).lctlOut ≠ none ∧ widthPending (phy9 s) = true) ∧
     (∃ s, base s ∧ (phy9 s).pwr = .standby ∧ (phy9 s).deepAt = none ∧ widthPending (phy9 s) = false) ∧ (∃ s, base s ∧ (phy9 s).pwr = .deep ∧ (phy9 s).deepAt = none)) ∧
    (let base := fun (s : State) => Settled s ∧ StoresWf s ∧ fld 5 4 (regGet s (slPage 9 0 + 0x40)) = 0
     (∃ s, base s ∧ free9 s ∧ widthCode .x4 ≤ 2 ∧ widthCode .x4 ≠ (phy9 s).width) ∧ (∃ s, base s ∧ free9 s ∧ (phy9 s).trainedW = 0 ∧ (phy9 s).width = 0) ∧
     (∃ s, base s ∧ (phy9 s).stage ≠ .active ∧ (phy9 s).pwr = .active)) ∧
    (let req := fun (b : Block) => whatOf (blkFld b 15 12) = some .x4 ∧ blkGood b = true ∧ blkType b = tyLCTL ∧ blkFld b 11 8 = 1
     let wins := fun (b : Block) (r : LctlReq) => if r.idv = true ∧ blkFld b 29 29 = 1 then r.devId.toNat < blkFld b 28 24 else 0 < blkFld b 127 64
     (∃ s b, req b ∧ (phy9 s).stage = .active ∧ (phy9 s).lctlOut = none ∧ lctlJudge s 9 .x4 = 0) ∧
     (∃ s b, req b ∧ (phy9 s).stage = .active ∧ (phy9 s).lctlOut = none ∧ lctlJudge s 9 .x4 ≠ 0) ∧
     (∃ s b r, req b ∧ (phy9 s).stage = .active ∧ (phy9 s).lctlOut = some r ∧ r.idv = true ∧ wins b r) ∧
     (∃ s b r, req b ∧ (phy9 s).stage = .active ∧ s.ident.serial = 0 ∧ (phy9 s).lctlOut = some r ∧ r.idv = false ∧ wins b r) ∧
     (∃ s b r, req b ∧ (phy9 s).stage = .active ∧ s.ident.serial = 0 ∧ (phy9 s).lctlOut = some r ∧ ¬wins b r)) ∧
    (∀ k ∈ [2, 3], ∃ (s : State) (b : Block) (r : LctlReq), (phy9 s).lctlOut = some r ∧ blkGood b = true ∧ blkType b = tyLCTL ∧ blkFld b 19 16 = r.rid.toNat ∧
      blkFld b 11 8 = k ∧ (phy9 s).wantPwr = none ∧ (phy9 s).wantWidth = none) ∧
    (∃ s r, (phy9 s).lctlOut = some r) ∧ (∃ s, (phy9 s).stage = .active ∧ (phy9 s).pwr = .standby) ∧
    (∃ s, (phy9 s).stage = .active ∧ (phy9 s).pwr = .deep ∧ (phy9 s).deepAt = none) ∧
    (∀ c ∈ [cycUs 16 - 1, cycUs 16], ∃ s, (phy9 s).deepAt = some 0 ∧ (phy9 s).stage = .active ∧ (advanceTo (0 + cycUs 10) { s with out := [] }).clk.cyc = c) ∧
    (∀ w ∈ [StrandPwr.active, .deep], ∃ b : Block, blkGood b = true ∧ blkType b = tyMARKER ∧ blkFld b 75 75 = 0 ∧ blkFld b 81 80 = pwrNum w) ∧
    (∃ (s : State) (marks : List (Fin 8 × BitVec 16)) (times : Vector Nat 8) (a : Fin 8 × BitVec 16 × Nat), let arr := arrivals marks times
      (phy9 s).deepAt = some 0 ∧ (phy9 s).stage = .active ∧ (phy9 s).pwr = .deep ∧
      arr.head? = some a ∧ (arr.all fun c => (phy9 s).locked.getLsbD c.1.val && decide (c.2 = a.2)) = true ∧
      ((List.finRange 8).all fun p => !(phy9 s).locked.getLsbD p.val || arr.any fun c => decide (c.1 = p)) = true) ∧
    (∃ s d, (phy9 s).deepAt = some d ∧ (lnk9 s).link = .up) := by
  refine ⟨⟨⟨calm9, by unfold Settled MatrixOpen NoneWithheld StoresWf free9; decide +kernel⟩, ⟨calm9 {} { msgs := [0] }, by unfold Settled MatrixOpen NoneWithheld StoresWf free9; decide +kernel⟩,
      ⟨calm9 (asked9 .x4), by unfold Settled MatrixOpen NoneWithheld StoresWf; decide +kernel⟩, ⟨calm9 { pwr := .standby }, by unfold Settled MatrixOpen NoneWithheld StoresWf; decide +kernel⟩,
      ⟨calm9 { pwr := .deep }, by unfold Settled MatrixOpen NoneWithheld StoresWf; decide +kernel⟩⟩,
    ⟨⟨calm9, by unfold Settled MatrixOpen NoneWithheld StoresWf free9; decide +kernel⟩, ⟨calm9, by unfold Settled MatrixOpen NoneWithheld StoresWf free9; decide +kernel⟩,
      ⟨train9, by unfold Settled MatrixOpen NoneWithheld StoresWf; decide +kernel⟩⟩,
    ⟨⟨calm9 { laneGood := 0xFF } { link := .up }, lctlReq 4 1, by decide +kernel⟩, ⟨calm9 { pwr := .deep, armed := some .x2 }, lctlReq 4 1, by decide +kernel⟩,
      ⟨calm9 (asked9 .x2 true), lctlReq 4 1 (withPool (fun p => { p with idv := true, devId := 9 }) (inMode .run)), _, by decide +kernel, by decide +kernel, rfl, by decide +kernel⟩,
      ⟨{ calm9 (asked9 .x2) with ident := { serial := 0 } }, lctlReq 4 1 { inMode .run with ident := { serial := 7 } }, _, by decide +kernel, by decide +kernel, by decide +kernel, rfl, by decide +kernel⟩,
      ⟨{ calm9 (asked9 .x2) with ident := { serial := 0 } }, lctlReq 4 1 { inMode .run with ident := { serial := 0 } }, _, by decide +kernel, by decide +kernel, by decide +kernel, rfl, by decide +kernel⟩⟩, fun k h => ?_,
    ⟨calm9 (asked9 .x2), _, rfl⟩, ⟨calm9 { pwr := .standby }, by decide +kernel⟩, ⟨calm9 { pwr := .deep }, by decide +kernel⟩,
    fun c h => ⟨{ active9 { deepAt := some 0 } with clk := { cyc := c } }, by revert c; decide +kernel⟩,
    fun w h => ⟨markerBlock (on9 { pwr := w }) 9 false 0, by revert w; decide +kernel⟩,
    ⟨active9 { deepAt := some 0, pwr := .deep, locked := lk2 }, [(0, 5), (7, 5)], .replicate 8 9, (0, 5, 9), by decide +kernel⟩, ⟨active9 { deepAt := some 0 } { link := .up }, 0, by decide +kernel⟩⟩
  exact ⟨calm9 (asked9 .x4), lctlReq 4 k, _, rfl, by revert k; decide +kernel⟩

def withPower (w : PowerSt) (s : State := inMode .run) : State := { s with power := w }
/-- Strand 9 in ACTIVE, its lanes at block p of a marker period. -/
def at9 (p : Nat) : State := active9 { tx := Vector.replicate 8 { pos := p } }
def top9 (s : State) : Nat := (phy9 s).tx.toList.foldl (fun m y => max m y.pos) 0
theorem test_witness_LaneHealth :
    (∃ s : State, (phy9 s).stage = .active ∧ (phy9 s).rxPwr = .active) ∧ (∃ s : State, (phy9 s).stage ≠ .active) ∧
    (∃ s : State, fomLowest (phy9 s) = some 4 ∧ StoresWf s ∧ (phy9 s).stage = .active ∧ (lnk9 s).link = .up) ∧ (∃ s : State, fomLowest (phy9 s) = none) ∧
    (∀ c ∈ [(512, some 512), (513, some 1536), (3584, some 3584), (3585, none)], ∃ s : State, (phy9 s).stage = .active ∧ (phy9 s).pwr = .active ∧ (phy9 s).deepAt = none ∧
      top9 s = c.1 ∧ [512, 1536, 2560, 3584].find? (fun q => top9 s ≤ q) = c.2) ∧
    (∃ s : State, (phy9 s).pwr ≠ .active) ∧
    (∃ s : State, s.power.pllAOn = false ∧ s.power.pllBOn = false) ∧ (∃ s : State, s.power.pllBOn = true ∧ s.power.pllB = true) ∧
    (∃ s : State, s.power.pllAOn = true ∧ s.power.pllA = false) ∧
    (∃ s : State, s.power.pllAOn = false ∧ s.power.done = 0 ∧ s.ms.heldReset = none ∧ s.ms.mode ≠ .keep) ∧
    (∃ s : State, s.power.done = 1 ∧ s.power.pllBOn = false ∧ s.ms.heldReset = none ∧ s.ms.mode ≠ .keep) ∧
    (∃ s : State, s.power.done = 19 + 2 ∧ strandEn s (groupStrand 19) = false) ∧ (∃ s : State, s.power.done = 19 + 2 ∧ strandEn s (groupStrand 19) = true) ∧
    (∃ s : State, 22 ≤ s.power.done ∧ s.power.owed = [19] ∧ ∀ k ∈ s.power.owed, strandEn s (groupStrand k) = false) ∧
    (∃ s : State, 22 ≤ s.power.done ∧ s.power.owed.find? (fun k => strandEn s (groupStrand k)) = some 19) :=
  ⟨⟨active9, by decide +kernel⟩, ⟨train9, by decide +kernel⟩,
    ⟨active9 { fomLow := (Vector.replicate 8 none).set 7 (some 4) } { link := .up }, by unfold StoresWf; decide +kernel⟩, ⟨active9, by decide +kernel⟩,
    fun c h => ⟨at9 c.1, by revert c; decide +kernel⟩, ⟨active9 { pwr := .standby }, by decide +kernel⟩, ⟨inMode .run, by decide +kernel⟩,
    ⟨withPower { pllBOn := true, pllB := true }, by decide +kernel⟩, ⟨withPower { pllAOn := true }, by decide +kernel⟩, ⟨inMode .run, by decide +kernel⟩,
    ⟨withPower { done := 1, pllAOn := true }, by decide +kernel⟩, ⟨withPower { done := 21 } (en9 0 {}), by decide +kernel⟩, ⟨withPower { done := 21 } (en9 1 {}), by decide +kernel⟩,
    ⟨withPower { done := 22, owed := [19] } (en9 0 {}), by decide +kernel⟩, ⟨withPower { done := 22, owed := [19, 3] }, by decide +kernel⟩⟩

/-! ### Containers, sessions, sequencer -/

def stored (k : Nat) (r : Bool) : Stored := { seq := 5, body := 0, replays := k, resend := r }
def pktC (k : Nat) (r : Bool) (e : BitVec 16 := 0) : Stored := { seq := 5, body := 0, replays := k, resend := r, pkts := [{ net := .rsp, e2seq := e }] }
def up9 (l : LinkSt) (x : PhySt := {}) : State := active9 x { l with link := .up }
theorem test_witness_ContainerSends :
    (∃ s : State, (phy9 s).stage ≠ .active) ∧
    (∃ s : State, (phy9 s).stage = .active ∧ (phy9 s).pwr = .standby ∧ (phy9 s).deepAt = none ∧ (phy9 s).armed = none ∧ txWork s 9 = true ∧ (lnk9 s).link = .up) ∧
    (let ready := fun (s : State) => (phy9 s).stage = .active ∧ (phy9 s).pwr = .active ∧ (phy9 s).deepAt = none ∧ ((lnk9 s).link = .hello ∨ (lnk9 s).link = .up)
     let none' := fun (s : State) => ∀ k ∈ bufKeys, creditDue (lnk9 s) k = false
     let fresh := fun (s : State) => ready s ∧ none' s ∧ (∀ c ∈ (lnk9 s).replay, c.resend = false)
     (∃ s c, (lnk9 s).replay.find? (·.resend) = some c ∧ ready s ∧ c.pkts = []) ∧ (∃ s c, (lnk9 s).replay.find? (·.resend) = some c ∧ ready s ∧ c.pkts ≠ [] ∧ txPackets s 9 = true) ∧
     (∃ s c, (lnk9 s).replay.find? (·.resend) = some c ∧ ready s ∧ c.pkts ≠ [] ∧ txPackets s 9 = false ∧ none' s ∧ (lnk9 s).nakAt = none) ∧
     (∃ s, ready s ∧ none' s ∧ ((lnk9 s).replay.all fun c => !c.resend) = true ∧ (lnk9 s).replay.length = 1024 ∧ (lnk9 s).nakAt = none) ∧
     (∃ s m, fresh s ∧ (lnk9 s).replay.length < 1024 ∧ (lnk9 s).msgs = [m] ∧ (lnk9 s).link = .hello) ∧
     (∃ (s : State) (q : TxFlit), fresh s ∧ (lnk9 s).replay.length < 1024 ∧ (lnk9 s).tx = [(11, [q])] ∧ (lnk9 s).link = .up ∧ trafficOn s = true ∧ (lnk9 s).msgs = [] ∧
       11 ∈ bufKeys ∧ q.flit.cls ≠ .gt ∧ txCredit 9 (lnk9 s) 11 = true) ∧
     (∃ s, fresh s ∧ (lnk9 s).replay.length < 1024 ∧ (lnk9 s).link = .hello ∧ (lnk9 s).msgs = []) ∧
     (∃ s a, ready s ∧ none' s ∧ (lnk9 s).nakAt = some a ∧ a + cycUs (slReplayTo s 9) ≤ (advanceTo ((lnk9 s).lastTx + cycNs (slAckInt s 9)) { s with out := [] }).clk.cyc) ∧
     (∃ s, ¬ready s) ∧ (∃ s, ready s ∧ ∃ k ∈ bufKeys, creditDue (lnk9 s) k = true)) ∧
    (∃ (s : State) (c : Stored), (lnk9 s).replay = [c] ∧ ∀ d ∈ (lnk9 s).replay, d.resend = true ∨ d.replays < 8) ∧
    (∃ (s : State) (c : Stored), (lnk9 s).replay = [c] ∧ StoresWf s ∧ (∃ d ∈ (lnk9 s).replay, d.resend = false ∧ 8 ≤ d.replays) ∧ (lnk9 s).link = .up) ∧
    (∃ s : State, 0 < slWinUs s 9 ∧ s.clk.cyc = (lnk9 s).winAt + cycUs (slWinUs s 9)) := by
  refine ⟨⟨train9, by decide +kernel⟩, ⟨up9 { msgs := [0] } { pwr := .standby }, by decide +kernel⟩, ⟨⟨up9 { replay := [stored 0 true] }, _, rfl, by decide +kernel⟩,
      ⟨up9 { replay := [pktC 0 true] }, _, rfl, by decide +kernel⟩, ⟨active9 {} { link := .hello, replay := [pktC 0 true] }, _, rfl, by decide +kernel⟩,
      ⟨up9 { replay := List.replicate 1024 (stored 0 false) }, by decide +kernel⟩, ⟨active9 {} { link := .hello, msgs := [6], replay := [stored 0 false] }, 6, by decide +kernel⟩,
      ⟨up9 { tx := [(11, [{ flit := { net := .dat } }])] }, { flit := { net := .dat } }, by decide +kernel⟩, ⟨active9 {} { link := .hello }, by decide +kernel⟩,
      ⟨{ up9 { nakAt := some 0 } with clk := { cyc := 10 ^ 7 } }, 0, by decide +kernel⟩, ⟨train9, by decide +kernel⟩, ⟨up9 { credDue := [0] }, by decide +kernel⟩⟩,
    ⟨up9 { replay := [stored 7 false] }, _, rfl, by decide +kernel⟩, ?_, ⟨{ inMode .run with clk := { cyc := cycUs (slWinUs (inMode .run) 9) } }, by decide +kernel⟩⟩
  exact ⟨up9 { replay := [stored 8 false] }, _, rfl, by unfold StoresWf; decide +kernel⟩

theorem crc32cRun_lt (v : Nat) : ∀ (l : List Nat) (c : Nat), c < 2 ^ 32 → l.foldl (fun a i => crc32cBit a (v.testBit i)) c < 2 ^ 32
  | [], _, h => h
  | i :: l, c, h => crc32cRun_lt v l _ (by
      have h1 : c >>> 1 < 2 ^ 32 := by rw [Nat.shiftRight_eq_div_pow]; omega
      unfold crc32cBit
      dsimp only
      split
      · exact Nat.xor_lt_two_pow h1 (by decide)
      · exact h1)

/-- Every 736 bits are those of a container with a good CRC. -/
theorem test_container_bits (v : Nat) (hv : v < 2 ^ 736) : ∃ c : RawContainer, crcGood c = true ∧ c.toNat % 2 ^ 736 = v := by
  have hk : crc32c v 736 < 2 ^ 32 := Nat.xor_lt_two_pow (crc32cRun_lt v _ _ (by decide)) (by decide)
  generalize hcc : crc32c v 736 = k at hk
  have hc : (BitVec.ofNat 768 (v + k * 2 ^ 736) : RawContainer).toNat = v + k * 2 ^ 736 := by
    rw [BitVec.toNat_ofNat]; exact Nat.mod_eq_of_lt (by omega)
  have hm : (v + k * 2 ^ 736) % 2 ^ 736 = v := by omega
  refine ⟨BitVec.ofNat 768 (v + k * 2 ^ 736), ?_, by rw [hc, hm]⟩
  unfold crcGood nbits
  rw [hc, hm, hcc, Nat.shiftRight_eq_div_pow]
  exact decide_eq_true (by omega)

/-- Its fields below the CRC are read from those bits. -/
theorem test_container_fields (c : RawContainer) (hi lo : Nat) (h : lo ≤ hi) (h' : hi < 736) : nbits hi lo (c.toNat % 2 ^ 736) = nbits hi lo c.toNat := by
  unfold nbits
  refine Nat.eq_of_testBit_eq fun i => ?_
  simp only [Nat.testBit_mod_two_pow, Nat.testBit_shiftRight]
  by_cases g : i < hi + 1 - lo
  · simp only [g, decide_true, Bool.true_and, show lo + i < 736 by omega]
  · simp only [g, decide_false, Bool.false_and]

/-- The 736 bits of a container: NAK, ACK, SEQ, type and one item. -/
def raw (nak : Bool) (ty seq ack : Nat) (i : Option Item) : Nat :=
  b2n nak + ack * 2 ^ 4 + seq * 2 ^ 16 + ty * 2 ^ 28 + (match i with | some i => (itemBits i).1 | none => 0) * 2 ^ 32
def got (l : LinkSt) : State := active9 {} { l with link := .up }
theorem test_witness_ContainerReceives :
    let takes := fun (s : State) => (phy9 s).stage = .active ∧ (phy9 s).wantPwr = none ∧ (phy9 s).wantWidth = none ∧ (lnk9 s).link = .up ∧
      s.clk.cyc < (lnk9 s).winAt + cycUs (slWinUs s 9) ∧ (lnk9 s).winCnt + 1 < 2 ^ slWinExp s 9 ∧ s.flt.injs = []
    let items := fun (v : Nat) => parseItems 36 0 (nbits 735 32 v)
    let acked := fun (s : State) (v : Nat) => (lnk9 s).replay.findIdx? fun d => d.seq = BitVec.ofNat 12 (nbits 15 4 v)
    let plain := fun (s : State) (v : Nat) => takes s ∧ v < 2 ^ 736 ∧ (∀ d ∈ (lnk9 s).replay, d.seq ≠ BitVec.ofNat 12 (nbits 15 4 v)) ∧ v.testBit 0 = false
    let seqc := fun (v : Nat) => nbits 31 28 v
    let ahead := fun (s : State) (v : Nat) => (nbits 27 16 v + 4096 - (lnk9 s).exp.toNat) % 4096
    (∃ s : State, (phy9 s).stage ≠ .active) ∧ (∃ s v, plain s v ∧ items v = some [] ∧ seqc v ≠ 1) ∧ (∃ s v, plain s v ∧ items v = some [] ∧ seqc v = 1 ∧ ahead s v = 0) ∧
    (∃ s v, plain s v ∧ items v = some [.pkt { net := .rsp, opc := 1, vc := 4 } false 0] ∧ seqc v = 1 ∧ ahead s v = 0) ∧
    (∃ s v, plain s v ∧ items v = some [.msg 1] ∧ seqc v = 1 ∧ ahead s v = 0 ∧ msgMode 1 = 0) ∧
    (∀ d ∈ [1, 2047], ∃ s v, plain s v ∧ items v = some [] ∧ seqc v = 1 ∧ ahead s v = d ∧ (phy9 s).pwr = .active ∧ (phy9 s).deepAt = none ∧
      (∀ k ∈ bufKeys, creditDue (lnk9 s) k = false) ∧ (lnk9 s).nakAt = none) ∧
    (∃ s v, plain s v ∧ items v = some [] ∧ seqc v = 1 ∧ ahead s v = 2048) ∧
    (∃ s v, takes s ∧ v < 2 ^ 736 ∧ items v = some [] ∧ seqc v ≠ 1 ∧ v.testBit 0 = false ∧ acked s v = some 0) ∧
    (∃ s v, plain s v ∧ items v = some [.credit 0 2 255] ∧ seqc v ≠ 1 ∧
      (255 + 256 - spGet 0 (lnk9 s).freedIn 2) % 256 ≤ (spGet 0 (lnk9 s).sent 2 + 256 - spGet 0 (lnk9 s).freedIn 2) % 256) ∧
    (∃ s v, takes s ∧ v < 2 ^ 736 ∧ items v = some [] ∧ seqc v ≠ 1 ∧ v.testBit 0 = true ∧ acked s v = none ∧ ∀ d ∈ (lnk9 s).replay, d.resend = true ∨ d.replays < 8) ∧
    (∃ s, takes s ∧ (if (lnk9 s).firstWin = true then slFirstThr s 9 else slCrcThr s 9) = (lnk9 s).crcCnt + 1 ∧ s.flt.strands[(9 : Fin 10)].st = .inn) := by
  refine ⟨⟨train9, by decide +kernel⟩, ⟨got {}, raw false 2 0 9 none, by decide +kernel⟩, ⟨got {}, raw false 1 0 9 none, by decide +kernel⟩,
    ⟨got {}, raw false 1 0 9 (some (.pkt { net := .rsp, opc := 1, vc := 4 } false 0)), by decide +kernel⟩, ⟨got {}, raw false 1 0 9 (some (.msg 1)), by decide +kernel⟩,
    fun d h => ⟨got {}, raw false 1 d 9 none, by revert d; decide +kernel⟩, ⟨got {}, raw false 1 2048 9 none, by decide +kernel⟩,
    ⟨got { replay := [stored 0 false] }, raw false 2 0 5 none, by decide +kernel⟩, ⟨got { sent := [(2, 255)] }, raw false 2 0 9 (some (.credit 0 2 255)), by decide +kernel⟩,
    ⟨got { replay := [stored 7 false] }, raw true 2 0 9 none, by decide +kernel⟩, ⟨got { firstWin := false, crcCnt := slCrcThr (inMode .run) 9 - 1 }, by decide +kernel⟩⟩

def inbox (n : Nat) (m : Msg) (s : State := inMode .run) : State := withPool (fun p => { p with inbox := [(n, m)] }) s
theorem test_witness_Sessions :
    (∃ s : State, (lnk9 s).link = .hello ∧ StoresWf s) ∧ (∃ s : State, (lnk9 s).link = .up) ∧ (∃ s : State, (lnk9 s).link = .inactive) ∧
    (let due := fun (e : Nat × Msg) => decide (msgType e.2 = 1) && decide (e.1 = 9)
     (∃ s : State, s.pool.inbox.find? due = none) ∧ (∃ s : State, (s.pool.inbox.find? due).isSome = true ∧ (lnk9 s).link = .up) ∧
     (∃ s : State, s.pool.inbox.find? due = some (9, 1) ∧ (lnk9 s).link = .hello ∧ (parseHello 1).serial = (lnk9 s).tcbSerial ∧ nbits 7 4 (parseHello 1).cap.toNat = 0) ∧
     (∃ s : State, s.pool.inbox.find? due = some (9, 1) ∧ (lnk9 s).link = .hello ∧ (parseHello 1).serial ≠ (lnk9 s).tcbSerial)) ∧
    (∃ s : State, (lnk9 s).link = .down ∧ (phy9 s).stage = .active ∧ ∀ k : Net, spGet [] s.ports[strandP 9].injq (reKey k) = []) ∧
    (∃ s : State, (lnk9 s).link = .down ∧ (phy9 s).stage ≠ .active ∧ ∀ k : Net, spGet [] s.ports[strandP 9].injq (reKey k) = []) :=
  ⟨⟨onLnk 9 { link := .hello }, by unfold StoresWf; decide +kernel⟩, ⟨onLnk 9 { link := .up }, by decide +kernel⟩, ⟨inMode .run, by decide +kernel⟩,
    ⟨⟨inMode .run, by decide +kernel⟩, ⟨inbox 9 1 (onLnk 9 { link := .up }), by decide +kernel⟩, ⟨inbox 9 1 (onLnk 9 { link := .hello }), by decide +kernel⟩,
      ⟨inbox 9 1 (onLnk 9 { link := .hello, tcbSerial := 8 }), by decide +kernel⟩⟩,
    ⟨active9 {} { link := .down }, by decide +kernel, by decide +kernel, fun k => by cases k <;> decide +kernel⟩, ⟨onLnk 9 { link := .down }, by decide +kernel, by decide +kernel, fun k => by cases k <;> decide +kernel⟩⟩

/-! ### Sequencer and pool -/

/-- Strand 9 holds one received RSP flit, its port powered up; the sequencer is w; its partner device is 0. -/
def seqd (w : SeqSt) (rx : List (Nat × List RxFlit) := []) (crd : List (Nat × Nat) := [(qKey .rsp .be, 1)]) : State := { onPort (strandP 9) { st := .active, injCrd := crd } (onLnk 9 { link := .up, rx := rx }) with seqr := w }
def rspFlit (e : BitVec 16) (dst : BitVec 5 := 0) : Flit := { net := .rsp, opc := 1, cls := .be, xf := true, dstdev := dst, srcdev := 3, e2seq := e }
def arrived (w : SeqSt) (e : BitVec 16) (dst : BitVec 5 := 0) (held : Bool := false) : State := seqd w [(4, [{ flit := rspFlit e dst, held := held }])]
def gtFlit (e : BitVec 16) : Flit := { rspFlit e with cls := .gt }
def rxOf (s : State) : List RxFlit := spGet [] s.strands[(9 : Fin 10)].lnk.rx 4
/-- The canonical form of every map of the sequencer and of the receive buffers. -/
def seqCanon (s : State) : Bool :=
  spWf 0 s.seqr.next && spWf ([] : List Nat) s.seqr.map && spWf 0 s.seqr.gapAt && spWf 0 s.seqr.lastOn && spWf 0 s.seqr.lastAt && spWf 0 s.seqr.acked &&
    spWf 0 s.seqr.e2acked && spWf 0 s.seqr.peer && spWf 0 s.seqr.state && (List.finRange 10).all fun m => spWf [] s.strands[m].lnk.rx
/-- The distance of the flit's value from NEXT, whether its map bit is set, and whether its device is this one, past its SSYNC. -/
def seqDist (s : State) (f : Flit) : Nat := (f.e2seq.toNat + 2 ^ 16 - spGet 0 s.seqr.next (flitStream f)) % 2 ^ 16
def seqMapped (s : State) (f : Flit) : Bool := (spGet [] s.seqr.map (flitStream f)).contains f.e2seq.toNat
def seqMine (s : State) (f : Flit) : Bool := decide (f.dstdev = ownDev s) && decide (spGet 0 s.seqr.peer f.srcdev.toNat = 1)
/-- The first flit of the buffer that is not held, and the port open. -/
def seqHead (s : State) (f : Flit) : Bool :=
  decide (((rxOf s).findIdx? fun r => !r.held) = some 0) && decide ((rxOf s)[0]?.map (·.flit) = some f) && portEn s.ports[strandP 9]
def up3 : SeqSt := { peer := [(3, 1)] }
def key3 : Nat := flitStream (rspFlit 0)

/-- The handover has passed: nothing was released on another strand in the last 2 us. -/
def handed (s : State) (key : Nat) : Bool :=
  decide (spGet 0 s.seqr.lastOn key = 0 ∨ spGet 0 s.seqr.lastOn key = 10 ∨ spGet 0 s.seqr.lastAt key + cycUs 2 ≤ s.clk.cyc)
theorem test_witness_SequencerArrivals :
    (∃ s : State, (∀ r ∈ rxOf s, r.held = true) ∧ rxOf s ≠ []) ∧ (∃ s : State, portEn s.ports[strandP 9] = false) ∧
    (∀ c ∈ [true, false], ∃ s f, seqHead s f = true ∧ f.dstdev ≠ ownDev s ∧ seqCanon s = true ∧ rxCan 9 f s = c) ∧
    (∃ s f, seqHead s f = true ∧ f.dstdev = ownDev s ∧ spGet 0 s.seqr.peer f.srcdev.toNat ≠ 1) ∧
    (∃ s f, seqHead s f = true ∧ seqMine s f = true ∧ seqDist s f = 32768) ∧
    (∃ s f, seqHead s f = true ∧ seqMine s f = true ∧ seqDist s f = 4095 ∧ seqMapped s f = true) ∧
    (∃ s f, seqHead s f = true ∧ seqMine s f = true ∧ seqDist s f = 4096) ∧
    (∃ s f, seqHead s f = true ∧ seqMine s f = true ∧ seqDist s f = 32767) ∧
    (∃ s f, seqHead s f = true ∧ seqMine s f = true ∧ seqDist s f = 1 ∧ seqMapped s f = false ∧ f.cls ≠ .gt ∧ (spGet [] s.seqr.map (flitStream f)).contains (spGet 0 s.seqr.next (flitStream f)) = false) ∧
    (∀ c ∈ [true, false], ∃ s f, seqHead s f = true ∧ seqMine s f = true ∧ seqDist s f = 4095 ∧ seqMapped s f = false ∧ f.cls = .gt ∧ rxCan 9 f s = c ∧ seqCanon s = true ∧
      heldAt s (flitStream f) = []) ∧
    (∀ l ∈ [0, 10, 3], ∃ s f, seqHead s f = true ∧ seqMine s f = true ∧ seqDist s f = 0 ∧ seqCanon s = true ∧ rxCan 9 f s = true ∧ spGet [] s.seqr.map (flitStream f) = [] ∧
      heldAt s (flitStream f) = [] ∧ f.cls ≠ .gt ∧ spGet 0 s.seqr.lastOn (flitStream f) = l ∧ handed s (flitStream f) = true) := by
  refine ⟨⟨arrived up3 1 0 true, by decide +kernel⟩, ⟨inMode .run, by decide +kernel⟩,
    fun c h => ⟨seqd up3 [(4, [{ flit := rspFlit 1 7 }])] (if c then [(qKey .rsp .be, 1)] else []), rspFlit 1 7, by revert c; decide +kernel⟩,
    ⟨arrived {} 1, rspFlit 1, by decide +kernel⟩, ⟨arrived up3 32768, rspFlit 32768, by decide +kernel⟩,
    ⟨arrived { up3 with map := [(key3, [4095])] } 4095, rspFlit 4095, by decide +kernel⟩, ⟨arrived up3 4096, rspFlit 4096, by decide +kernel⟩,
    ⟨arrived up3 32767, rspFlit 32767, by decide +kernel⟩, ⟨arrived up3 1, rspFlit 1, by decide +kernel⟩,
    fun c h => ⟨seqd up3 [(4, [{ flit := gtFlit 4095 }])] (if c then [(qKey .rsp .gt, 1)] else []), gtFlit 4095, by revert c; decide +kernel⟩, fun l h => ?_⟩
  exact ⟨{ arrived { up3 with lastOn := if l = 0 then [] else [(key3, l)], lastAt := [(key3, 5)] } 0 with clk := { cyc := 5 + cycUs 2 } }, rspFlit 0, by revert l; decide +kernel⟩

def routed3 (s : State) : State := { s with tbls := [(drKey s.epoch.active 3, 0x1090909)] }
theorem test_witness_Sequencer :
    (∃ (s : State) (dev : Fin 32) (stream : Fin 3), heldAt s (3 * dev.val + stream.val) = []) ∧
    (∃ (s : State) (dev : Fin 32) (stream : Fin 3) (m : Fin 10) (k i : Nat) (r : RxFlit), let key := 3 * dev.val + stream.val
      seqCanon s = true ∧ heldAt s key = [(m, k, i, r)] ∧ r.flit.e2seq.toNat = spGet 0 s.seqr.next key ∧ spGet [] s.seqr.map key = [spGet 0 s.seqr.next key] ∧
      rxCan m r.flit s = true) ∧
    (∃ (s : State) (dev : Fin 32) (stream : Fin 3) (m : Fin 10) (a : Nat), let key := 3 * dev.val + stream.val
      seqCanon s = true ∧ firstHeld s key = some m ∧ spGet 0 s.seqr.gapAt key = a + 1 ∧ (spGet 0 s.seqr.next key + 1) % 2 ^ 16 ∉ spGet [] s.seqr.map key) ∧
    (∃ (s : State) (d : Nat), d < 32 ∧ ∀ k < 3, spGet 0 s.seqr.next (streamKey d k) = spGet 0 s.seqr.e2acked (streamKey d k)) ∧
    (∃ (s : State) (d : Nat), d < 32 ∧ seqCanon s = true ∧ ∃ k < 3, spGet 0 s.seqr.next (streamKey d k) ≠ spGet 0 s.seqr.e2acked (streamKey d k)) ∧
    (let mail := fun (ty : Nat) (s : State) (e : Nat × Msg) => s.pool.inbox.find? (fun x => decide (msgType x.2 = ty)) = some e ∧ seqCanon s = true
     (∃ s e, mail 7 s e) ∧ (∃ s e, mail 8 s e ∧ trExit s s.epoch.active (msgSrc e.2) = some 9) ∧
     (∃ s e, mail 9 s e ∧ spGet 0 s.seqr.state (msgSrc e.2) ≠ 1) ∧ (∃ s e, mail 9 s e ∧ spGet 0 s.seqr.state (msgSrc e.2) = 1)) := by
  refine ⟨⟨inMode .run, 3, 0, by decide +kernel⟩, ⟨arrived { up3 with map := [(key3, [0])] } 0 0 true, 3, 1, 9, 4, 0, { flit := rspFlit 0, held := true }, by decide +kernel⟩,
    ⟨arrived { up3 with map := [(key3, [2])], gapAt := [(key3, 6)] } 2 0 true, 3, 1, 9, 5, by decide +kernel⟩, ⟨inMode .run, 3, by decide +kernel⟩,
    ⟨seqd { next := [(11, 4)] }, 3, by decide +kernel, by decide +kernel, 2, by decide +kernel⟩, ⟨inbox 9 7, (9, 7), by decide +kernel⟩,
    ⟨routed3 (inbox 9 0x18008 (onLnk 9 { link := .up })), (9, 0x18008), by decide +kernel⟩, ⟨inbox 9 0x18009, (9, 0x18009), by decide +kernel⟩,
    ⟨{ inbox 9 0x18009 with seqr := { state := [(3, 1)] } }, (9, 0x18009), by decide +kernel⟩⟩

def inMail (ty : Nat) (s : State) : Option (Nat × Msg) := s.pool.inbox.find? (fun x => decide (msgType x.2 = ty))
def asRoot (d : Disc) (s : State := inMode .run) : State := withPool (fun p => { p with root := true, disc := d }) s
def rootIn (s : State) : Prop := discEn s = true ∧ s.pool.root = true ∧ ∃ pin, bestRoot s = some (pin, s.ident.serial.toNat)
def noElig (s : State := inMode .run) : State := withReg 0x6040 0xC s
def forUs (s : State) (m : Msg) : Prop := discEn s = true ∧ s.pool.disc ≠ .tooDeep ∧ BitVec.ofNat 64 (msgFld m 119 56) = s.ident.serial
/-- An ENUM for the device of serial 1: ID 5, its CONFLICT bit c. -/
def enumMsg (c : Nat) : Msg := BitVec.ofNat 224 (2 + at' 1 56 + at' 5 120 + at' c 125)
theorem test_witness_PoolMessages :
    (∃ s, inMail 4 s = none ∧ inMail 2 s = none ∧ inMail 3 s = none) ∧ (∃ s : State, s.pool.root = false) ∧ (∃ s : State, s.pool.root = true ∧ s.pool.disc ≠ .elect) ∧
    (∃ s, rootIn s ∧ s.pool.disc = .elect ∧ s.ms.mode ≠ .drain) ∧
    (∃ s m, inMail 4 s = some (9, m) ∧ discEn s = false) ∧ (∃ s m, inMail 4 s = some (9, m) ∧ s.pool.root = false) ∧
    (∃ s m, inMail 4 s = some (9, m) ∧ discEn s = true ∧ s.pool.root = true ∧ s.pool.disc = .elect) ∧
    (∃ s m, inMail 4 s = some (9, m) ∧ rootIn s ∧ s.pool.disc ≠ .elect ∧ s.ms.mode ≠ .drain) ∧
    (∃ s m, inMail 2 s = some (9, m) ∧ ¬forUs s m) ∧
    (∃ s m, inMail 2 s = some (9, m) ∧ forUs s m ∧ s.ms.mode = .drain ∧ s.pool.parent = some 9) ∧
    (∀ c ∈ [0, 1], ∃ s m, inMail 2 s = some (9, m) ∧ forUs s m ∧ s.ms.mode ≠ .drain ∧ s.pool.root = false ∧ bestRoot s = none ∧ msgFld m 125 125 = c) ∧
    (∃ s m, inMail 3 s = some (9, m)) := by
  refine ⟨⟨inMode .run, by decide +kernel⟩, ⟨inMode .run, by decide +kernel⟩, ⟨asRoot .enumer, by decide +kernel⟩,
    ⟨asRoot .elect, ⟨by decide +kernel, by decide +kernel, false, by decide +kernel⟩, by decide +kernel⟩, ⟨inbox 9 4 (withReg 0x6040 5), 4, by decide +kernel⟩,
    ⟨inbox 9 4, 4, by decide +kernel⟩, ⟨inbox 9 4 (asRoot .elect), 4, by decide +kernel⟩,
    ⟨inbox 9 4 (asRoot .enumer), 4, by decide +kernel, ⟨by decide +kernel, by decide +kernel, false, by decide +kernel⟩, by decide +kernel⟩,
    ⟨inbox 9 2, 2, by unfold forUs; decide +kernel⟩, ⟨inbox 9 (enumMsg 0) (withPool (fun p => { p with parent := some 9 }) (inMode .drain)), enumMsg 0, by unfold forUs; decide +kernel⟩,
    ?_, ⟨inbox 9 3, 3, by decide +kernel⟩⟩
  intro c hc
  exact ⟨inbox 9 (enumMsg c) noElig, enumMsg c, by unfold forUs; revert c; decide +kernel⟩

def pushing (t : Option Nat) (v : BitVec 8) (s : State := timed) : State := withPool (fun p => { p with pushTime := t, pushVer := v }) s
theorem test_witness_PoolPushes :
    (∃ s, takesPush s = true ∧ routeLocked s = true) ∧
    (∃ s m, inMail 5 s = some (9, m) ∧ ¬takesPush s = true) ∧
    (∃ s m, inMail 5 s = some (9, m) ∧ takesPush s = true ∧ routeLocked s = false ∧ StoresWf s ∧ s.epoch.wroteDr = false) ∧
    (∃ s m, inMail 6 s = some (9, m) ∧ ¬takesPush s = true) ∧
    (∃ s m, inMail 6 s = some (9, m) ∧ takesPush s = true ∧ routeLocked s = false ∧ beadLocked s = false ∧ BitVec.ofNat 8 (msgFld m 63 56) ≠ s.pool.pushVer) ∧
    (∃ s m, inMail 6 s = some (9, m) ∧ takesPush s = true ∧ routeLocked s = false ∧ beadLocked s = false ∧ BitVec.ofNat 8 (msgFld m 63 56) = s.pool.pushVer) ∧
    (∃ s : State, s.pool.pushTime = none) ∧ (∃ s : State, s.pool.pushTime ≠ none ∧ takesPush s = false) ∧ (∃ s : State, s.pool.pushTime ≠ none ∧ routeLocked s = true) ∧
    (∃ s f, s.pool.pushTime = some 3000004000 ∧ takesPush s = true ∧ routeLocked s = false ∧ beadLocked s = false ∧ checkConfig (begin s) = some f ∧ StoresWf s) ∧
    (∀ at' ∈ [3000001999, 3000002000], ∃ s, s.pool.pushTime = some at' ∧ takesPush s = true ∧ routeLocked s = false ∧ beadLocked s = false ∧ checkConfig (begin s) = none ∧
      ftimeNs s + 2000 = 3000002000) := by
  refine ⟨⟨onGq { act := 1, time := 3000002000 }, by decide +kernel⟩, ⟨inbox 9 5 (inMode .drain), 5, by decide +kernel⟩,
    ⟨inbox 9 5, 5, by unfold StoresWf; decide +kernel⟩, ⟨inbox 9 6 (withReg 0x6040 9), 6, by decide +kernel⟩, ⟨inbox 9 6 (pushing none 1), 6, by decide +kernel⟩,
    ⟨inbox 9 6, 6, by decide +kernel⟩, ⟨inMode .run, by decide +kernel⟩, ⟨pushing (some 5) 0 (inMode .drain), by decide +kernel⟩,
    ⟨pushing (some 5) 0 (onGq { act := 1, time := 3000002000 }), by decide +kernel⟩,
    ⟨pushing (some 3000004000) 0 (withPool (fun p => { p with disc := .collide }) timed), (.devid, 0x6800), by unfold StoresWf; decide +kernel⟩, ?_⟩
  intro t ht
  exact ⟨pushing (some t) 0, by revert t; decide +kernel⟩
end Sys2Proof.Tests
end

section
/-! PROOFS. The power-on decision (R394), made at P, as PF_WARN_n rises, and by FAB_CMD.RESTORE. -/

namespace Sys2Proof.Machine

/-! ### What a register reads after it is written -/

theorem spGet_of_lt_keys {α : Type} [DecidableEq α] {d : Nat → α} {e : α} {m : Sparse α} {k : Nat} :
    ∀ {b : Nat}, keyWf d b m = true → k < b → spGet e m k = e := by
  induction m with
  | nil => intro b _ _; rfl
  | cons x r ih =>
    intro b h hk
    obtain ⟨j, v⟩ := x
    simp only [keyWf, Bool.and_eq_true, decide_eq_true_eq] at h
    obtain ⟨⟨hj, -⟩, hr⟩ := h
    rw [spGet, if_neg (by omega)]
    exact ih hr (by omega)

/-- A key of a canonical map is listed once, so that a deleted one reads the default. -/
theorem spGet_spDel_self {α : Type} [DecidableEq α] {d : Nat → α} {e : α} {m : Sparse α} {k : Nat} :
    ∀ {b : Nat}, keyWf d b m = true → spGet e (spDel m k) k = e := by
  induction m with
  | nil => intro b _; rfl
  | cons x r ih =>
    intro b h
    obtain ⟨j, v⟩ := x
    simp only [keyWf, Bool.and_eq_true] at h
    obtain ⟨-, hr⟩ := h
    simp only [spDel]
    split
    · next hj => exact spGet_of_lt_keys hr (by omega)
    · next hj => rw [spGet, if_neg hj]; exact ih hr

theorem regGet_regSet_self {s : State} (h : keyWf regReset 0 s.regs = true) (off : Nat) (w : Word) :
    regGet (regSet off w s) off = w := by
  unfold regGet regSet
  by_cases hw : w = regReset off
  · simp only [spSet, if_pos hw]
    exact (spGet_spDel_self h).trans hw.symm
  · exact spGet_spSet_self hw

theorem StoresWf.keyWf_regs {s : State} (h : StoresWf s) : keyWf regReset 0 s.regs = true := by
  obtain ⟨hs, -⟩ := h
  simp only [storesOk, Bool.and_eq_true] at hs
  obtain ⟨⟨hregs, -⟩, -⟩ := hs
  exact hregs

theorem setBit_testBit_self (n i : Nat) : (setBit n i).testBit i = true := by
  unfold setBit
  split
  · assumption
  · next h => rw [Nat.add_comm, Nat.testBit_two_pow_add_eq, Bool.not_eq_true', ← Bool.not_eq_true]; exact h

theorem word_setBit_testBit {i : Nat} (hi : i < 64) (n : Nat) : (word (setBit n i)).toNat.testBit i = true := by
  rw [word, BitVec.toNat_ofNat, Nat.testBit_mod_two_pow, setBit_testBit_self, Bool.and_true]
  exact decide_eq_true hi

/-- A refused FAB_CMD write leaves CMD_REJ set. -/
theorem cmdRej_bit {s : State} (h : StoresWf s) : (regGet (cmdRej s) 0x800).toNat.testBit 16 = true := by
  unfold cmdRej regSetBit
  rw [regGet_regSet_self h.keyWf_regs]
  exact word_setBit_testBit (by decide) _

/-! ### What HOLD and RESTORE are entered with -/

theorem Quiet.straps {s t : State} (h : Quiet s t) : t.straps = s.straps := congrArg (fun x => x.2.1) h.part
theorem Quiet.pins {s t : State} (h : Quiet s t) : pinsHeld t.pins = pinsHeld s.pins := congrArg (fun x => x.2.2.1) h.part
theorem Quiet.ms {s t : State} (h : Quiet s t) : t.ms = s.ms := congrArg (fun x => x.2.2.2.1) h.part
theorem Quiet.ks {s t : State} (h : Quiet s t) : t.ks = s.ks := congrArg (fun x => x.2.2.2.2.1) h.part

/-- HOLD is entered by a move of the mode machine, after which only the ports go down. -/
theorem enterHold_quiet (why : HoldWhy) (s : State) :
    Quiet { s with ms := { s.ms with mode := .hold, why := why, loadEnd := none, checking := none } } (enterHold why s) :=
  keep_forEach (fun _ _ h => (portDisable_calm (Calm.refl _)).toQuiet h) (Quiet.refl _)

@[simp] theorem enterHold_straps (why : HoldWhy) (s : State) : (enterHold why s).straps = s.straps := (enterHold_quiet why s).straps
@[simp] theorem enterHold_pinsHeld (why : HoldWhy) (s : State) : pinsHeld (enterHold why s).pins = pinsHeld s.pins :=
  (enterHold_quiet why s).pins
@[simp] theorem enterHold_ms (why : HoldWhy) (s : State) :
    (enterHold why s).ms = { s.ms with mode := .hold, why := why, loadEnd := none, checking := none } :=
  (enterHold_quiet why s).ms
@[simp] theorem enterHold_ks (why : HoldWhy) (s : State) : (enterHold why s).ks = s.ks := (enterHold_quiet why s).ks

/-- RESTORE is entered by a move of the mode machine and the keepsake, after which only time is seeded. -/
theorem restoreEnter_quiet (s : State) :
    Quiet { s with
      ms := { s.ms with mode := .restore, why := .none, joinAt := s.clk.cyc, checking := none }
      ks := { s.ks with attempts := min 15 (s.ks.attempts + 1), ftime := s.ks.image.ftime }
      power := { s.power with schedAt := s.clk.cyc, done := 0, owed := [] } } (restoreEnter s) :=
  seedTime_quiet (Quiet.refl _)

@[simp] theorem restoreEnter_straps (s : State) : (restoreEnter s).straps = s.straps := (restoreEnter_quiet s).straps
@[simp] theorem restoreEnter_pinsHeld (s : State) : pinsHeld (restoreEnter s).pins = pinsHeld s.pins := (restoreEnter_quiet s).pins
@[simp] theorem restoreEnter_ms (s : State) :
    (restoreEnter s).ms = { s.ms with mode := .restore, why := .none, joinAt := s.clk.cyc, checking := none } :=
  (restoreEnter_quiet s).ms
@[simp] theorem restoreEnter_ks (s : State) :
    (restoreEnter s).ks = { s.ks with attempts := min 15 (s.ks.attempts + 1), ftime := s.ks.image.ftime } :=
  (restoreEnter_quiet s).ks

/-! ### The rows of the decision -/

/-- FAB_RESUME of word resume refuses keepsake k (R394, sixth row). -/
abbrev ResumeRefuses (k : KeepSt) (resume : Word) : Prop :=
  (k.incomplete = true ∧ fld 0 0 resume = 0) ∨ (k.doubt = true ∧ fld 1 1 resume = 0) ∨
    (k.attempts = fld 11 8 resume ∧ fld 11 8 resume ≠ 0)

/-- State t is what R394's rows make of keepsake k under these straps, this level of PF_WARN_n and this FAB_RESUME. -/
def DecidedBy (k : KeepSt) (straps : Straps) (low : Bool) (resume : Word) (t : State) : Prop :=
  t.straps = straps ∧ t.ks.valid = k.valid ∧ t.ks.image = k.image ∧
    (if k.valid = false ∨ k.lost = true then t.ms.mode = .hold ∧ t.ms.why = .noImage
     else if straps.test = true ∨ straps ≠ k.straps then t.ms.mode = .hold ∧ t.ms.why = .strap
     else if k.auto = false then t.ms.mode = .hold ∧ t.ms.why = .noImage
     else if low = true then t.ms.mode = .hold ∧ t.ms.why = .power
     else if ResumeRefuses k resume then t.ms.mode = .hold ∧ t.ms.why = .resume
     else t.ms.mode = .restore ∧ t.ks.attempts = min 15 (k.attempts + 1))

theorem keepsakeGood_eq_false_iff (s : State) : keepsakeGood s = false ↔ s.ks.valid = false ∨ s.ks.lost = true := by
  simp only [keepsakeGood, Bool.and_eq_false_iff, Bool.not_eq_false']

theorem resumeRefuses_iff (s : State) : resumeRefuses s = true ↔ ResumeRefuses s.ks (regGet s 0x58) := by
  simp only [resumeRefuses, ResumeRefuses, Bool.or_eq_true, Bool.and_eq_true, decide_eq_true_eq, or_assoc]

/-- A row that holds the fabric keeps the keepsake and shows its reason. -/
theorem enterHold_shows (why : HoldWhy) (s : State) :
    (enterHold why s).straps = s.straps ∧ (enterHold why s).ks.valid = s.ks.valid ∧ (enterHold why s).ks.image = s.ks.image ∧
      (enterHold why s).ms.mode = .hold ∧ (enterHold why s).ms.why = why := by
  simp only [enterHold_straps, enterHold_ks, enterHold_ms, and_self]

/-- Each row enters HOLD with its reason, the last one RESTORE. -/
theorem powerDecision_eq (s : State) :
    powerDecision s =
      if s.ks.valid = false ∨ s.ks.lost = true then enterHold .noImage s
      else if s.straps.test = true ∨ s.straps ≠ s.ks.straps then enterHold .strap s
      else if s.ks.auto = false then enterHold .noImage s
      else if s.pins.pfWarnLow = true then enterHold .power s
      else if ResumeRefuses s.ks (regGet s 0x58) then enterHold .resume s
      else restoreEnter s := by
  simp only [powerDecision, Bool.not_eq_true', keepsakeGood_eq_false_iff, resumeRefuses_iff]

/-- The decision goes by the rows; FAB_RESUME is looked at only where the keepsake is good. -/
theorem powerDecision_decidedBy (s : State) (resume : Word) (hr : keepsakeGood s = true → regGet s 0x58 = resume) :
    DecidedBy s.ks s.straps s.pins.pfWarnLow resume (powerDecision s) := by
  unfold DecidedBy
  rw [powerDecision_eq]
  by_cases hlost : s.ks.valid = false ∨ s.ks.lost = true
  case pos => simpa only [if_pos hlost] using enterHold_shows .noImage s
  have hgood : keepsakeGood s = true := by
    rw [← Bool.not_eq_false, keepsakeGood_eq_false_iff]
    exact hlost
  rw [hr hgood]
  simp only [if_neg hlost]
  by_cases hstrap : s.straps.test = true ∨ s.straps ≠ s.ks.straps
  case pos => simpa only [if_pos hstrap] using enterHold_shows .strap s
  simp only [if_neg hstrap]
  by_cases hauto : s.ks.auto = false
  case pos => simpa only [if_pos hauto] using enterHold_shows .noImage s
  simp only [if_neg hauto]
  by_cases hlow : s.pins.pfWarnLow = true
  case pos => simpa only [if_pos hlow] using enterHold_shows .power s
  simp only [if_neg hlow]
  by_cases hrefuse : ResumeRefuses s.ks resume
  case pos => simpa only [if_pos hrefuse] using enterHold_shows .resume s
  simp only [if_neg hrefuse, restoreEnter_straps, restoreEnter_ks, restoreEnter_ms, and_self]

/-- The decision ends in HOLD or in RESTORE. -/
theorem powerDecision_keeps {P : State → Prop} {s : State} (hhold : ∀ why, P (enterHold why s)) (hrestore : P (restoreEnter s)) :
    P (powerDecision s) := by
  unfold powerDecision
  exact keep_cond (fun _ => hhold _) fun _ => keep_cond (fun _ => hhold _) fun _ => keep_cond (fun _ => hhold _) fun _ =>
    keep_cond (fun _ => hhold _) fun _ => keep_cond (fun _ => hhold _) fun _ => hrestore

theorem powerDecision_pinsHeld (s : State) : pinsHeld (powerDecision s).pins = pinsHeld s.pins :=
  powerDecision_keeps (P := fun t => pinsHeld t.pins = pinsHeld s.pins) (enterHold_pinsHeld · s) (restoreEnter_pinsHeld s)

/-! ### The three ways to the decision -/

/-- At P a good keepsake gives FAB_RESUME its saved word (R369, R398). -/
theorem powerKept_resume {s : State} (h : keepsakeGood s = true) (hs : keyWf regReset 0 s.regs = true) :
    regGet (powerKept s) 0x58 = spGet (regReset 0x58) s.ks.image.regs 0x58 := by
  simp only [powerKept, h, Bool.not_true, Bool.false_eq_true, if_false]
  exact regGet_regSet_self (keyWf_set hs) _ _

/-- What POWER_ON leaves before the keepsake is looked at: the core without power, the balls and the straps sampled. -/
def poweredUp (test host0 low : Bool) (s : State) : State :=
  { coreOff s with
    straps := { test := test, confHost0 := host0 }
    ks := { s.ks with ftime := 0, calcCrc := 0 }
    pins := { s.pins with pfWarnLow := low, pfDone := false, keepEn := false, keepGone := false }
    power := { schedAt := s.clk.cyc } }

theorem powerOnDo_eq (test host0 low : Bool) (s : State) :
    powerOnDo test host0 low s = powerDecision (powerKept (poweredUp test host0 low s)) := rfl

/-- POWER_ON samples the balls and the straps, and decides with the FAB_RESUME of the keepsake. -/
theorem powerOnDo_decides (test host0 low : Bool) (s : State) :
    let t := powerOnDo test host0 low s
    t.pins.pfWarnLow = low ∧ t.pins.pfDone = false ∧ t.pins.keepEn = false ∧
      DecidedBy s.ks { test := test, confHost0 := host0 } low (spGet (regReset 0x58) s.ks.image.regs 0x58) t := by
  rw [powerOnDo_eq]
  let u := poweredUp test host0 low s
  have hkept : Quiet u (powerKept u) := powerKept_quiet (Quiet.refl u)
  have hlow : (powerKept u).pins.pfWarnLow = low := congrArg PinSt.pfWarnLow hkept.pins
  have hresume : keepsakeGood (powerKept u) = true →
      regGet (powerKept u) 0x58 = spGet (regReset 0x58) s.ks.image.regs 0x58 := fun hgood =>
    powerKept_resume (by rw [keepsakeGood, hkept.ks] at hgood; exact hgood) rfl
  have hrows := powerDecision_decidedBy (powerKept u) _ hresume
  rw [hkept.ks, hkept.straps, hlow] at hrows
  have hheld : pinsHeld (powerDecision (powerKept u)).pins = pinsHeld u.pins := (powerDecision_pinsHeld _).trans hkept.pins
  exact ⟨congrArg PinSt.pfWarnLow hheld, congrArg PinSt.pfDone hheld, congrArg PinSt.keepEn hheld, hrows⟩

/-- The rise of PF_WARN_n in HOLD with POWER makes the decision again, the pin now high. -/
theorem pfRiseDo_decides {s : State} (hm : s.ms.mode = .hold) (hw : s.ms.why = .power) (hr : s.ms.heldReset = none) :
    (pfRiseDo s).pins.pfWarnLow = false ∧ DecidedBy s.ks s.straps false (regGet s 0x58) (pfRiseDo s) := by
  simp only [pfRiseDo, hm, hw, hr, and_self, if_true]
  exact ⟨congrArg PinSt.pfWarnLow (powerDecision_pinsHeld _), powerDecision_decidedBy _ _ fun _ => rfl⟩

/-- FAB_CMD.RESTORE in HOLD is refused by the first, second and fifth rows, and else enters RESTORE. -/
theorem cmdRestore_hold {s : State} (hm : s.ms.mode = .hold) :
    cmdRestore s = if s.ks.valid = false ∨ s.ks.lost = true ∨ s.straps.test = true ∨ s.pins.pfWarnLow = true then cmdRej s
      else restoreEnter s := by
  unfold cmdRestore
  simp only [hm, ne_eq, not_true_eq_false, false_or, Bool.not_eq_true', keepsakeGood_eq_false_iff, or_assoc]

theorem fabCmd_restore (byClasp : Bool) (s : State) : fabCmd byClasp 4 s = cmdRestore s := by
  cases byClasp <;> rfl

theorem exec_fabCmdRestore_hold {s : State} (ho : MatrixOpen s) (hm : s.ms.mode = .hold) :
    exec (.fabCmdRestore .mgt) s = .next { emit (.ack .mgt) (cmdRestore (begin s)) with pending := s.pending } := by
  have hw := fabCmd_write (m := .mgt) (s := begin s) (.inl rfl) ho (by simp only [begin_ms, hm, ne_eq, reduceCtorEq, not_false_eq_true]) (fun _ => rfl) 4
  exact congrArg (fun x => Host.Outcome.next { x with pending := s.pending })
    (hw.trans (congrArg (emit _) (fabCmd_restore false _)))

/-- Settles O9: each of the three commands makes the decision of R394, or the part of it that is its own. -/
theorem powerOnDecision : Obligations.PowerOnDecision := by
  unfold Obligations.PowerOnDecision
  intro s decides
  refine ⟨fun test host0 low => ?powerOn, fun hm hw hr => ?rise, fun hm ho => ?command⟩
  case powerOn => exact Completes.of_performs rfl (powerOnDo_decides test host0 low (begin s))
  case rise => exact Completes.of_performs rfl (pfRiseDo_decides (s := begin s) hm hw hr)
  case command =>
    refine ⟨_, exec_fabCmdRestore_hold ho hm, ?_⟩
    have hrows := cmdRestore_hold (s := begin s) hm
    by_cases h : s.ks.valid = false ∨ s.ks.lost = true ∨ s.straps.test = true ∨ s.pins.pfWarnLow = true
    · rw [hrows.trans (if_pos h)]
      simp only [if_pos h]
      exact ⟨rfl, fun hs => cmdRej_bit (s := begin s) hs⟩
    · rw [hrows.trans (if_neg h)]
      simp only [if_neg h, emit_ms, emit_ks, restoreEnter_ms, restoreEnter_ks, begin_ks, and_self]

end Sys2Proof.Machine
end

section
/-! PROOFS. Violations of the register matrix (R36, R410): the record that one leaves, the accesses that are refused, and the commands
written to registers. -/

namespace Sys2Proof.Machine

/-! ### What a register and a counter read after a violation -/

theorem regGet_regSet_ne {k off : Nat} (h : k ≠ off) (w : Word) (s : State) : regGet (regSet off w s) k = regGet s k := by
  unfold regGet regSet spSet
  split
  · exact spGet_spDel_ne h
  · exact spGet_spIns_ne h

theorem StoresWf.keyWf_cnt {s : State} (h : StoresWf s) : keyWf (fun _ => 0) 0 s.cnt.val = true := by
  obtain ⟨hs, -⟩ := h
  simp only [storesOk, cntOk, spWf, spWfFrom_eq, Bool.and_eq_true] at hs
  obtain ⟨-, hcnt, -⟩ := hs
  exact hcnt

theorem cntVal_cntSet_self {s : State} (h : keyWf (fun _ => 0) 0 s.cnt.val = true) (c v : Nat) :
    cntVal (cntSet c v s) c = v % 2 ^ 48 := by
  simp only [cntVal, cntSet_cnt]
  by_cases hv : v % 2 ^ 48 = 0
  · simp only [spSet, if_pos hv]
    exact (spGet_spDel_self h).trans hv.symm
  · exact spGet_spSet_self hv

theorem cntVal_cntSet_ne {k c : Nat} (h : k ≠ c) (v : Nat) (s : State) : cntVal (cntSet c v s) k = cntVal s k := spGet_spSet_ne h

/-- FREEZE does not stop a violation counter (R451), and counting leaves the other counters. -/
theorem cntVal_count_viol {c : Nat} (hc : isViol c = true) (s : State) (k : Nat) :
    cntVal (count c s) k = cntVal (cntSet c (cntVal s c + 1) s) k := by
  simp only [count, countN, hc, Bool.not_true, Bool.and_false, Bool.false_eq_true, if_false]
  split <;> rfl

/-- Counting leaves the registers. -/
theorem regGet_count (c : Nat) (s : State) (k : Nat) : regGet (count c s) k = regGet s k := by
  rw [count, countN_only]
  rfl

/-- A byte put at LAST_KIND reads back (R410). -/
theorem fld_putFld_lastKind (w : Word) {v : Nat} (hv : v < 256) : fld 55 48 (putFld 55 48 w v) = v := by
  have hw : w.toNat < 2 ^ 64 := w.isLt
  simp only [fld, putFld, putBits, nbits, BitVec.toNat_ofNat, Nat.shiftRight_eq_div_pow]
  omega

theorem isViol_violOff (m : Master) : isViol (violOff (masterNum m)) = true := by cases m <;> rfl

theorem kindCode_lt (k : Kind) : kindCode k < 256 := by
  cases k with
  | rtr n => cases n <;> decide
  | _ => decide

/-! ### The one record of a violation -/

/-- State t is s with o driven and a violation of master m recorded: its counter, and the KIND of the page (R410). -/
def Silent (s : State) (m : Master) (kind : Nat) (o : List Out) (t : State) : Prop :=
  t = { s with out := o, regs := t.regs, cnt := t.cnt } ∧
    cntVal t (violOff (masterNum m)) = (cntVal s (violOff (masterNum m)) + 1) % 2 ^ 48 ∧
    fld 55 48 (regGet t (violOff (masterNum m))) = kind ∧
    ∀ k, k ≠ violOff (masterNum m) → regGet t k = regGet s k ∧ cntVal t k = cntVal s k

/-- On a page, the KIND is put beside the counter, which counts (R410). -/
theorem violate_page {off : Nat} {pg : Page} (hpg : pageOf off = some pg) (m : Master) (s : State) :
    violate m off s = count (violOff (masterNum m)) (regPut (violOff (masterNum m)) 55 48 (kindCode pg.kind) s) := by
  simp only [violate, hpg]

/-- To put a field of a register and to count moves registers and counters alone. -/
theorem count_regPut_only (c hi lo v : Nat) (s : State) : count c (regPut c hi lo v s) =
    { s with regs := (count c (regPut c hi lo v s)).regs, cnt := (count c (regPut c hi lo v s)).cnt } := by
  rw [count, countN_only]
  rfl

/-- A violation is recorded, whatever is answered. -/
theorem silent_violate {s : State} (hs : StoresWf s) (m : Master) {off : Nat} {pg : Page} (hpg : pageOf off = some pg) (o : Out) :
    Silent s m (kindCode pg.kind) [o] { emit o (violate m off (begin s)) with pending := s.pending } := by
  rw [violate_page hpg]
  have hviol := isViol_violOff m
  have hkind := kindCode_lt pg.kind
  unfold Silent
  generalize violOff (masterNum m) = c at hviol ⊢
  generalize kindCode pg.kind = kind at hkind ⊢
  let u := regPut c 55 48 kind (begin s)
  refine ⟨?frame, ?counter, ?kind, fun k hk => ⟨?otherReg, ?otherCounter⟩⟩
  case frame => rw [count_regPut_only]; rfl
  case counter =>
    calc cntVal (count c u) c = cntVal (cntSet c (cntVal u c + 1) u) c := cntVal_count_viol hviol u c
      _ = (cntVal s c + 1) % 2 ^ 48 := cntVal_cntSet_self hs.keyWf_cnt c _
  case kind =>
    calc fld 55 48 (regGet (count c u) c) = fld 55 48 (regGet u c) := by rw [regGet_count]
      _ = fld 55 48 (putFld 55 48 (regGet s c) kind) := congrArg (fld 55 48) (regGet_regSet_self (s := begin s) hs.keyWf_regs c _)
      _ = kind := fld_putFld_lastKind _ hkind
  case otherReg =>
    calc regGet (count c u) k = regGet u k := regGet_count c u k
      _ = regGet s k := regGet_regSet_ne hk _ _
  case otherCounter =>
    calc cntVal (count c u) k = cntVal (cntSet c (cntVal u c + 1) u) k := cntVal_count_viol hviol u k
      _ = cntVal s k := cntVal_cntSet_ne hk _ u

/-! ### Accesses that are refused, and accesses of a hole -/

/-- Master m may not write offset o of a page now: in LOAD only the proposer writes, and else R408 tells (R409). -/
def WriteRefused (s : State) (m : Master) (pg : Page) (o : Nat) : Prop :=
  (s.ms.mode = .load ∧ m ≠ .mgt) ∨ (s.ms.mode ≠ .load ∧ mayWrite s m pg o = false)

/-- What another master writes is not folded into the running CRC (R381). -/
theorem foldLoad_not_mgt {m : Master} (h : m ≠ .mgt) (off size data : Nat) (s : State) : foldLoad m off size data s = s := by
  simp only [foldLoad, h, decide_false, Bool.and_false, Bool.false_and, Bool.false_eq_true, if_false]

theorem WriteRefused.foldLoad {s : State} {m : Master} {pg : Page} {o : Nat} (h : WriteRefused s m pg o) (off size data : Nat) :
    foldLoad m off size data s = s := by
  obtain ⟨-, hm⟩ | ⟨hl, -⟩ := h
  · exact foldLoad_not_mgt hm off size data s
  · exact foldLoad_other hl m off size data

/-- A refused write of one part to a setting is a violation (R409, R410). -/
theorem writePart_refused {m : Master} {pg : Page} {off size data : Nat} {s : State} (ho : MatrixOpen s) (hd : s.ms.mode ≠ .drain)
    (hr : regionOf (inPage pg off) = .basic ∨ regionOf (inPage pg off) = .expert ∨ regionOf (inPage pg off) = .tables)
    (hm : WriteRefused s m pg (inPage pg off)) : writePart m pg off size data s = violate m off s := by
  obtain ⟨-, -, hseal, -⟩ := ho
  have hw : writesHeld s = false := decide_eq_false hseal
  have h10 : inPage pg off ≠ 0x10 := by
    intro h
    rw [h] at hr
    revert hr
    decide
  unfold writePart
  simp only [hw, Bool.false_eq_true, if_false, hd, false_and, h10]
  obtain hload | ⟨hl, hmay⟩ := hm
  · rw [if_pos hload]
  · rw [if_neg fun h => hl h.1]
    obtain hr | hr | hr := hr <;> simp only [hr, hmay, Bool.false_eq_true, if_false]

/-- A refused write to one register is a violation, acknowledged as usual. -/
theorem matrixWrite_refused {m : Master} {off size data : Nat} {s : State} {pg : Page} (ho : MatrixOpen s) (hd : s.ms.mode ≠ .drain)
    (hpg : pageOf off = some pg) (hs : sizeOk off size = true) (hp : accessParts pg off size = [(off, size)])
    (hr : regionOf (inPage pg off) = .basic ∨ regionOf (inPage pg off) = .expert ∨ regionOf (inPage pg off) = .tables)
    (hm : WriteRefused s m pg (inPage pg off)) : matrixWrite m off size data .clean s = emit (.ack m) (violate m off s) := by
  rw [matrixWrite_open ho]
  simp only [writeAccess, hm.foldLoad, hs, Bool.not_true, Bool.false_eq_true, if_false, hpg, hp, List.foldl_cons, List.foldl_nil,
    writePart_refused ho hd hr hm]

/-- A refused read of one register is a violation, and returns zero. -/
theorem matrixRead_refused {m : Master} {off size : Nat} {s : State} {pg : Page} (ho : MatrixOpen s) (hpg : pageOf off = some pg)
    (hs : sizeOk off size = true) (hp : accessParts pg off size = [(off, size)]) (hm : mayRead s m pg (inPage pg off) = false) :
    matrixRead m off size .clean s = emit (.readData m 0) (violate m off s) := by
  have hread : readAccess m off size s = (0, violate m off s) := by
    simp only [readAccess, hs, Bool.not_true, Bool.false_eq_true, if_false, hpg, hp, List.foldl_cons, List.foldl_nil, readPart, hm,
      Bool.not_false, if_true, Nat.zero_mul, Nat.add_zero]
  rw [matrixRead_open ho, hread]
  rfl

/-- A hole ignores a write (R36). -/
theorem matrixWrite_hole {m : Master} {off size data : Nat} {s : State} (ho : MatrixOpen s) (hpg : pageOf off = none)
    (hs : sizeOk off size = true) (hm : m ≠ .mgt ∨ s.ms.mode ≠ .load) : matrixWrite m off size data .clean s = emit (.ack m) s := by
  have hfold : foldLoad m off size data s = s :=
    hm.elim (foldLoad_not_mgt · off size data s) (foldLoad_other · m off size data)
  rw [matrixWrite_open ho]
  simp only [writeAccess, hfold, hs, Bool.not_true, Bool.false_eq_true, if_false, hpg]

/-- A hole reads zero (R36). -/
theorem matrixRead_hole {m : Master} {off size : Nat} {s : State} (ho : MatrixOpen s) (hpg : pageOf off = none)
    (hs : sizeOk off size = true) : matrixRead m off size .clean s = emit (.readData m 0) s := by
  have hread : readAccess m off size s = (0, s) := by
    simp only [readAccess, hs, Bool.not_true, Bool.false_eq_true, if_false, hpg]
  rw [matrixRead_open ho, hread]
  rfl

theorem exec_registerRead (m : Master) (off : BitVec 24) (size : Nat) (ecc : Ecc) (s : State) :
    exec (.registerRead m off size ecc) s = performs (matrixRead m off.toNat size ecc) s := rfl

theorem exec_registerWrite (m : Master) (off : BitVec 24) (size : Nat) (data : BitVec 64) (ecc : Ecc) (s : State) :
    exec (.registerWrite m off size data ecc) s = performs (matrixWrite m off.toNat size data.toNat ecc) s := rfl

/-! ### The commands written to registers -/

/-- An access of size bytes at off is one whole register of page pg, in its basic region, of the proposer's class. -/
abbrev SettingAt (off size : Nat) (pg : Page) : Prop :=
  pageOf off = some pg ∧ sizeOk off size = true ∧ accessParts pg off size = [(off, size)] ∧ regionOf (inPage pg off) = .basic ∧
    kindClass pg.kind = .proposer

theorem settingAt_sampler (n : Fin 4) : SettingAt (samplerPage n.val + 0x68) 8 ⟨.sampler, n.val, samplerPage n.val⟩ := by
  revert n; decide
theorem settingAt_tileCtrl (t : Fin 48) : SettingAt (tilePage t.val + 0x40) 4 ⟨.tile, t.val, tilePage t.val⟩ := by
  revert t; decide
theorem settingAt_slCtrl (n : Fin 10) : SettingAt (slPage n.val 0 + 0x40) 4 ⟨.slLink, n.val, slPage n.val 0⟩ := by
  revert n; decide
theorem settingAt_portCtrl {p : Fin 96} (h : usedPort p.val = true) :
    SettingAt (portPage p.val + 0x40) 4 ⟨.port, p.val, portPage p.val⟩ := by
  revert p; decide
theorem settingAt_portFence {p : Fin 96} (h : usedPort p.val = true) :
    SettingAt (portPage p.val + 0x44) 4 ⟨.port, p.val, portPage p.val⟩ := by
  revert p; decide

/-- Beside the proposer, only the PFC writes FAB_CMD, and only the confirmer CLASP_CANCEL and CLASP_CONFIRM (R408). -/
theorem mayWrite_not_mgt {s : State} {m : Master} {pg : Page} {o : Nat} (hm : m ≠ .mgt) (hr : regionOf o = .basic)
    (hc : kindClass pg.kind = .proposer) (hpfc : pg.kind = .global → m = .pfc → o < 0x48 ∨ 0x50 ≤ o)
    (hconf : pg.kind = .clasp → m = confirmer s → o < 0x60 ∨ 0x70 ≤ o) : mayWrite s m pg o = false := by
  have hclass : classAt pg o = .proposer := by rw [classAt, if_neg (by rw [hr]; decide), hc]
  have hreg (b : Nat) (hlo : 0x60 ≤ b) (hhi : b + 8 ≤ 0x70) (hm : m = confirmer s) : ¬(pg.kind = .clasp ∧ b ≤ o ∧ o < b + 8) := by
    rintro ⟨hk, h⟩
    have := hconf hk hm
    omega
  have hcmd : ¬(m = .pfc ∧ pg.kind = .global ∧ 0x48 ≤ o ∧ o < 0x50) := by
    rintro ⟨hm, hk, h⟩
    have := hpfc hk hm
    omega
  simp only [mayWrite, hclass, hm, hcmd, decide_false, Bool.false_and, reduceCtorEq, false_and, and_false, Bool.or_false, Bool.false_or,
    ← Bool.decide_and]
  split
  · next h => exact decide_eq_false fun hm => hreg 0x68 (by decide) (by decide) hm (of_decide_eq_true h)
  · exact decide_eq_false fun h => hreg 0x60 (by decide) (by decide) h.1 h.2

theorem confirmer_ne_mgt (s : State) : confirmer s ≠ .mgt := by
  unfold confirmer
  split <;> decide

/-- Command c is a write of size bytes at off by master m. -/
def WritesAt (m : Master) (off size : Nat) (c : Instr) : Prop :=
  ∀ s, ∃ f, exec c s = performs f s ∧ ∀ u, ∃ data, f u = matrixWrite m off size data .clean u

/-- A command that writes a setting its master may not write is a violation. -/
theorem command_refused {s : State} {m : Master} {off size : Nat} {pg : Page} (hs : StoresWf s) (ho : MatrixOpen s)
    (hd : s.ms.mode ≠ .drain) (hset : SettingAt off size pg) (hm : WriteRefused s m pg (inPage pg off)) {c : Instr}
    (hc : WritesAt m off size c) : Completes c s (Silent s m (kindCode pg.kind) [.ack m]) := by
  obtain ⟨hpg, hsize, hparts, hr, -⟩ := hset
  obtain ⟨f, hf, hwrite⟩ := hc s
  obtain ⟨data, hdata⟩ := hwrite (begin s)
  refine Completes.of_performs hf ?_
  rw [hdata, matrixWrite_refused (s := begin s) ho hd hpg hsize hparts (.inl hr) hm]
  exact silent_violate hs m hpg _

/-- A setting of a page that no other master writes. -/
theorem writeRefused_setting {s : State} {m : Master} {off size : Nat} {pg : Page} (hm : m ≠ .mgt) (hset : SettingAt off size pg)
    (hpfc : s.ms.mode ≠ .load → pg.kind = .global → m = .pfc → inPage pg off < 0x48 ∨ 0x50 ≤ inPage pg off)
    (hconf : s.ms.mode ≠ .load → pg.kind = .clasp → m = confirmer s → inPage pg off < 0x60 ∨ 0x70 ≤ inPage pg off) :
    WriteRefused s m pg (inPage pg off) := by
  obtain ⟨-, -, -, hr, hc⟩ := hset
  by_cases hl : s.ms.mode = .load
  · exact .inl ⟨hl, hm⟩
  · exact .inr ⟨hl, mayWrite_not_mgt hm hr hc (hpfc hl) (hconf hl)⟩

section
variable {s : State} {m : Master} (hs : StoresWf s) (ho : MatrixOpen s) (hd : s.ms.mode ≠ .drain) (hm : m ≠ .mgt)
include hs ho hd hm

/-- A command that another master than the proposer writes, on a page where it has no register of its own. -/
theorem command_refused_page {off size : Nat} {pg : Page} (hset : SettingAt off size pg) (hk : pg.kind ≠ .global ∧ pg.kind ≠ .clasp) :
    ∀ {c : Instr}, WritesAt m off size c → Completes c s (Silent s m (kindCode pg.kind) [.ack m]) :=
  command_refused hs ho hd hset (writeRefused_setting hm hset (fun _ h => absurd h hk.1) fun _ h => absurd h hk.2)

theorem sealWrite_refused (crc : BitVec 32) : ∀ c ∈ [Instr.sealWrite m crc], Completes c s (Silent s m 1 [.ack m]) := by
  have hset : SettingAt 0x50 8 ⟨.global, 0, 0⟩ := by decide
  have hm' : WriteRefused s m ⟨.global, 0, 0⟩ 0x50 := writeRefused_setting hm hset (fun _ _ _ => .inr (by decide)) (by nofun)
  exact List.forall_mem_singleton.2 (command_refused hs ho hd hset hm' fun _ => ⟨_, rfl, fun _ => ⟨_, rfl⟩⟩)

theorem timeCommands_refused (id : BitVec 9) :
    ∀ c ∈ [Instr.hmSubmitAtTime m, .hmSubmitNextFrame m, .hmCancel m id, .syncDisable m], Completes c s (Silent s m 2 [.ack m]) := by
  have hk : Kind.time ≠ .global ∧ Kind.time ≠ .clasp := by decide
  have hsubmit : SettingAt 0x1058 8 ⟨.time, 0, 0x1000⟩ := by decide
  have hctrl : SettingAt 0x1040 8 ⟨.time, 0, 0x1000⟩ := by decide
  have refused {c : Instr} (hc : WritesAt m 0x1058 8 c) := command_refused_page hs ho hd hm hsubmit hk hc
  simp only [List.forall_mem_cons]
  refine ⟨refused ?_, refused ?_, refused ?_, command_refused_page hs ho hd hm hctrl hk ?_, List.forall_mem_nil _⟩ <;>
    exact fun _ => ⟨_, rfl, fun _ => ⟨_, rfl⟩⟩

theorem claspCommands_refused (d : BitVec 64) :
    ∀ c ∈ [Instr.claspOpen m, .claspClose m, .claspStage m d, .claspArm m d], Completes c s (Silent s m 3 [.ack m]) := by
  have refused {c : Instr} (off : Nat) (hset : SettingAt off 8 ⟨.clasp, 0, 0x2000⟩) (hlow : off - 0x2000 < 0x60)
      (hc : WritesAt m off 8 c) : Completes c s (Silent s m 3 [.ack m]) :=
    command_refused hs ho hd hset (writeRefused_setting hm hset (by nofun) fun _ _ _ => .inl hlow) hc
  simp only [List.forall_mem_cons]
  refine ⟨refused 0x2040 (by decide) (by decide) ?_, refused 0x2040 (by decide) (by decide) ?_,
    refused 0x2050 (by decide) (by decide) ?_, refused 0x2058 (by decide) (by decide) ?_, List.forall_mem_nil _⟩ <;>
    exact fun _ => ⟨_, rfl, fun _ => ⟨_, rfl⟩⟩

theorem faultCommands_refused (k : BitVec 2) (i : BitVec 7) :
    ∀ c ∈ [Instr.fltAcknowledge m k i, .fltReadmit m k i], Completes c s (Silent s m 4 [.ack m]) := by
  have hset : SettingAt 0x3048 8 ⟨.fault, 0, 0x3000⟩ := by decide
  have refused {c : Instr} (hc : WritesAt m 0x3048 8 c) := command_refused_page hs ho hd hm hset (by decide) hc
  simp only [List.forall_mem_cons]
  refine ⟨refused ?_, refused ?_, List.forall_mem_nil _⟩ <;>
    exact fun _ => ⟨_, rfl, fun _ => ⟨_, rfl⟩⟩

theorem samplerClear_refused (z : Fin 4) : ∀ c ∈ [Instr.samplerClear m z], Completes c s (Silent s m 9 [.ack m]) :=
  List.forall_mem_singleton.2
    (command_refused_page hs ho hd hm (settingAt_sampler z) ⟨nofun, nofun⟩ fun _ => ⟨_, rfl, fun _ => ⟨_, rfl⟩⟩)

theorem tileCommands_refused (tl : Fin 48) :
    ∀ c ∈ [Instr.tileIsolateCmd m tl, .tileReadmitCmd m tl], Completes c s (Silent s m 0x10 [.ack m]) := by
  have refused {c : Instr} (hc : WritesAt m (tilePage tl.val + 0x40) 4 c) :=
    command_refused_page hs ho hd hm (settingAt_tileCtrl tl) ⟨nofun, nofun⟩ hc
  simp only [List.forall_mem_cons]
  refine ⟨refused ?_, refused ?_, List.forall_mem_nil _⟩ <;>
    exact fun _ => ⟨_, rfl, fun _ => ⟨_, rfl⟩⟩

theorem strandCommands_refused (n : Fin 10) (p : StrandPwr) (w : WidthReq) :
    ∀ c ∈ [Instr.strandEnable m n, .strandDisable m n, .sreset m n, .retrain m n, .strandPwrReq m n p, .strandWidthReq m n w],
      Completes c s (Silent s m 0x30 [.ack m]) := by
  have refused {c : Instr} (hc : WritesAt m (slPage n.val 0 + 0x40) 4 c) :=
    command_refused_page hs ho hd hm (settingAt_slCtrl n) ⟨nofun, nofun⟩ hc
  simp only [List.forall_mem_cons]
  refine ⟨refused ?_, refused ?_, refused ?_, refused ?_, refused ?_, refused ?_, List.forall_mem_nil _⟩ <;>
    exact fun _ => ⟨_, rfl, fun _ => ⟨_, rfl⟩⟩

theorem portCommands_refused {p : Fin 96} (hp : usedPort p.val = true) :
    ∀ c ∈ [Instr.qreset m p, .fenceRequest m p, .fenceCancel m p], Completes c s (Silent s m 0x20 [.ack m]) := by
  have refused {c : Instr} (hc : WritesAt m (portPage p.val + 0x44) 4 c) :=
    command_refused_page hs ho hd hm (settingAt_portFence hp) ⟨nofun, nofun⟩ hc
  simp only [List.forall_mem_cons]
  refine ⟨command_refused_page hs ho hd hm (settingAt_portCtrl hp) ⟨nofun, nofun⟩ ?_, refused ?_, refused ?_, List.forall_mem_nil _⟩ <;>
    exact fun _ => ⟨_, rfl, fun _ => ⟨_, rfl⟩⟩

theorem fabCommands_refused (hpfc : m ≠ .pfc ∨ s.ms.mode = .load) :
    ∀ c ∈ [Instr.fabCmdLoad m, .fabCmdAbort m, .fabCmdRestore m, .drainToHold m, .drainToKeep m],
      Completes c s (Silent s m 1 [.ack m]) := by
  have hset : SettingAt 0x48 8 ⟨.global, 0, 0⟩ := by decide
  have hm' : WriteRefused s m ⟨.global, 0, 0⟩ 0x48 :=
    writeRefused_setting hm hset (fun hl _ h => absurd h (hpfc.resolve_right hl)) (by nofun)
  have refused {c : Instr} (hc : WritesAt m 0x48 8 c) := command_refused hs ho hd hset hm' hc
  simp only [List.forall_mem_cons]
  refine ⟨refused ?_, refused ?_, refused ?_, refused ?_, refused ?_, List.forall_mem_nil _⟩ <;>
    exact fun _ => ⟨_, rfl, fun _ => ⟨_, rfl⟩⟩

theorem confirmerCommands_refused (hconf : m ≠ confirmer s ∨ s.ms.mode = .load) (d : BitVec 32) :
    ∀ c ∈ [Instr.claspConfirm m d, .claspCancel m], Completes c s (Silent s m 3 [.ack m]) := by
  have refused {c : Instr} (off : Nat) (hset : SettingAt off 8 ⟨.clasp, 0, 0x2000⟩) (hc : WritesAt m off 8 c) :
      Completes c s (Silent s m 3 [.ack m]) :=
    command_refused hs ho hd hset
      (writeRefused_setting hm hset (by nofun) fun hl _ h => absurd h (hconf.resolve_right hl)) hc
  simp only [List.forall_mem_cons]
  refine ⟨refused 0x2068 (by decide) ?_, refused 0x2060 (by decide) ?_, List.forall_mem_nil _⟩ <;>
    exact fun _ => ⟨_, rfl, fun _ => ⟨_, rfl⟩⟩

end

/-- The proposer itself may not confirm its set (R413). -/
theorem claspConfirm_mgt_refused {s : State} (hs : StoresWf s) (ho : MatrixOpen s) (hd : s.ms.mode ≠ .drain) (hl : s.ms.mode ≠ .load)
    (d : BitVec 32) : ∀ c ∈ [Instr.claspConfirm .mgt d], Completes c s (Silent s .mgt 3 [.ack .mgt]) := by
  have hset : SettingAt 0x2068 8 ⟨.clasp, 0, 0x2000⟩ := by decide
  have hmay : mayWrite s .mgt ⟨.clasp, 0, 0x2000⟩ 0x68 = false := decide_eq_false (confirmer_ne_mgt s).symm
  exact List.forall_mem_singleton.2 (command_refused hs ho hd hset (.inr ⟨hl, hmay⟩) fun _ => ⟨_, rfl, fun _ => ⟨_, rfl⟩⟩)

/-- Settles O32: a refused access is a violation, which leaves its record alone; so is each command at a register its master may not
write. -/
theorem violations : Obligations.Violations := by
  unfold Obligations.Violations
  intro s m hs ho
  refine ⟨fun off size hsize =>
      ⟨fun hole => ⟨?readHole, fun data hm => ?writeHole⟩, fun pg hpg hparts => ⟨fun hm => ?read, ?write⟩⟩,
    fun hd hm => ⟨?commands, ?ports, ?fabCmd, ?confirmer⟩, ?proposer⟩
  case readHole => exact Completes.of_performs (exec_registerRead ..) (by rw [matrixRead_hole (s := begin s) ho hole hsize]; rfl)
  case writeHole => exact Completes.of_performs (exec_registerWrite ..) (by rw [matrixWrite_hole (s := begin s) ho hole hsize hm]; rfl)
  case read =>
    refine Completes.of_performs (exec_registerRead ..) ?_
    rw [matrixRead_refused (s := begin s) ho hpg hsize hparts hm]
    exact silent_violate hs m hpg _
  case write =>
    intro data hr hd hm
    refine List.forall_mem_singleton.2 (Completes.of_performs (exec_registerWrite ..) ?_)
    rw [matrixWrite_refused (s := begin s) ho hd hpg hsize hparts hr hm]
    exact silent_violate hs m hpg _
  case commands =>
    intro id crc d k i tl n z p w
    exact ⟨sealWrite_refused hs ho hd hm crc, timeCommands_refused hs ho hd hm id, claspCommands_refused hs ho hd hm d,
      faultCommands_refused hs ho hd hm k i, samplerClear_refused hs ho hd hm z, tileCommands_refused hs ho hd hm tl,
      strandCommands_refused hs ho hd hm n p w⟩
  case ports => exact fun p hp => portCommands_refused hs ho hd hm hp
  case fabCmd => exact fabCommands_refused hs ho hd hm
  case confirmer => exact fun hconf d => confirmerCommands_refused hs ho hd hm hconf d
  case proposer =>
    rintro hd hl rfl d
    exact claspConfirm_mgt_refused hs ho hd hl d

end Sys2Proof.Machine
end

section
/-! PROOFS. The end of a clasp set (R416 to R418), refuted: an access that waits for the set may be the write that opens the next one. -/

namespace Sys2Proof.Machine

/-- In HOLD an armed set stands at its launch, its entry sent, and a page it writes has changed since its check; a write of CLASP_OPEN,
OP 1, by the proposer is withheld. -/
def openWithheld : State :=
  { State.reset with
    time := { state := .loc }
    hm := { gq := (Vector.replicate 32 none).set 0 (some { act := 9, sent := true, owner := .clasp }) }
    clasp := { state := .armed, recs := [{ off := 0x58, width := 8, data := 0, sel := 0, bank := false }] }
    changes := [(0, 1)]
    withheld := [{ m := .mgt, off := 0x2040, size := 8, wr := true, data := 1, ecc := .clean }] }

theorem nextGlobal_openWithheld : nextGlobal openWithheld 9 = some (0, { act := 9, sent := true, owner := .clasp }) := by decide +kernel

theorem claspStale_openWithheld : claspStale openWithheld = true := by decide +kernel

/-- The launch discards the stale set, and the write then granted opens a new one (R411). -/
theorem claspApplyDo_openWithheld : (claspApplyDo (begin openWithheld)).clasp.state = .staging := by decide +kernel

/-- Refutes O27: its sixth clause has the clasp IDLE after the launch of a stale set whatever write was withheld, and does not ask that
the write is to a page of the set (R55). A withheld write of CLASP_OPEN, which no set can hold (R412), leaves STAGING. -/
theorem not_claspEnds : ¬ Obligations.ClaspEnds := by
  unfold Obligations.ClaspEnds
  intro h
  obtain ⟨-, -, -, -, -, hgranted, -⟩ := h openWithheld
  obtain ⟨t, ht, -, -, hidle⟩ := hgranted _ rfl _ _ nextGlobal_openWithheld rfl rfl rfl rfl claspStale_openWithheld
  have hrun : exec .claspApply openWithheld = performs claspApplyDo openWithheld := rfl
  obtain rfl := Host.Outcome.next.inj (hrun.symm.trans ht)
  exact absurd (claspApplyDo_openWithheld.symm.trans hidle) (by decide)

end Sys2Proof.Machine
end
